-- ==== Sys2Proof/Word.lean ====
section
/-!
DEFINITION. The word types of the module: a byte, a parcel, a register word, a double and a 40-bit device address
(R26, R98, R107, R123).
-/
namespace Sys2Proof

/-- The unit of addressing (R107). -/
abbrev Byte := BitVec 8

/-- One 16-bit Pyriva parcel (R123). -/
abbrev Parcel := BitVec 16

/-- A 32-bit register word. -/
abbrev Word := BitVec 32

/-- A 64-bit register or data double. -/
abbrev Double := BitVec 64

/-- A device address (R26). -/
abbrev Addr := BitVec 40

end Sys2Proof
end

