-- ==== Sys2Proof/Syntax.lean ====
section
/-!
DEFINITION. The commands of the module: one constructor per row of the opcode table, with the row's operands. What an
outside agent decides or supplies (a read's data, the outcome of a training, a level on a pin) is an operand of the
command that brings it in.
-/
namespace Sys2Proof

/-- A bench, BENCH0 to BENCH3 (R30). -/
abbrev BenchId := Fin 4
/-- A host link (R42). -/
abbrev LinkId := Fin 4
/-- A head, HEAD0 to HEAD7. -/
abbrev HeadId := Fin 8
/-- A Carter channel. -/
abbrev ChanId := Fin 64
/-- A block engine. -/
abbrev BlkId := Fin 2
/-- A Bellwire channel. -/
abbrev BellId := Fin 128
/-- An interrupt source number. -/
abbrev SrcId := Fin 1024
/-- A CIO pin. -/
abbrev PinId := Fin 96
/-- A ring by its global number. -/
abbrev RingId := Fin 16384

/-- A Pyriva core (R95). -/
inductive CoreId where
  | scene (c : Fin 32)
  | line (h : Fin 8)
  | clerk
deriving DecidableEq, Repr

/-- Who makes a fabric access (R29, R96). -/
inductive Requester where
  | host (b : BenchId)
  | core (c : CoreId)
  | carter (c : ChanId)
  | block (e : BlkId)
deriving DecidableEq, Repr

/-- Where a host access arrives (R47, R48): a BAR and an offset, or configuration space. -/
inductive HostSpace where
  | bar0
  | bar2
  | bar4
  | config
deriving DecidableEq, Repr

/-- The target of a register access: a device address for the module's own requesters, a BAR offset for a host, whose write
may come in poisoned (R51). -/
inductive AccessAt where
  | device (req : Requester) (addr : Addr)
  | host (b : BenchId) (space : HostSpace) (off : Addr)
  | hostPoisoned (b : BenchId) (space : HostSpace) (off : Addr)
deriving DecidableEq, Repr

/-- A Pyriva instruction as its core meets it: the core, the guard of its first parcel and the VAR field (R108, R123,
R126). -/
structure Guard where
  core : CoreId
  pred : Fin 8
  neg  : Bool
  var  : BitVec 4
deriving DecidableEq, Repr

/-- One operand: its specifier parcel and its extension parcels, low parcel first (R101, R123). -/
structure Operand where
  spec : Parcel
  ext  : Double
deriving DecidableEq, Repr

/-- The string instruction a prefix precedes, with its operand where it has one (R153). -/
inductive StringOp where
  | smov
  | sset (a : Operand)
  | sget (d : Operand)
  | scmp
  | sfind (a : Operand)
deriving DecidableEq, Repr

/-- What the instruction after a prefix parcel is: a string instruction, or another first parcel (R156). -/
inductive Prefixed where
  | str (op : StringOp)
  | other (parcel : Parcel)
deriving DecidableEq, Repr

/-- The result of a display-link training (R295). -/
inductive TrainResult where
  | trained (rate : Fin 16) (lanes : Fin 3) (psr : Bool) (suLines : Fin 4096)
  | failCr
  | failAux
deriving DecidableEq, Repr

/-- What the sink answered to an AUX request (R298, R299). -/
inductive AuxReply where
  | ack (bytes : List Byte)
  | nack
  | defer
  | timeout
  | malformed
  | noSink
deriving DecidableEq, Repr

/-- The source of a reference edge (R283). -/
inductive EdgeSource where
  | te (level : Bool)
  | flkIn (level : Bool)
  | refHead
  | channel (c : Fin 128)
deriving DecidableEq, Repr

/-- What a pattern engine read: a map, pattern or sprite source fetch (R213, R231), an entry of its palette RAM (R198), or an
entry of its front or back sprite store (R310, R316). -/
inductive PeFetch where
  | tile (t : Fin 4)
  | sprite
  | palette (entry : Fin 16384)
  | store (back : Bool) (idx : Fin 65536)
deriving DecidableEq, Repr

/-- What a reset's zero fill covers (R62). -/
inductive FillUnit where
  | granule (g : Fin 128)
  | scratch (page : Fin 28)
  | workspace (c : Fin 32)
deriving DecidableEq, Repr

/-- The link errors of R68 that AER logs. -/
inductive TlpError where
  | lcrc
  | ecrc
  | malformed
deriving DecidableEq, Repr

/-- What sends messages left pending in the PBA (R63). -/
inductive MsixAct where
  | vector (v : Fin 256)
  | functionMask (masked : Bool)
  | busMaster (on : Bool)
deriving DecidableEq, Repr

/-- What a read of host memory brought back (R85, R405). -/
inductive HostRead where
  | notHost
  | data (bytes : List Byte)
  | poisoned
  | refused
deriving DecidableEq, Repr

/-- Which part of STOP_CARTER a write covers (R91). -/
inductive StopHalf where
  | low
  | high
  | both
deriving DecidableEq, Repr

/-- A sample voice or a tone voice (R338). -/
inductive VoiceId where
  | sample (v : Fin 1024)
  | tone (t : Fin 64)
deriving DecidableEq, Repr

/-- A unit whose gain or route waits for a zero crossing (R358). -/
inductive ZcUnit where
  | bus (b : Fin 64)
  | out (c : Fin 128)
  | sidetone (s : Fin 64)
deriving DecidableEq, Repr

/-- The bus errors a Carter request can end in (R405). -/
inductive BusErr where
  | timeout
  | refused
  | decode
  | poison
  | notIssued
deriving DecidableEq, Repr

/-- An error that a read finds in a word: one that it corrects, or an uncorrectable one (R411). -/
inductive EccFound where
  | corrected
  | uncorrectable
deriving DecidableEq, Repr

/-- What a fetch brought back (R198, R260, R367, R411): how many bytes, and the address and kind of an error that it found. -/
structure Fetched where
  bytes : Fin 65536
  found : Option (Addr × EccFound)
deriving DecidableEq, Repr

/-- A host's read through BAR2: how many bytes, and an error that it finds (R50, R411). -/
structure HostFetch where
  size  : Nat
  found : Option (Addr × EccFound)
deriving DecidableEq, Repr

/-- A voice's fetch returns, or its data is not there by the sample that needs it next (R367). -/
inductive VoiceData where
  | back (data : Fetched)
  | late
deriving DecidableEq, Repr

/-- What the journeyman and the engine it checks show at a line's boundary (R312): their requests differ, and, where the engine's
digest differs from the journeyman's, the digest. -/
structure AssayView where
  requestsDiffer : Bool
  digest         : Option Word
deriving DecidableEq, Repr

/-- The end of a head's active scan line; a write of the surface's row failed (R271, R291). -/
structure ScanEnd where
  head         : HeadId
  captureFails : Bool
deriving DecidableEq, Repr

/-- A transfer on the slot SMBus (R70): the 7-bit address, and a write rather than Read Word. -/
structure SmbusCall where
  addr  : BitVec 7
  write : Bool
deriving DecidableEq, Repr

/-- What a serial unit's finished byte brought in (R484, R490). -/
inductive SerResult where
  | sent
  | received (byte : Byte) (err : Bool)
  | exchanged (byte : Byte)
  | i2c (acked : Bool) (byte : Byte)
deriving DecidableEq, Repr

/-- Why a dozing module wakes (R533). -/
inductive WakeCause where
  | hostAccess (b : BenchId)
  | watch
  | servicePort
  | dozeOff (b : BenchId)
  | perst
deriving DecidableEq, Repr

/-- What the closing test found failing (R511, R512). -/
structure ClosingResult where
  cores    : BitVec 32
  lines    : BitVec 8
  engines  : BitVec 9
  banks    : BitVec 16
  heads    : BitVec 8
  lanes    : BitVec 4
  segments : Fin 3
  pages    : List Addr
deriving DecidableEq, Repr

/-- The unit whose internal check fails: a pattern engine (R316); or a bench's Carter channel, block engine, ring-head cache share or core
register file, whose internal state holds an uncorrectable error (UNIT_STATE, R502). No other command brings the latter: that this one does
is the model's choice (DESIGN CHOICE, log 104). -/
inductive CheckUnit where
  | engine (e : Fin 9)
  | carter (c : ChanId)
  | block (e : BlkId)
  | cache (b : BenchId)
  | core (c : CoreId)
deriving DecidableEq, Repr

/-- The functions that report ready on their own (R526). -/
inductive ReadyFn where
  | queue
  | mailbox
  | bellwire
  | carter
  | block
  | core (c : Fin 32)
  | audio
  | head (h : Fin 8)
  | scratch
deriving DecidableEq, Repr

/-- The header fields of a service-port command frame that its reply depends on (R546). -/
structure Frame where
  session : BitVec 16
  tag     : BitVec 16
deriving DecidableEq, Repr


/-- A command of the module: one constructor per row of the opcode table, in the table's order. -/
inductive Instr where
  /-- REGISTER_WRITE (R18). -/
  | registerWrite (at_ : AccessAt) (size : Nat) (value : Double)
  /-- PERST_ASSERT (R523). -/
  | perstAssert
  /-- PERST_DEASSERT (R520). -/
  | perstDeassert
  /-- FUNCTION_LEVEL_RESET (R60). -/
  | functionLevelReset (b : BenchId)
  /-- FLR_COMPLETE (R62). -/
  | flrComplete (b : BenchId)
  /-- SCRUB_FILL_DONE (R62). -/
  | scrubFillDone (b : BenchId) (unit : FillUnit)
  /-- D3HOT_ENTRY (R67). -/
  | d3hotEntry (b : BenchId)
  /-- D3HOT_TO_D0 (R60). -/
  | d3hotToD0 (b : BenchId)
  /-- HOT_RESET (R60). -/
  | hotReset (l : LinkId)
  /-- LINK_UP (R68). -/
  | linkUp (l : LinkId) (width : Fin 5) (rate : Fin 6)
  /-- LINK_TRAIN_TIMEOUT (R68). -/
  | linkTrainTimeout (l : LinkId)
  /-- REFCLK_LOSS (R68). -/
  | refclkLoss
  /-- PCIE_ERROR_TLP (R68). -/
  | pcieErrorTlp (l : LinkId) (kind : TlpError)
  /-- BAR0_ACCESS_BAD (R71). -/
  | bar0AccessBad (b : BenchId) (off : Addr) (size : Nat) (write : Bool) (value : Double)
  /-- BAR2_READ (R51). -/
  | bar2Read (b : BenchId) (off : Addr) (data : HostFetch)
  /-- BAR2_WRITE (R50). -/
  | bar2Write (b : BenchId) (off : Addr) (bytes : List Byte) (poisoned : Bool)
  /-- MSIX_VECTOR_UNMASK (R63). -/
  | msixVectorUnmask (b : BenchId) (act : MsixAct)
  /-- PTM_REQ (R64). -/
  | ptmReq (b : BenchId)
  /-- PTM_PERIOD_TIMER (R64). -/
  | ptmPeriodTimer (b : BenchId)
  /-- PTM_MEASUREMENT_END (R64). -/
  | ptmMeasurementEnd (b : BenchId) (tbReq : Double) (master : Double) (prop : Word)
  /-- PTM_TIMEOUT (R65). -/
  | ptmTimeout (b : BenchId)
  /-- ASPM_L1_ENTRY (R66). -/
  | aspmL1Entry (l : LinkId)
  /-- SMBUS_READ_WORD (R70). -/
  | smbusReadWord (call : SmbusCall) (cmd : Byte)
  /-- SMBUS_TIMEOUT (R68). -/
  | smbusTimeout
  /-- DOORBELL_WRITE (R82). -/
  | doorbellWrite (b : BenchId) (off : Addr) (size : Nat) (value : Double)
  /-- BAR4_BAD_ACCESS (R82). -/
  | bar4BadAccess (b : BenchId) (off : Addr) (size : Nat) (write : Bool) (value : Double)
  /-- RING_ENABLE (R88). -/
  | ringEnable (req : Requester) (g : RingId) (ctl : Word)
  /-- RING_DISABLE (R88). -/
  | ringDisable (req : Requester) (g : RingId) (ctl : Word)
  /-- RING_ENTRY_FETCHED (R84). -/
  | ringEntryFetched (g : RingId) (host : HostRead)
  /-- RING_ERR_CLEAR (R85). -/
  | ringErrClear (req : Requester) (g : RingId)
  /-- MBOX_DELIVER (R115). -/
  | mboxDeliver (c : Fin 32)
  /-- MBOX_DONE (R116). -/
  | mboxDone (c : Fin 32) (status : BitVec 16)
  /-- STOP_CARTER (R92). -/
  | stopCarter (b : BenchId) (half : StopHalf) (mask : Double)
  /-- STOP_CORES (R92). -/
  | stopCores (b : BenchId) (mask : Word)
  /-- STOP_UNITS (R92). -/
  | stopUnits (b : BenchId) (value : Word)
  /-- STOP_RELEASE (R94). -/
  | stopRelease (b : BenchId) (value : Word)
  /-- STOP_HALTED (R93). -/
  | stopHalted (b : BenchId)
  /-- STOP_QUIET (R93). -/
  | stopQuiet (b : BenchId)
  /-- CORE_RUN (R117). -/
  | coreRun (req : Requester) (c : CoreId)
  /-- CORE_HALT (R117). -/
  | coreHalt (req : Requester) (c : CoreId)
  /-- CORE_STEP (R117). -/
  | coreStep (req : Requester) (c : CoreId)
  /-- CORE_HALT_TAKEN (R33). -/
  | coreHaltTaken (c : CoreId)
  /-- CORE_WIN_WRITE (R116). -/
  | coreWinWrite (req : Requester) (c : CoreId) (off : Fin 512) (size : Nat) (value : Double)
  /-- LC_LOAD_DATA (R116). -/
  | lcLoadData (req : Requester) (h : HeadId) (data : Word)
  /-- LC_START (R170). -/
  | lcStart (h : HeadId)
  /-- INSTRUCTION_FETCH_FILL (R105). -/
  | instructionFetchFill (c : Fin 32)
  /-- INT_TRAP (R113). -/
  | intTrap (c : CoreId)
  /-- LATE_TRAP (R183). -/
  | lateTrap (h : HeadId)
  /-- UNDEFINED_OPCODE (R128). -/
  | undefinedOpcode (c : CoreId) (first : Parcel)
  /-- NOP (R134). -/
  | nop (g : Guard)
  /-- REP (R157). -/
  | rep (g : Guard) (pre : Parcel) (op : Prefixed)
  /-- REPM (R157). -/
  | repm (g : Guard) (pre : Parcel) (op : Prefixed)
  /-- REPD (R157). -/
  | repd (g : Guard) (pre : Parcel) (op : Prefixed)
  /-- REP_ITERATION (R157). -/
  | repIteration (c : CoreId)
  /-- HALT (R134). -/
  | halt (g : Guard)
  /-- TRAP (R134). -/
  | trap (g : Guard) (n : Operand)
  /-- RETT (R111). -/
  | rett (g : Guard)
  /-- WAIT (R136). -/
  | wait (g : Guard)
  /-- WAIT_COMPLETE (R136). -/
  | waitComplete (c : CoreId)
  /-- WAITL (R137). -/
  | waitl (g : Guard) (n : Operand)
  /-- WAITL_COMPLETE (R169). -/
  | waitlComplete (h : HeadId)
  /-- WAITS (R137). -/
  | waits (g : Guard) (n : Operand)
  /-- WAITS_COMPLETE (R137). -/
  | waitsComplete (h : HeadId)
  /-- WAITN (R137). -/
  | waitn (g : Guard)
  /-- WAITN_COMPLETE (R169). -/
  | waitnComplete (h : HeadId)
  /-- SYNC (R138). -/
  | sync (g : Guard)
  /-- SYNC_COMPLETE (R138). -/
  | syncComplete (c : CoreId)
  /-- CINV (R139). -/
  | cinv (g : Guard) (p n : Operand)
  /-- MOV (R140). -/
  | mov (g : Guard) (a d : Operand)
  /-- ZXT (R140). -/
  | zxt (g : Guard) (a d : Operand)
  /-- SXT (R140). -/
  | sxt (g : Guard) (a d : Operand)
  /-- LEA (R140). -/
  | lea (g : Guard) (p d : Operand)
  /-- SWAP (R142). -/
  | swap (g : Guard) (x y : Operand)
  /-- CLR (R140). -/
  | clr (g : Guard) (d : Operand)
  /-- BSWAP (R140). -/
  | bswap (g : Guard) (a d : Operand)
  /-- CAS (R141). -/
  | cas (g : Guard) (e n p : Operand)
  /-- ADD (R143). -/
  | add (g : Guard) (a b d : Operand)
  /-- ADC (R143). -/
  | adc (g : Guard) (a b d : Operand)
  /-- SUB (R143). -/
  | sub (g : Guard) (a b d : Operand)
  /-- SBC (R143). -/
  | sbc (g : Guard) (a b d : Operand)
  /-- NEG (R143). -/
  | neg (g : Guard) (a d : Operand)
  /-- CMP (R143). -/
  | cmp (g : Guard) (a b : Operand)
  /-- MUL (R143). -/
  | mul (g : Guard) (a b d : Operand)
  /-- MULHS (R143). -/
  | mulhs (g : Guard) (a b d : Operand)
  /-- MULHU (R143). -/
  | mulhu (g : Guard) (a b d : Operand)
  /-- MAC (R143). -/
  | mac (g : Guard) (a b c : Operand)
  /-- DIVS (R145). -/
  | divs (g : Guard) (a b d : Operand)
  /-- DIVU (R145). -/
  | divu (g : Guard) (a b d : Operand)
  /-- REMS (R145). -/
  | rems (g : Guard) (a b d : Operand)
  /-- REMU (R145). -/
  | remu (g : Guard) (a b d : Operand)
  /-- ABS (R145). -/
  | abs (g : Guard) (a d : Operand)
  /-- AND (R146). -/
  | and (g : Guard) (a b d : Operand)
  /-- OR (R146). -/
  | or (g : Guard) (a b d : Operand)
  /-- XOR (R146). -/
  | xor (g : Guard) (a b d : Operand)
  /-- NOT (R146). -/
  | not (g : Guard) (a d : Operand)
  /-- ANDN (R146). -/
  | andn (g : Guard) (a b d : Operand)
  /-- TST (R146). -/
  | tst (g : Guard) (a b : Operand)
  /-- SHL (R147). -/
  | shl (g : Guard) (a n d : Operand)
  /-- SHR (R147). -/
  | shr (g : Guard) (a n d : Operand)
  /-- SAR (R147). -/
  | sar (g : Guard) (a n d : Operand)
  /-- ROL (R147). -/
  | rol (g : Guard) (a n d : Operand)
  /-- ROR (R147). -/
  | ror (g : Guard) (a n d : Operand)
  /-- CLZ (R146). -/
  | clz (g : Guard) (a d : Operand)
  /-- POPC (R146). -/
  | popc (g : Guard) (a d : Operand)
  /-- BFX (R148). -/
  | bfx (g : Guard) (a f d : Operand)
  /-- BFI (R148). -/
  | bfi (g : Guard) (a f d : Operand)
  /-- QADD (R149). -/
  | qadd (g : Guard) (a b d : Operand)
  /-- QADDU (R149). -/
  | qaddu (g : Guard) (a b d : Operand)
  /-- QSUB (R149). -/
  | qsub (g : Guard) (a b d : Operand)
  /-- QSUBU (R149). -/
  | qsubu (g : Guard) (a b d : Operand)
  /-- MINS (R149). -/
  | mins (g : Guard) (a b d : Operand)
  /-- MAXS (R149). -/
  | maxs (g : Guard) (a b d : Operand)
  /-- MINU (R149). -/
  | minu (g : Guard) (a b d : Operand)
  /-- MAXU (R149). -/
  | maxu (g : Guard) (a b d : Operand)
  /-- PSET (R150). -/
  | pset (g : Guard) (k : Operand)
  /-- SET (R150). -/
  | set (g : Guard) (d : Operand)
  /-- B (R151). -/
  | b (g : Guard) (disp : Operand)
  /-- JMP (R151). -/
  | jmp (g : Guard) (t : Operand)
  /-- CALL (R151). -/
  | call (g : Guard) (t link : Operand)
  /-- CALLR (R151). -/
  | callr (g : Guard) (disp link : Operand)
  /-- DBNZ (R151). -/
  | dbnz (g : Guard) (c disp : Operand)
  /-- SMOV (R153). -/
  | smov (g : Guard)
  /-- SSET (R153). -/
  | sset (g : Guard) (a : Operand)
  /-- SGET (R153). -/
  | sget (g : Guard) (d : Operand)
  /-- SCMP (R153). -/
  | scmp (g : Guard)
  /-- SFIND (R153). -/
  | sfind (g : Guard) (a : Operand)
  /-- RENDER_LINE_BOUNDARY (R165). -/
  | renderLineBoundary (h : HeadId) (assay : AssayView)
  /-- SPAN_BOUNDARY (R163). -/
  | spanBoundary (h : HeadId)
  /-- SORT_DESCRIPTOR_READ (R223). -/
  | sortDescriptorRead (h : HeadId)
  /-- PE_FETCH_RETURN (R213). -/
  | peFetchReturn (h : HeadId) (what : PeFetch) (addr : Addr) (data : Fetched)
  /-- BITMAP_FETCH_RETURN (R260). -/
  | bitmapFetchReturn (h : HeadId) (p : Fin 4) (addr : Addr) (data : Fetched)
  /-- SURFACE_READ_RETURN (R271). -/
  | surfaceReadReturn (h : HeadId) (firstCol lastCol : Fin 4096) (uncorrectable : Bool)
  /-- STAGED_WRITE (R173). -/
  | stagedWrite (req : Requester) (addr : Addr) (size : Nat) (value : Double)
  /-- PALETTE_WRITE (R178). -/
  | paletteWrite (req : Requester) (addr : Addr) (size : Nat) (value : Double)
  /-- SHADOW_WRITE (R261). -/
  | shadowWrite (req : Requester) (addr : Addr) (size : Nat) (value : Double)
  /-- COMMIT (R262). -/
  | commit (req : Requester) (h : HeadId) (planes : BitVec 4)
  /-- SCAN_LINE_BOUNDARY (R263). -/
  | scanLineBoundary (h : HeadId)
  /-- FENCE_ARM (R264). -/
  | fenceArm (req : Requester) (h : HeadId) (p : Fin 4) (en : Bool) (chan : BellId)
  /-- FLAT_INVAL (R268). -/
  | flatInval (req : Requester) (h : HeadId)
  /-- HEAD_START (R279). -/
  | headStart (req : Requester) (h : HeadId)
  /-- BEAMS_START (R280). -/
  | beamsStart (h : HeadId)
  /-- HEAD_STOP (R281). -/
  | headStop (req : Requester) (h : HeadId)
  /-- HEAD_STOP_IMMEDIATE (R281). -/
  | headStopImmediate (req : Requester) (h : HeadId)
  /-- SYNC_EDGE (R283). -/
  | syncEdge (h : HeadId) (src : EdgeSource)
  /-- PRESENT_GO (R282). -/
  | presentGo (req : Requester) (h : HeadId)
  /-- SCAN_LINE_ACTIVE_END (R291). -/
  | scanLineActiveEnd (at_ : ScanEnd)
  /-- HPD_PLUG (R299). -/
  | hpdPlug (h : HeadId)
  /-- HPD_UNPLUG (R299). -/
  | hpdUnplug (h : HeadId)
  /-- IRQ_HPD (R299). -/
  | irqHpd (h : HeadId) (lockLost : Bool)
  /-- HPD_GLITCH (R299). -/
  | hpdGlitch (h : HeadId)
  /-- LINK_TRAINING_DONE (R295). -/
  | linkTrainingDone (h : HeadId) (result : TrainResult)
  /-- LINK_RETRY_TIMER (R295). -/
  | linkRetryTimer (h : HeadId)
  /-- LINK_LOST (R297). -/
  | linkLost (h : HeadId)
  /-- LINK_RETRAIN (R295). -/
  | linkRetrain (req : Requester) (h : HeadId)
  /-- AUX_GO (R298). -/
  | auxGo (req : Requester) (h : HeadId) (ctl : Word)
  /-- AUX_REPLY (R299). -/
  | auxReply (h : HeadId) (reply : AuxReply)
  /-- PSR_ENTER (R301). -/
  | psrEnter (req : Requester) (h : HeadId)
  /-- PSR_EXIT (R301). -/
  | psrExit (req : Requester) (h : HeadId)
  /-- PSR_SU_GO (R301). -/
  | psrSuGo (req : Requester) (h : HeadId)
  /-- MIRROR_COPY_DONE (R309). -/
  | mirrorCopyDone (h : HeadId)
  /-- ENGINE_INTERNAL_CHECK_FAIL (R316). -/
  | engineInternalCheckFail (unit : CheckUnit)
  /-- JOURNAL_BLOCK_SEAL (R321). -/
  | journalBlockSeal (h : HeadId)
  /-- GAP_RECORD (R327). -/
  | gapRecord (h : HeadId)
  /-- CKPT_REQ (R328). -/
  | ckptReq (req : Requester) (h : HeadId)
  /-- CKPT_END (R329). -/
  | ckptEnd (h : HeadId)
  /-- DRAIN_ENABLE (R331). -/
  | drainEnable (req : Requester) (h : HeadId) (size : Fin 32)
  /-- DRAIN_DISABLE (R331). -/
  | drainDisable (req : Requester) (h : HeadId) (size : Fin 32)
  /-- DRAIN_BLOCK (R331). -/
  | drainBlock (h : HeadId)
  /-- SAMPLE_BOUNDARY (R338). -/
  | sampleBoundary
  /-- KEY_ON (R349). -/
  | keyOn (req : Requester) (v : VoiceId)
  /-- KEY_OFF (R349). -/
  | keyOff (req : Requester) (v : VoiceId)
  /-- KILL (R351). -/
  | kill (req : Requester) (v : VoiceId)
  /-- AUD_SWAP (R348). -/
  | audSwap (req : Requester) (value : Word)
  /-- GAIN_TIMEOUT (R358). -/
  | gainTimeout (unit : ZcUnit)
  /-- CROSSFADE_END (R359). -/
  | crossfadeEnd (unit : ZcUnit)
  /-- VOICE_FETCH_RETURN (R367). -/
  | voiceFetchReturn (v : Fin 1024) (addr : Addr) (data : VoiceData)
  /-- AUDIO_CMD_WRITE (R366). -/
  | audioCmdWrite
  /-- AUDIO_CMD_MARK (R365). -/
  | audioCmdMark
  /-- AUDIO_CMD_UNKNOWN (R365). -/
  | audioCmdUnknown
  /-- TDM_FRAME (R361). -/
  | tdmFrame (portB : Bool) (slotsIn : List (Fin 4 × Fin 16 × BitVec 24))
  /-- WCLK_EDGE (R363). -/
  | wclkEdge (portB : Bool) (inRange : Bool)
  /-- WCLK_LOSS (R364). -/
  | wclkLoss (portB : Bool)
  /-- WCLK_RETURN (R364). -/
  | wclkReturn (portB : Bool)
  /-- BRIDGE_LOCK (R341). -/
  | bridgeLock (portB : Bool)
  /-- BLK_TAKE (R373). -/
  | blkTake (req : Requester) (e : BlkId)
  /-- BLK_GIVE (R373). -/
  | blkGive (req : Requester) (e : BlkId)
  /-- BLK_GO (R378). -/
  | blkGo (req : Requester) (e : BlkId)
  /-- BLK_ABORT (R385). -/
  | blkAbort (req : Requester) (e : BlkId)
  /-- BLK_PIECE_DONE (R381). -/
  | blkPieceDone (e : BlkId)
  /-- BLK_DEAD_TIME_END (R384). -/
  | blkDeadTimeEnd (e : BlkId)
  /-- CARTER_START (R401). -/
  | carterStart (req : Requester) (c : ChanId)
  /-- CARTER_PAUSE (R402). -/
  | carterPause (req : Requester) (c : ChanId)
  /-- CARTER_RESUME (R403). -/
  | carterResume (req : Requester) (c : ChanId)
  /-- CARTER_DISABLE (R404). -/
  | carterDisable (req : Requester) (c : ChanId)
  /-- CARTER_DESCRIPTOR_FETCHED (R395). -/
  | carterDescriptorFetched (c : ChanId) (host : HostRead)
  /-- CARTER_READ_RETURN (R394). -/
  | carterReadReturn (c : ChanId) (host : HostRead)
  /-- CARTER_WRITE_COMPLETE (R397). -/
  | carterWriteComplete (c : ChanId)
  /-- CARTER_BUS_ERROR (R405). -/
  | carterBusError (c : ChanId) (err : BusErr)
  /-- SCRUB_STEP (R412). -/
  | scrubStep (found : List (Fin 8 × EccFound))
  /-- RETIRE_COPY_DONE (R413). -/
  | retireCopyDone
  /-- MARCH_GO (R426). -/
  | marchGo (req : Requester) (ctl : Word)
  /-- MARCH_ABORT (R426). -/
  | marchAbort (req : Requester)
  /-- MARCH_END (R423). -/
  | marchEnd (b : BenchId) (failing : List Addr)
  /-- MARCH_ZERO_FILL_DONE (R426). -/
  | marchZeroFillDone (b : BenchId)
  /-- BANK_ROTATION_COPY_DONE (R425). -/
  | bankRotationCopyDone
  /-- BANK_MARCH_DONE (R425). -/
  | bankMarchDone (pass : Bool)
  /-- TB_TICK (R431). -/
  | tbTick
  /-- TB_STEP (R432). -/
  | tbStep
  /-- TB_LO_READ (R434). -/
  | tbLoRead (req : Requester)
  /-- CMP_VAL_LO_WRITE (R435). -/
  | cmpValLoWrite (req : Requester) (n : Fin 64) (lo : Word)
  /-- CMP_VAL_WRITE (R435). -/
  | cmpValWrite (req : Requester) (n : Fin 64) (full : Bool) (value : Double)
  /-- CAPTURE (R442). -/
  | capture (n : Fin 16) (rise : Bool)
  /-- CAP_POP (R443). -/
  | capPop (req : Requester) (n : Fin 16)
  /-- CHANNEL_FIRE (R445). -/
  | channelFire (req : Requester) (c : BellId)
  /-- CHANNEL_DELIVER (R446). -/
  | channelDeliver (c : BellId) (done : Bool)
  /-- ROUTE_CHANGE_APPLY (R450). -/
  | routeChangeApply (c : BellId) (forced : Bool)
  /-- STORM_WINDOW (R451). -/
  | stormWindow
  /-- CUT_RESUME (R451). -/
  | cutResume (req : Requester) (c : BellId)
  /-- SOURCE_LEVEL_CHANGE (R460). -/
  | sourceLevelChange (n : SrcId)
  /-- INTERRUPT_OFFER (R461). -/
  | interruptOffer (n : SrcId)
  /-- IC_CLAIM (R462). -/
  | icClaim (req : Requester)
  /-- IC_COMPLETE (R464). -/
  | icComplete (req : Requester) (n : SrcId)
  /-- HOLDOFF_END (R465). -/
  | holdoffEnd (n : SrcId)
  /-- IC_PEND_WRITE (R466). -/
  | icPendWrite (req : Requester) (w : Fin 32) (value : Word)
  /-- WATCH_WAKE (R468). -/
  | watchWake (k : Fin 64)
  /-- CIO_HANDOVER (R478). -/
  | cioHandover (req : Requester) (p : PinId) (cfg : Word)
  /-- PIN_FILTER_PASS (R476). -/
  | pinFilterPass (p : PinId) (level : Bool)
  /-- SER_DATA_WRITE (R491). -/
  | serDataWrite (req : Requester) (g : Fin 12) (value : Word)
  /-- SER_DATA_READ (R491). -/
  | serDataRead (req : Requester) (g : Fin 12)
  /-- SER_BYTE_DONE (R484). -/
  | serByteDone (g : Fin 12) (rx : SerResult)
  /-- SER_BUS_TIMEOUT (R490). -/
  | serBusTimeout (g : Fin 12)
  /-- QD_SAMPLE (R485). -/
  | qdSample (g : Fin 12) (a b : Bool)
  /-- QD_COUNT_READ (R485). -/
  | qdCountRead (req : Requester) (g : Fin 12)
  /-- MX_ROW_DWELL (R486). -/
  | mxRowDwell (g : Fin 12) (columns : BitVec 4)
  /-- MX_KEYS_READ (R486). -/
  | mxKeysRead (req : Requester) (g : Fin 12)
  /-- MTR_ADD (R487). -/
  | mtrAdd (req : Requester) (m : Fin 24) (value : Word)
  /-- MTR_PULSE_TIMER (R487). -/
  | mtrPulseTimer (m : Fin 24)
  /-- SENSOR_SAMPLE (R498). -/
  | sensorSample (samples : List (Fin 64 × BitVec 16))
  /-- THROTTLE_STEP (R585). -/
  | throttleStep
  /-- SUPPLY_COMPARATOR_TRIP (R499). -/
  | supplyComparatorTrip (word : Fin 64)
  /-- CLOCK_LOSS (R499). -/
  | clockLoss
  /-- LF_XTAL (R499). -/
  | lfXtal
  /-- CLERK_WATCHDOG (R497). -/
  | clerkWatchdog
  /-- FAULT_REPORT (R503). -/
  | faultReport
  /-- REPORTS_LOST (R505). -/
  | reportsLost
  /-- LOG_BLOCK_SEAL (R509). -/
  | logBlockSeal
  /-- CHM_ACK (R504). -/
  | chmAck
  /-- STAGE_PLAN (R57). -/
  | stagePlan
  /-- TEST_ENGINE (R514). -/
  | testEngine
  /-- TEST_BANK (R514). -/
  | testBank
  /-- ENGINE_TEST_DONE (R514). -/
  | engineTestDone (pass : Bool)
  /-- CHM_LOG_READ (R516). -/
  | chmLogRead
  /-- SET_STORM (R516). -/
  | setStorm
  /-- DOZE_ON (R531). -/
  | dozeOn
  /-- DOZE_OFF (R524). -/
  | dozeOff
  /-- CHM_CLOSE (R539). -/
  | chmClose
  /-- CHM_SETTINGS_CONFIRM (R563). -/
  | chmSettingsConfirm
  /-- CHM_UNKNOWN_OP (R516). -/
  | chmUnknownOp
  /-- AUX_POWER_UP (R520). -/
  | auxPowerUp
  /-- FIRMWARE_RUNNING (R559). -/
  | firmwareRunning
  /-- MAIN_RAILS_IN_WINDOW (R521). -/
  | mainRailsInWindow
  /-- OPENING_START (R520). -/
  | openingStart
  /-- OPENING_CHECK_DONE (R513). -/
  | openingCheckDone (failing : List (Fin 16))
  /-- GRANULE_ZERO_FILL_DONE (R528). -/
  | granuleZeroFillDone (g : Fin 128)
  /-- OPENING_COMPLETE (R526). -/
  | openingComplete
  /-- WARM_OPENING_COMPLETE (R529). -/
  | warmOpeningComplete
  /-- DOZE_ENTRY_COMPLETE (R531). -/
  | dozeEntryComplete
  /-- DOZE_WAKE (R533). -/
  | dozeWake (cause : WakeCause)
  /-- MAIN_POWER_REMOVAL (R522). -/
  | mainPowerRemoval
  /-- CLOSING_HEAD_TIMEOUT (R539). -/
  | closingHeadTimeout
  /-- CLOSING_TEST_DONE (R511). -/
  | closingTestDone (res : ClosingResult)
  /-- CLOSING_COMPLETE (R539). -/
  | closingComplete
  /-- USB_ATTACH (R545). -/
  | usbAttach
  /-- USB_DETACH (R545). -/
  | usbDetach
  /-- USB_BUS_RESET (R547). -/
  | usbBusReset
  /-- SESSION_GAP_TIMEOUT (R547). -/
  | sessionGapTimeout
  /-- TAPIN_FRAME_INVALID (R547). -/
  | tapinFrameInvalid (transfer : List Byte)
  /-- OPEN (R548). -/
  | open_ (f : Frame)
  /-- SHUT (R548). -/
  | shut (f : Frame)
  /-- PING (R550). -/
  | ping (f : Frame)
  /-- INFO (R550). -/
  | info (f : Frame)
  /-- SENSORS (R550). -/
  | sensors (f : Frame)
  /-- HISTORY (R550). -/
  | history (f : Frame)
  /-- LOG_READ (R550). -/
  | logRead (f : Frame) (first count : Word)
  /-- ACK (R504). -/
  | ack (f : Frame) (seq : Word)
  /-- JOURNAL_READ (R550). -/
  | journalRead (f : Frame) (h : Fin 256) (first count : Word)
  /-- PATCH_BEGIN (R554). -/
  | patchBegin (f : Frame) (payload : List Byte)
  /-- PATCH_DATA (R555). -/
  | patchData (f : Frame) (payload : List Byte)
  /-- PATCH_END (R556). -/
  | patchEnd (f : Frame) (payload : List Byte)
  /-- PATCH_ABORT (R556). -/
  | patchAbort (f : Frame)
  /-- PLAN_STAGE (R560). -/
  | planStage (f : Frame) (payload : List Byte)
  /-- CARD_BEGIN (R561). -/
  | cardBegin (f : Frame) (payload : List Byte)
  /-- CARD_DATA (R561). -/
  | cardData (f : Frame) (payload : List Byte)
  /-- HOLD (R535). -/
  | hold (f : Frame)
  /-- RELEASE (R535). -/
  | release (f : Frame)
  /-- CLOSE (R539). -/
  | close (f : Frame)
  /-- REBOOT (R559). -/
  | reboot (f : Frame) (payload : List Byte)
  /-- TEST (R514). -/
  | test (f : Frame) (payload : List Byte)
  /-- SETTINGS_CONFIRM (R563). -/
  | settingsConfirm (f : Frame)
  /-- READ_CLEAR (R18). -/
  | readClear (at_ : AccessAt) (size : Nat)
  /-- FUNCTION_REPORTS_READY (R526). -/
  | functionReportsReady (b : BenchId) (f : ReadyFn)
  /-- RING_FETCH_TIMEOUT (R85). -/
  | ringFetchTimeout (g : RingId)
  /-- AUX_POWER_LOSS (R565). -/
  | auxPowerLoss
deriving DecidableEq, Repr

end Sys2Proof
end

