-- ==== Sys2Proof/Config.lean ====
section
/-!
DEFINITION. What the spec leaves open: constants with no body, so that no proof can see their values. A value that a
command leaves open is one of these applied to the state's free-value counter, or to the operands it depends on.
-/
namespace Sys2Proof

/-- A value the spec leaves open, one per use: the step reads and advances the counter it is applied to. -/
opaque Config.freeValue : Nat → Double

/-- The operand-cache line a fill replaces when the cache is full, among the held lines (R106 names no policy). -/
opaque Config.cacheVictim : Nat → Nat

/-- SHA-384 of a byte string (R509): a standard function the spec names and does not spell out. -/
opaque Config.sha384 : List Byte → List Byte

/-- The device key's ECDSA P-384 signature of a byte string (R509): the key never leaves the die. -/
opaque Config.deviceSign : List Byte → List Byte

/-- Whether a signature verifies under Volenja's release key (R553). -/
opaque Config.releaseVerify : List Byte → List Byte → Bool

/-- X and then Y of the device's public key, as INFO returns them (R550). -/
opaque Config.devicePublicKey : List Byte

/-- The module's 64-bit serial number (R45). -/
opaque Config.serialNumber : Double

/-- The output of a sample-rate bridge between VOICE and a PORT domain: its filter is not given (R341). -/
opaque Config.bridgeOut : Nat → List Int → Int

/-- The settings body that firmware of a settings version writes when it migrates an older body, when it sets its defaults,
and when it commits with a storm limit in force; and the storm limit a body holds (R562, R563): the firmware's own. -/
opaque Config.settingsMigrate : Nat → List Byte → List Byte
opaque Config.settingsDefault : Nat → List Byte
opaque Config.settingsCommit : Nat → Nat → List Byte → List Byte
opaque Config.settingsStorm : List Byte → Nat

/-- Which half of its period a blinking indicator is lit in, and at which millisecond of each 4 s the single flash of 100 ms
begins: the spec takes the phases from TB and does not say (R587). -/
opaque Config.blinkFirst : Bool
opaque Config.flashAt : Nat

/-- What the Clerk reaches outside the device address map (R28, R53): the Counting-House's SRAM, house flash, the sensor
words, and the bench control registers of each bench. -/
inductive ClerkPlace where
  | sram
  | flash
  | sensors
  | benches
deriving DecidableEq, Repr

/-- Where the Counting-House SRAM lies in the Clerk's addresses, in MiB from 0x40_0000_0000, and the ring-head cache segment that holds a
bench's share: the spec gives neither (R28, R494, R507). -/
opaque Config.sramAt : Nat
opaque Config.cacheSegment : Nat → Nat

/-- What the Clerk's private space shows at a device address that the address map does not list: nothing, or an offset in one of
its places. The spec gives the space no layout (R28, R96, R494). -/
opaque Config.clerkSpace : Nat → Option (ClerkPlace × Nat)

end Sys2Proof
end

