-- ==== Sys2Proof/Machine/RegMap.lean ====
section
/-!
DEFINITION. The register map: one row per register of the spec's register tables, with its offset in its unit's block,
how often it repeats, its reset value, the masks of its RW, W1C and RC fields, and its effect instant (R8, R17, R18,
R19, R26). Every bit outside the masks is RO, WO, W1S or reserved: a write does not store it. The rows follow the
register tables of R53, R81, R91, R98, R116, R185, R216, R241, R272, R273, R304, R334, R369, R387, R406, R428, R453,
R470, R491 and R515.
-/
namespace Sys2Proof.Machine

/-- The effect instant a register table names (R8, R172). -/
inductive Eff where
  | onWrite     -- acts when the port accepts the write
  | status      -- not staged: live state
  | staged      -- lands at a span or line boundary, by the view written
  | stagedLine  -- lands at a line boundary through either view
  | shadow      -- a bitmap plane's shadow group (commit)
  | paged       -- an audio load page (R347)
  | zeroCross   -- an audio value that waits for a zero crossing
deriving DecidableEq, Repr

/-- One register of a block, or an array of them. -/
structure RegRow where
  off    : Nat
  count  : Nat
  stride : Nat
  reset  : Nat
  rw     : Nat
  w1c    : Nat
  rc     : Nat
  eff    : Eff
deriving DecidableEq, Repr

/-- A block of registers that repeats once per unit. -/
structure RegBlock where
  base   : Nat
  count  : Nat
  stride : Nat
  rows   : List RegRow
deriving DecidableEq, Repr

/-- Bench control registers, one block per bench (R53). -/
def benchRows : List RegRow := [
  ⟨0x0, 1, 0x0, 0x0, 0x0, 0x0, 0x0, .onWrite⟩,  -- BENCH_INFO
  ⟨0x4, 1, 0x0, 0x0, 0x0, 0x0, 0x0, .onWrite⟩,  -- BENCH_CORES
  ⟨0x10, 1, 0x0, 0x0, 0x0, 0x0, 0x0, .onWrite⟩,  -- BENCH_READY0
  ⟨0x14, 1, 0x0, 0x0, 0x0, 0x40000000, 0x0, .onWrite⟩,  -- BENCH_READY1
  ⟨0x20, 1, 0x0, 0x0, 0x0, 0x0, 0xFFFFFFFF, .onWrite⟩,  -- DECODE_HOLE
  ⟨0x40, 1, 0x0, 0x0, 0xFFFF0000, 0x2, 0x0, .onWrite⟩,  -- PTM_CTL
  ⟨0x48, 2, 0x4, 0x0, 0x0, 0x0, 0x0, .onWrite⟩,  -- PTM_TB_REQ
  ⟨0x50, 2, 0x4, 0x0, 0x0, 0x0, 0x0, .onWrite⟩,  -- PTM_MASTER
  ⟨0x58, 1, 0x0, 0x0, 0x0, 0x0, 0x0, .onWrite⟩,  -- PTM_PROP
  ⟨0x60, 2, 0x4, 0x0, 0x0, 0x0, 0x0, .onWrite⟩,  -- PTM_TB_AT_MASTER
  ⟨0x8000, 256, 0x10, 0x0, 0xFFFFFFFC, 0x0, 0x0, .onWrite⟩,  -- MSIX_TABLE message address (R63; PCI Express)
  ⟨0x8004, 256, 0x10, 0x0, 0xFFFFFFFF, 0x0, 0x0, .onWrite⟩,  -- MSIX_TABLE message upper address
  ⟨0x8008, 256, 0x10, 0x0, 0xFFFFFFFF, 0x0, 0x0, .onWrite⟩,  -- MSIX_TABLE message data
  ⟨0x800C, 256, 0x10, 0x1, 0x1, 0x0, 0x0, .onWrite⟩,  -- MSIX_TABLE vector control
  ⟨0x9000, 8, 0x4, 0x0, 0x0, 0x0, 0x0, .onWrite⟩   -- MSIX_PBA (R63)
]

/-- The STOP page, one block per bench (R91). -/
def stopRows : List RegRow := [
  ⟨0x0, 2, 0x4, 0x0, 0x0, 0x0, 0x0, .onWrite⟩,  -- STOP_CARTER
  ⟨0x8, 1, 0x0, 0x0, 0x0, 0x0, 0x0, .onWrite⟩,  -- STOP_CORES
  ⟨0xC, 1, 0x0, 0x0, 0x0, 0x0, 0x0, .onWrite⟩,  -- STOP_UNITS
  ⟨0x10, 1, 0x0, 0x0, 0x0, 0x0, 0x0, .onWrite⟩,  -- STOP_RELEASE
  ⟨0x20, 1, 0x0, 0x0, 0x0, 0x2000000, 0x0, .onWrite⟩,  -- STOP_STATUS
  ⟨0x24, 1, 0x0, 0x0, 0x0, 0x0, 0xFFFFFFFF, .onWrite⟩   -- STOP_IGNORED
]

/-- Core register windows: scene cores 0 to 31, line cores 32 to 39, the Clerk 40 (R97, R98, R116). -/
def winRows : List RegRow := [
  ⟨0x0, 1, 0x0, 0x0, 0xFFFFFFFE, 0x0, 0x0, .onWrite⟩,  -- PC
  ⟨0x4, 1, 0x0, 0x0, 0xFF, 0x0, 0x0, .onWrite⟩,  -- PC_HI
  ⟨0x8, 1, 0x0, 0x0, 0xFFFFFFFF, 0x0, 0x0, .onWrite⟩,  -- SRCP
  ⟨0xC, 1, 0x0, 0x0, 0xFF, 0x0, 0x0, .onWrite⟩,  -- SRCP_HI
  ⟨0x10, 1, 0x0, 0x0, 0xFFFFFFFF, 0x0, 0x0, .onWrite⟩,  -- DSTP
  ⟨0x14, 1, 0x0, 0x0, 0xFF, 0x0, 0x0, .onWrite⟩,  -- DSTP_HI
  ⟨0x18, 1, 0x0, 0x0, 0xFFFFFFFF, 0x0, 0x0, .onWrite⟩,  -- STEP
  ⟨0x1C, 1, 0x0, 0x0, 0xFFFFFFFF, 0x0, 0x0, .onWrite⟩,  -- CNT
  ⟨0x20, 1, 0x0, 0x0, 0x1F, 0x0, 0x0, .onWrite⟩,  -- FLAGS
  ⟨0x24, 1, 0x0, 0x1, 0xFE, 0x0, 0x0, .onWrite⟩,  -- PRED
  ⟨0x28, 1, 0x0, 0x0, 0x0, 0x0, 0x0, .onWrite⟩,  -- LINE
  ⟨0x2C, 1, 0x0, 0x0, 0x0, 0x0, 0x0, .onWrite⟩,  -- SPAN
  ⟨0x40, 8, 0x4, 0x0, 0xFFFFFF, 0x0, 0x0, .onWrite⟩,  -- B0 to B7
  ⟨0x60, 8, 0x4, 0x0, 0xFFFFFFFF, 0x0, 0x0, .onWrite⟩,  -- X0 to X7
  ⟨0x80, 1, 0x0, 0x0, 0xFFFFFE00, 0x0, 0x0, .onWrite⟩,  -- TVEC
  ⟨0x84, 1, 0x0, 0x0, 0xFF, 0x0, 0x0, .onWrite⟩,  -- TVEC_HI
  ⟨0x88, 1, 0x0, 0x0, 0xFFFFFFFF, 0x0, 0x0, .onWrite⟩,  -- TPC
  ⟨0x8C, 1, 0x0, 0x0, 0xFF, 0x0, 0x0, .onWrite⟩,  -- TPC_HI
  ⟨0x90, 1, 0x0, 0x0, 0xFFFFFFFF, 0x0, 0x0, .onWrite⟩,  -- TFLAGS
  ⟨0x94, 1, 0x0, 0x0, 0xFF, 0x0, 0x0, .onWrite⟩,  -- TCAUSE
  ⟨0x98, 1, 0x0, 0x0, 0xFFFFFFFF, 0x0, 0x0, .onWrite⟩,  -- TADDR
  ⟨0x9C, 1, 0x0, 0x0, 0xFF, 0x0, 0x0, .onWrite⟩,  -- TADDR_HI
  ⟨0xA0, 1, 0x0, 0x0, 0x7, 0x0, 0x0, .onWrite⟩,  -- ICTL
  ⟨0xA4, 1, 0x0, 0x0, 0x0, 0x0, 0x0, .onWrite⟩,  -- CORE_ID
  ⟨0x100, 16, 0x4, 0x0, 0x0, 0x0, 0x0, .onWrite⟩,  -- MBOX
  ⟨0x140, 12, 0x4, 0x0, 0xFFFFFFFF, 0x0, 0x0, .onWrite⟩,  -- MBOX_REPLY
  ⟨0x170, 1, 0x0, 0x0, 0x0, 0x0, 0x0, .onWrite⟩,  -- MBOX_STAT
  ⟨0x174, 1, 0x0, 0x0, 0x0, 0x0, 0x0, .onWrite⟩   -- MBOX_DONE
]

/-- Rings 0 to 16,383 (R81). -/
def ringRows : List RegRow := [
  ⟨0x0, 1, 0x0, 0x0, 0xFFFFFFC0, 0x0, 0x0, .onWrite⟩,  -- RINGg_BASE_LO
  ⟨0x4, 1, 0x0, 0x0, 0xFFFFFFFF, 0x0, 0x0, .onWrite⟩,  -- RINGg_BASE_HI
  ⟨0x8, 1, 0x0, 0x0, 0xFFFFFFFC, 0x0, 0x0, .onWrite⟩,  -- RINGg_CTL
  ⟨0xC, 1, 0x0, 0x0, 0x1FFFF, 0x0, 0x0, .onWrite⟩,  -- RINGg_PROD
  ⟨0x10, 1, 0x0, 0x0, 0x1FFFF, 0x0, 0x0, .onWrite⟩,  -- RINGg_CONS
  ⟨0x14, 1, 0x0, 0x80000000, 0x0, 0x0, 0xFFFF, .onWrite⟩,  -- RINGg_STAT
  ⟨0x18, 1, 0x0, 0x0, 0x0, 0x8, 0x0, .onWrite⟩   -- RINGg_ERR
]

/-- The queue manager's bench registers (R81). -/
def qmRows : List RegRow := [
  ⟨0x0, 1, 0x0, 0x0, 0x0, 0x0, 0x0, .onWrite⟩,  -- QMGR_INFO
  ⟨0x4, 1, 0x0, 0x0, 0x0, 0x0, 0x0, .onWrite⟩   -- QMGR_CACHE
]

/-- Scene-core control blocks (R116). -/
def coreCtlRows : List RegRow := [
  ⟨0x0, 1, 0x0, 0x0, 0x0, 0x0, 0x0, .onWrite⟩,  -- CORE_CTL
  ⟨0x4, 1, 0x0, 0x1, 0x0, 0x0, 0x0, .onWrite⟩,  -- CORE_STAT
  ⟨0x8, 2, 0x4, 0x0, 0x0, 0x0, 0x0, .onWrite⟩   -- CORE_PC
]

/-- Line-core control blocks (R116, R185). -/
def lcCtlRows : List RegRow := [
  ⟨0x0, 1, 0x0, 0x0, 0x0, 0x0, 0x0, .onWrite⟩,  -- CORE_CTL
  ⟨0x4, 1, 0x0, 0x1, 0x0, 0x0, 0x0, .onWrite⟩,  -- CORE_STAT
  ⟨0x8, 2, 0x4, 0x0, 0x0, 0x0, 0x0, .onWrite⟩,  -- CORE_PC
  ⟨0x20, 1, 0x0, 0x0, 0x7FFC, 0x0, 0x0, .onWrite⟩,  -- LC_LOAD_ADDR
  ⟨0x24, 1, 0x0, 0x0, 0x0, 0x0, 0x0, .onWrite⟩,  -- LC_LOAD_DATA
  ⟨0x40, 1, 0x0, 0x0, 0x3, 0x0, 0x0, .onWrite⟩,  -- LC_BEAM_CTL
  ⟨0x44, 1, 0x0, 0x0, 0x0, 0x0, 0xFFFF0000, .onWrite⟩,  -- LC_BEAM_STAT
  ⟨0x48, 1, 0x0, 0x0, 0x0, 0x0, 0xFFFFFF, .onWrite⟩,  -- LC_LINE_USE
  ⟨0x4C, 1, 0x0, 0x0, 0x0, 0x0, 0xFFFF03FF, .onWrite⟩,  -- LC_STAGE_STAT
  ⟨0x50, 1, 0x0, 0x0, 0x0, 0x0, 0x0, .onWrite⟩   -- LC_BEAM_POS
]

/-- Pattern-engine windows, line view: sprite unit, scales, tile planes and palette RAM (R216, R241, R196). -/
def peRows : List RegRow := [
  ⟨0x0, 1, 0x0, 0x0, 0x8001FFFF, 0x0, 0x0, .stagedLine⟩,  -- SPR_CTL
  ⟨0x4, 1, 0x0, 0x0, 0xFFFFFFF, 0x0, 0x0, .stagedLine⟩,  -- SPR_TABLE_BASE
  ⟨0x8, 1, 0x0, 0x0, 0x1FFF, 0x0, 0x0, .stagedLine⟩,  -- SPR_SORT
  ⟨0xC, 1, 0x0, 0x0, 0x80000FFF, 0x0, 0x0, .stagedLine⟩,  -- SPR_COLL
  ⟨0x10, 1, 0x0, 0x0, 0x0, 0x0, 0xFFFFFF, .status⟩,  -- SPR_STAT
  ⟨0x14, 1, 0x0, 0x0, 0x0, 0x0, 0x0, .status⟩,  -- SPR_SORTED
  ⟨0x18, 1, 0x0, 0x0, 0x0, 0x0, 0x0, .status⟩,  -- SPR_FRAME
  ⟨0x40, 2, 0x10, 0x0, 0xE0003FFF, 0x0, 0x0, .stagedLine⟩,  -- Sn_CTL
  ⟨0x44, 2, 0x10, 0x0, 0xFFFFFFFF, 0x0, 0x0, .stagedLine⟩,  -- Sn_ORG
  ⟨0x200, 1, 0x0, 0x0, 0x80FFFFFF, 0x0, 0x0, .stagedLine⟩,  -- SC_CTL
  ⟨0x204, 1, 0x0, 0x0, 0x0, 0x0, 0x0, .status⟩,  -- SC_BUDGET
  ⟨0x208, 1, 0x0, 0x0, 0x0, 0x0, 0x0, .status⟩,  -- SC_BYTE_BUDGET
  ⟨0x20C, 1, 0x0, 0x0, 0x0, 0x0, 0x0, .status⟩,  -- SC_LAST_CLK
  ⟨0x210, 1, 0x0, 0x0, 0x0, 0x0, 0x0, .status⟩,  -- SC_LAST_BYTES
  ⟨0x214, 1, 0x0, 0x0, 0x0, 0x0, 0xFFFFFFFF, .status⟩,  -- SC_PEAK
  ⟨0x218, 1, 0x0, 0x0, 0x0, 0x0, 0xFFFFFFFF, .status⟩,  -- SC_SHED_SPRITES
  ⟨0x21C, 1, 0x0, 0x0, 0x0, 0x0, 0xFFFFFFFF, .status⟩,  -- SC_SHED_LINES
  ⟨0x220, 1, 0x0, 0x0, 0x0, 0x0, 0xFFFFFFFF, .status⟩,  -- SC_WITHHELD
  ⟨0x1000, 4, 0x100, 0x0, 0xFFFFFF7F, 0x0, 0x0, .stagedLine⟩,  -- Tt_CTL
  ⟨0x1008, 4, 0x100, 0x0, 0xFFFFFFF, 0x0, 0x0, .staged⟩,  -- Tt_MAP_BASE
  ⟨0x100C, 4, 0x100, 0x0, 0xFFFFFFF, 0x0, 0x0, .staged⟩,  -- Tt_PAT_BASE
  ⟨0x1010, 4, 0x100, 0x0, 0x1FFFF, 0x0, 0x0, .staged⟩,  -- Tt_SCROLL_X
  ⟨0x1014, 4, 0x100, 0x0, 0x1FFFF, 0x0, 0x0, .staged⟩,  -- Tt_SCROLL_Y
  ⟨0x1018, 4, 0x100, 0x0, 0x3FFF, 0x0, 0x0, .staged⟩,  -- Tt_PAL
  ⟨0x101C, 4, 0x100, 0x0, 0xFFFFFFFF, 0x0, 0x0, .staged⟩,  -- Tt_FILL
  ⟨0x1020, 4, 0x100, 0x10000, 0xFFFFFFFF, 0x0, 0x0, .staged⟩,  -- Tt_AFF_A
  ⟨0x1024, 4, 0x100, 0x0, 0xFFFFFFFF, 0x0, 0x0, .staged⟩,  -- Tt_AFF_B
  ⟨0x1028, 4, 0x100, 0x0, 0xFFFFFFFF, 0x0, 0x0, .staged⟩,  -- Tt_AFF_C
  ⟨0x102C, 4, 0x100, 0x10000, 0xFFFFFFFF, 0x0, 0x0, .staged⟩,  -- Tt_AFF_D
  ⟨0x1030, 4, 0x100, 0x0, 0xFFFFFFFF, 0x0, 0x0, .staged⟩,  -- Tt_AFF_X0
  ⟨0x1034, 4, 0x100, 0x0, 0xFFFFFFFF, 0x0, 0x0, .staged⟩,  -- Tt_AFF_Y0
  ⟨0x1040, 4, 0x100, 0x0, 0x0, 0x0, 0xFFFFFF, .status⟩,  -- Tt_STAT
  ⟨0x10000, 16384, 0x4, 0x0, 0xFFFFFFFF, 0x0, 0x0, .onWrite⟩   -- Palette RAM (R196)
]

/-- HEADn blocks, line view: compositor, scan-out, link, assay and daybook (R272, R273, R304, R334). -/
def headRows : List RegRow := [
  ⟨0x0, 1, 0x0, 0x0, 0x1, 0x0, 0x0, .stagedLine⟩,  -- HEADn_COMP_CTL
  ⟨0x4, 1, 0x0, 0x0, 0x3FFFFFFF, 0x0, 0x0, .staged⟩,  -- HEADn_BG
  ⟨0x8, 1, 0x0, 0x0, 0x0, 0x0, 0x0, .status⟩,  -- HEADn_COMP_STAT
  ⟨0x10, 1, 0x0, 0x0, 0x0, 0x0, 0x0, .onWrite⟩,  -- HEADn_COMMIT
  ⟨0x14, 1, 0x0, 0x0, 0x0, 0x100, 0x0, .status⟩,  -- HEADn_COMMIT_STAT
  ⟨0x18, 1, 0x0, 0x0, 0x0, 0x0, 0xFFFFFFFF, .status⟩,  -- HEADn_LATE_COMMIT
  ⟨0x1C, 1, 0x0, 0x0, 0x0, 0x0, 0xFFFFFFFF, .status⟩,  -- HEADn_FENCE_WAIT
  ⟨0x20, 1, 0x0, 0x0, 0x0, 0x0, 0x0, .onWrite⟩,  -- HEADn_FLAT_INVAL
  ⟨0x24, 1, 0x0, 0x0, 0x0, 0x0, 0xFFFF, .status⟩,  -- HEADn_FLAT_STAT
  ⟨0x28, 1, 0x0, 0x0, 0x8000007F, 0x0, 0x0, .onWrite⟩,  -- HEADn_COMMIT_EVT
  ⟨0x100, 8, 0x10, 0xFF, 0xFF0000FF, 0x0, 0x0, .stagedLine⟩,  -- HEADn_LAYERm_CTL
  ⟨0x104, 8, 0x10, 0x0, 0xFFF0FFF, 0x0, 0x0, .stagedLine⟩,  -- HEADn_LAYERm_POS
  ⟨0x108, 8, 0x10, 0x0, 0xFFF0FFF, 0x0, 0x0, .stagedLine⟩,  -- HEADn_LAYERm_SIZE
  ⟨0x10C, 8, 0x10, 0x0, 0xFFFFFFFF, 0x0, 0x0, .staged⟩,  -- HEADn_LAYERm_FILL
  ⟨0x200, 4, 0x40, 0x0, 0x70F, 0x0, 0x0, .shadow⟩,  -- MBp_FMT
  ⟨0x204, 4, 0x40, 0x0, 0x4000007F, 0x0, 0x0, .onWrite⟩,  -- MBp_FENCE
  ⟨0x208, 4, 0x40, 0x0, 0xFFFFFFFC, 0x0, 0x0, .shadow⟩,  -- MBp_ADDR0_LO
  ⟨0x20C, 4, 0x40, 0x0, 0xFF, 0x0, 0x0, .shadow⟩,  -- MBp_ADDR0_HI
  ⟨0x210, 4, 0x40, 0x0, 0xFFFFFFFC, 0x0, 0x0, .shadow⟩,  -- MBp_ADDR1_LO
  ⟨0x214, 4, 0x40, 0x0, 0xFF, 0x0, 0x0, .shadow⟩,  -- MBp_ADDR1_HI
  ⟨0x218, 4, 0x40, 0x0, 0xFFFFFFFC, 0x0, 0x0, .shadow⟩,  -- MBp_ADDR2_LO
  ⟨0x21C, 4, 0x40, 0x0, 0xFF, 0x0, 0x0, .shadow⟩,  -- MBp_ADDR2_HI
  ⟨0x220, 4, 0x40, 0x0, 0xFFFFFFFF, 0x0, 0x0, .shadow⟩,  -- MBp_PITCH
  ⟨0x224, 4, 0x40, 0x0, 0x1FFF1FFF, 0x0, 0x0, .stagedLine⟩,  -- MBp_SRC_POS
  ⟨0x228, 4, 0x40, 0x0, 0x1FFF1FFF, 0x0, 0x0, .stagedLine⟩,  -- MBp_SRC_SIZE
  ⟨0x22C, 4, 0x40, 0x10000, 0x7FFFF, 0x0, 0x0, .stagedLine⟩,  -- MBp_STEP_X
  ⟨0x230, 4, 0x40, 0x10000, 0x7FFFF, 0x0, 0x0, .stagedLine⟩,  -- MBp_STEP_Y
  ⟨0x234, 4, 0x40, 0x0, 0xE0003FFF, 0x0, 0x0, .stagedLine⟩,  -- MBp_CTL
  ⟨0x238, 4, 0x40, 0x0, 0x0, 0x0, 0xFFFFFF, .status⟩,  -- MBp_STAT
  ⟨0x1000, 1, 0x0, 0x0, 0x1, 0x0, 0x0, .onWrite⟩,  -- HEADn_CTL
  ⟨0x1004, 1, 0x0, 0x0, 0x0, 0x0, 0x0, .status⟩,  -- HEADn_STAT
  ⟨0x1008, 1, 0x0, 0x0, 0x0, 0x7F, 0x0, .status⟩,  -- HEADn_EVT
  ⟨0x100C, 1, 0x0, 0x0, 0x7F, 0x0, 0x0, .status⟩,  -- HEADn_EVT_EN
  ⟨0x1010, 1, 0x0, 0x0, 0x3FFF0FFF, 0x0, 0x0, .onWrite⟩,  -- HEADn_HTIME
  ⟨0x1018, 1, 0x0, 0x0, 0x3FFF0FFF, 0x0, 0x0, .onWrite⟩,  -- HEADn_VTIME
  ⟨0x1014, 1, 0x0, 0x0, 0x9FFF1FFF, 0x0, 0x0, .onWrite⟩,  -- HEADn_HSYNC
  ⟨0x101C, 1, 0x0, 0x0, 0x9FFF1FFF, 0x0, 0x0, .onWrite⟩,  -- HEADn_VSYNC
  ⟨0x1020, 1, 0x0, 0x0, 0xFFFFFFFF, 0x0, 0x0, .onWrite⟩,  -- HEADn_DOTDIV
  ⟨0x1024, 1, 0x0, 0x2, 0x77, 0x0, 0x0, .onWrite⟩,  -- HEADn_LEAD
  ⟨0x1028, 1, 0x0, 0x0, 0x3F, 0x0, 0x0, .onWrite⟩,  -- HEADn_OUT
  ⟨0x1030, 1, 0x0, 0x97, 0x3F7, 0x0, 0x0, .onWrite⟩,  -- HEADn_LINK_CTL
  ⟨0x1034, 1, 0x0, 0x0, 0x0, 0x0, 0x0, .status⟩,  -- HEADn_LINK_STAT
  ⟨0x1038, 1, 0x0, 0x0, 0x0, 0x0, 0xFFFFFFFF, .status⟩,  -- HEADn_HPD_STAT
  ⟨0x1040, 1, 0x0, 0x0, 0xFF7F3FFF, 0x0, 0x0, .onWrite⟩,  -- HEADn_SYNC_CTL
  ⟨0x1044, 1, 0x0, 0x0, 0x0, 0x0, 0xFFFF, .status⟩,  -- HEADn_SYNC_STAT
  ⟨0x1048, 1, 0x0, 0x0, 0x0, 0x0, 0x0, .onWrite⟩,  -- HEADn_PRESENT
  ⟨0x1050, 1, 0x0, 0x0, 0x10000000, 0x0, 0x0, .onWrite⟩,  -- HEADn_PSR_CTL
  ⟨0x1054, 1, 0x0, 0x0, 0xFFF0FFF, 0x0, 0x0, .onWrite⟩,  -- HEADn_PSR_SU
  ⟨0x1060, 1, 0x0, 0x0, 0x0, 0x0, 0x0, .status⟩,  -- HEADn_CRC_FRAME
  ⟨0x1064, 1, 0x0, 0x0, 0x0, 0x0, 0x0, .status⟩,  -- HEADn_CRC_FNUM
  ⟨0x1070, 2, 0x4, 0x0, 0xFF7F1FFF, 0x0, 0x0, .onWrite⟩,  -- HEADn_BEAM_EVTk
  ⟨0x1080, 1, 0x0, 0x0, 0x7F0FFFFF, 0x0, 0x0, .onWrite⟩,  -- HEADn_AUX_CTL
  ⟨0x1084, 1, 0x0, 0x0, 0x0, 0x0, 0x0, .status⟩,  -- HEADn_AUX_STAT
  ⟨0x1090, 4, 0x4, 0x0, 0xFFFFFFFF, 0x0, 0x0, .onWrite⟩,  -- HEADn_AUX_DATA0 to 3
  ⟨0x10000, 1, 0x0, 0x0, 0x0, 0x0, 0x0, .status⟩,  -- HEADn_ENGINE
  ⟨0x10004, 1, 0x0, 0x30000000, 0x0, 0x0, 0xFFFF, .status⟩,  -- HEADn_ASSAY
  ⟨0x10008, 1, 0x0, 0x0, 0x0, 0x0, 0x0, .status⟩,  -- HEADn_ASSAY_FNUM
  ⟨0x10010, 1, 0x0, 0x258, 0xFFFF, 0x0, 0x0, .onWrite⟩,  -- HEADn_DB_CTL
  ⟨0x10014, 1, 0x0, 0x0, 0x0, 0x60000000, 0x0, .status⟩,  -- HEADn_DB_STAT
  ⟨0x10018, 1, 0x0, 0x0, 0x0, 0x0, 0x0, .status⟩,  -- HEADn_DB_SEQ
  ⟨0x1001C, 1, 0x0, 0x0, 0x0, 0x0, 0x0, .status⟩,  -- HEADn_DB_CKPT
  ⟨0x10020, 1, 0x0, 0x0, 0x0, 0x0, 0xFFFFFFFF, .status⟩,  -- HEADn_DB_GAP
  ⟨0x10028, 1, 0x0, 0x0, 0xFFFFF000, 0x0, 0x0, .onWrite⟩,  -- HEADn_DB_DRAIN_BASE_LO
  ⟨0x1002C, 1, 0x0, 0x0, 0xFF, 0x0, 0x0, .onWrite⟩,  -- HEADn_DB_DRAIN_BASE_HI
  ⟨0x10030, 1, 0x0, 0x0, 0x8000001F, 0x0, 0x0, .onWrite⟩,  -- HEADn_DB_DRAIN_CTL
  ⟨0x10034, 1, 0x0, 0x0, 0x0, 0x0, 0x0, .onWrite⟩,  -- HEADn_DB_DRAIN_PROD
  ⟨0x10038, 1, 0x0, 0x0, 0x1FFFF, 0x0, 0x0, .onWrite⟩,  -- HEADn_DB_DRAIN_CONS
  ⟨0x1003C, 1, 0x0, 0x0, 0x0, 0x0, 0xFFFFFFFF, .onWrite⟩,  -- HEADn_DB_DRAIN_SKIP
  ⟨0x10040, 16, 0x8, 0x0, 0xFFFFF000, 0x0, 0x0, .onWrite⟩,  -- HEADn_DB_WATCHk_LO
  ⟨0x10044, 16, 0x8, 0x0, 0x8FFFFFFF, 0x0, 0x0, .onWrite⟩   -- HEADn_DB_WATCHk_HI
]

/-- VOICEv blocks (R369). -/
def voiceRows : List RegRow := [
  ⟨0x0, 1, 0x0, 0x0, 0xFFFFFFFF, 0x0, 0x0, .paged⟩,  -- ADDR_LO
  ⟨0x4, 1, 0x0, 0x0, 0xF00000FF, 0x0, 0x0, .paged⟩,  -- FMT
  ⟨0x8, 1, 0x0, 0x0, 0xFFFFFFFF, 0x0, 0x0, .paged⟩,  -- LOOP_START
  ⟨0xC, 1, 0x0, 0x0, 0xFFFFFFFF, 0x0, 0x0, .paged⟩,  -- LOOP_END
  ⟨0x10, 1, 0x0, 0x0, 0xFFFFFFFF, 0x0, 0x0, .paged⟩,  -- END
  ⟨0x14, 1, 0x0, 0x10000, 0x1FFFFF, 0x0, 0x0, .paged⟩,  -- PITCH
  ⟨0x18, 1, 0x0, 0x0, 0xFFFFFF, 0x0, 0x0, .paged⟩,  -- ATTACK
  ⟨0x1C, 1, 0x0, 0x0, 0xFFFFFF, 0x0, 0x0, .paged⟩,  -- DECAY
  ⟨0x20, 1, 0x0, 0x0, 0xFFFFFF, 0x0, 0x0, .paged⟩,  -- RELEASE
  ⟨0x24, 1, 0x0, 0x7FFF, 0x7FFF, 0x0, 0x0, .paged⟩,  -- SUSTAIN
  ⟨0x28, 1, 0x0, 0x80000080, 0xFFFF01FF, 0x0, 0x0, .paged⟩,  -- MIX
  ⟨0x2C, 1, 0x0, 0x0, 0xBFBFBF, 0x0, 0x0, .paged⟩,  -- BUS
  ⟨0x30, 1, 0x0, 0x0, 0xFFFFFFFF, 0x0, 0x0, .paged⟩,  -- SEND
  ⟨0x34, 1, 0x0, 0x0, 0x7FFFFF, 0x0, 0x0, .paged⟩,  -- ADPCM
  ⟨0x40, 1, 0x0, 0x0, 0x0, 0x0, 0x0, .onWrite⟩,  -- KEY
  ⟨0x44, 1, 0x0, 0x0, 0x807F0001, 0x0, 0x0, .onWrite⟩,  -- CTL
  ⟨0x48, 1, 0x0, 0x0, 0xFFFFFFFF, 0x0, 0x0, .onWrite⟩,  -- TASK
  ⟨0x4C, 1, 0x0, 0x0, 0x0, 0xE000000, 0xFFFF, .status⟩,  -- STAT
  ⟨0x50, 1, 0x0, 0x0, 0x0, 0x0, 0x0, .status⟩,  -- POS
  ⟨0x54, 1, 0x0, 0x0, 0x0, 0x0, 0x0, .status⟩   -- LEVEL
]

/-- TONEt blocks (R369). -/
def toneRows : List RegRow := [
  ⟨0x0, 1, 0x0, 0x0, 0xFFFFFFFF, 0x0, 0x0, .paged⟩,  -- FREQ
  ⟨0x4, 1, 0x0, 0x80, 0xE00000FF, 0x0, 0x0, .paged⟩,  -- WAVE
  ⟨0x18, 1, 0x0, 0x0, 0xFFFFFF, 0x0, 0x0, .paged⟩,  -- ATTACK
  ⟨0x1C, 1, 0x0, 0x0, 0xFFFFFF, 0x0, 0x0, .paged⟩,  -- DECAY
  ⟨0x20, 1, 0x0, 0x0, 0xFFFFFF, 0x0, 0x0, .paged⟩,  -- RELEASE
  ⟨0x24, 1, 0x0, 0x7FFF, 0x7FFF, 0x0, 0x0, .paged⟩,  -- SUSTAIN
  ⟨0x28, 1, 0x0, 0x80000080, 0xFFFF01FF, 0x0, 0x0, .paged⟩,  -- MIX
  ⟨0x2C, 1, 0x0, 0x0, 0xBFBFBF, 0x0, 0x0, .paged⟩,  -- BUS
  ⟨0x30, 1, 0x0, 0x0, 0xFFFFFFFF, 0x0, 0x0, .paged⟩,  -- SEND
  ⟨0x40, 1, 0x0, 0x0, 0x0, 0x0, 0x0, .onWrite⟩,  -- KEY
  ⟨0x44, 1, 0x0, 0x0, 0x807F0001, 0x0, 0x0, .onWrite⟩,  -- CTL
  ⟨0x48, 1, 0x0, 0x0, 0xFFFFFFFF, 0x0, 0x0, .onWrite⟩,  -- TASK
  ⟨0x4C, 1, 0x0, 0x0, 0x0, 0xE000000, 0xFFFF, .status⟩,  -- STAT
  ⟨0x50, 1, 0x0, 0x0, 0x0, 0x0, 0x0, .status⟩,  -- POS
  ⟨0x54, 1, 0x0, 0x0, 0x0, 0x0, 0x0, .status⟩   -- LEVEL
]

/-- BUSb blocks (R369). -/
def busRows : List RegRow := [
  ⟨0x0, 4, 0x14, 0x1000000, 0xFFFFFFFF, 0x0, 0x0, .paged⟩,  -- BUSb_EQi_COEF0
  ⟨0x4, 4, 0x14, 0x0, 0xFFFFFFFF, 0x0, 0x0, .paged⟩,  -- BUSb_EQi_COEF1
  ⟨0x8, 4, 0x14, 0x0, 0xFFFFFFFF, 0x0, 0x0, .paged⟩,  -- BUSb_EQi_COEF2
  ⟨0xC, 4, 0x14, 0x0, 0xFFFFFFFF, 0x0, 0x0, .paged⟩,  -- BUSb_EQi_COEF3
  ⟨0x10, 4, 0x14, 0x0, 0xFFFFFFFF, 0x0, 0x0, .paged⟩,  -- BUSb_EQi_COEF4
  ⟨0x50, 1, 0x0, 0xA1000, 0x3FFFFF, 0x0, 0x0, .zeroCross⟩,  -- BUSb_GAIN
  ⟨0x54, 1, 0x0, 0x0, 0x0, 0x0, 0xFFFF, .status⟩   -- BUSb_STAT
]

/-- PAIRk blocks (R369). -/
def pairRows : List RegRow := [
  ⟨0x0, 1, 0x0, 0x0, 0x1FFF, 0x0, 0x0, .paged⟩,  -- PAIRk_DELAY
  ⟨0x4, 1, 0x0, 0x0, 0xFFFFFFFF, 0x0, 0x0, .paged⟩,  -- PAIRk_ECHO
  ⟨0x8, 1, 0x0, 0x8000, 0xFFFF, 0x0, 0x0, .paged⟩,  -- PAIRk_DRY
  ⟨0xC, 1, 0x0, 0x7FFFFF, 0x807FFFFF, 0x0, 0x0, .paged⟩,  -- PAIRk_LIM
  ⟨0x10, 1, 0x0, 0x0, 0x0, 0x0, 0xFFFF, .status⟩   -- PAIRk_STAT
]

/-- OUTc_ROUTE (R369). -/
def outRouteRows : List RegRow := [
  ⟨0x0, 1, 0x0, 0xFF0A8000, 0xFF3FFFFF, 0x0, 0x0, .zeroCross⟩   -- OUTc_ROUTE
]

/-- STs_CTL (R369). -/
def stRows : List RegRow := [
  ⟨0x0, 1, 0x0, 0xA0000, 0x9F3FFFFF, 0x0, 0x0, .zeroCross⟩   -- STs_CTL
]

/-- TDMp_CTL (R369). -/
def tdmRows : List RegRow := [
  ⟨0x0, 1, 0x0, 0x0, 0xF8000000, 0x0, 0x0, .onWrite⟩   -- TDMp_CTL
]

/-- DPh_CTL (R369). -/
def dpRows : List RegRow := [
  ⟨0x0, 1, 0x0, 0x101, 0x107, 0x0, 0x0, .onWrite⟩   -- DPh_CTL
]

/-- AUD_DOMAIN_A and AUD_DOMAIN_B (R369). -/
def audDomainRows : List RegRow := [
  ⟨0x0, 1, 0x0, 0x0, 0x0, 0x4000000, 0x0, .status⟩,  -- AUD_DOMAIN_A
  ⟨0x4, 1, 0x0, 0x0, 0x0, 0x4000000, 0x0, .status⟩   -- AUD_DOMAIN_B
]

/-- AUD_SWAP (R369). -/
def audSwapRows : List RegRow := [
  ⟨0x0, 1, 0x0, 0x0, 0x0, 0x0, 0x0, .onWrite⟩   -- AUD_SWAP
]

/-- Block-engine registers (R387). -/
def blkRows : List RegRow := [
  ⟨0x0, 1, 0x0, 0x8000000, 0x0, 0x4000000, 0x0, .onWrite⟩,  -- BLKe_LEND
  ⟨0x4, 1, 0x0, 0x0, 0x0, 0x0, 0x0, .onWrite⟩,  -- BLKe_CTL
  ⟨0x8, 1, 0x0, 0x0, 0xFFF0007F, 0x0, 0x0, .onWrite⟩,  -- BLKe_OP
  ⟨0x10, 1, 0x0, 0x0, 0xFFFFFFFC, 0x0, 0x0, .onWrite⟩,  -- BLKe_SRC_ADDR_LO
  ⟨0x14, 1, 0x0, 0x0, 0xFF, 0x0, 0x0, .onWrite⟩,  -- BLKe_SRC_ADDR_HI
  ⟨0x18, 1, 0x0, 0x0, 0xFFFFFFFC, 0x0, 0x0, .onWrite⟩,  -- BLKe_DST_ADDR_LO
  ⟨0x1C, 1, 0x0, 0x0, 0xFF, 0x0, 0x0, .onWrite⟩,  -- BLKe_DST_ADDR_HI
  ⟨0x20, 1, 0x0, 0x0, 0xFFFFF, 0x0, 0x0, .onWrite⟩,  -- BLKe_SRC_PITCH
  ⟨0x24, 1, 0x0, 0x0, 0xFFFFF, 0x0, 0x0, .onWrite⟩,  -- BLKe_DST_PITCH
  ⟨0x28, 1, 0x0, 0x0, 0x3FFF3FFF, 0x0, 0x0, .onWrite⟩,  -- BLKe_SRC_SIZE
  ⟨0x2C, 1, 0x0, 0x0, 0x3FFF3FFF, 0x0, 0x0, .onWrite⟩,  -- BLKe_DST_SIZE
  ⟨0x30, 1, 0x0, 0x0, 0xFFFFFFFF, 0x0, 0x0, .onWrite⟩,  -- BLKe_FILL
  ⟨0x34, 1, 0x0, 0x0, 0xFFF, 0x0, 0x0, .onWrite⟩,  -- BLKe_DEAD
  ⟨0x40, 1, 0x0, 0x0, 0x0, 0x60000000, 0x0, .onWrite⟩,  -- BLKe_STAT
  ⟨0x44, 1, 0x0, 0x0, 0x0, 0x0, 0x0, .onWrite⟩   -- BLKe_PROG
]

/-- Carter channel registers (R406). -/
def carRows : List RegRow := [
  ⟨0x0, 1, 0x0, 0x0, 0x0, 0x0, 0x0, .onWrite⟩,  -- CHc_CTL
  ⟨0x4, 1, 0x0, 0x0, 0xFFFFE07F, 0x0, 0x0, .onWrite⟩,  -- CHc_CFG
  ⟨0x8, 1, 0x0, 0x0, 0x7, 0x0, 0x0, .onWrite⟩,  -- CHc_IRQ_EN
  ⟨0x10, 1, 0x0, 0x0, 0xFFFFFFE1, 0x0, 0x0, .onWrite⟩,  -- CHc_HEAD_LO
  ⟨0x14, 1, 0x0, 0x0, 0xFFFFFFFF, 0x0, 0x0, .onWrite⟩,  -- CHc_HEAD_HI
  ⟨0x18, 1, 0x0, 0x0, 0x0, 0x1C000000, 0xFFFF, .onWrite⟩,  -- CHc_STAT
  ⟨0x20, 1, 0x0, 0x0, 0x0, 0x0, 0x0, .onWrite⟩,  -- CHc_CUR_LO
  ⟨0x24, 1, 0x0, 0x0, 0x0, 0x0, 0x0, .onWrite⟩,  -- CHc_CUR_HI
  ⟨0x28, 1, 0x0, 0x0, 0x0, 0x0, 0x0, .onWrite⟩,  -- CHc_SRC_LO
  ⟨0x2C, 1, 0x0, 0x0, 0x0, 0x0, 0x0, .onWrite⟩,  -- CHc_SRC_HI
  ⟨0x30, 1, 0x0, 0x0, 0x0, 0x0, 0x0, .onWrite⟩,  -- CHc_DST_LO
  ⟨0x34, 1, 0x0, 0x0, 0x0, 0x0, 0x0, .onWrite⟩,  -- CHc_DST_HI
  ⟨0x38, 1, 0x0, 0x0, 0x0, 0x0, 0x0, .onWrite⟩,  -- CHc_REMAIN
  ⟨0x3C, 1, 0x0, 0x0, 0x0, 0x0, 0x0, .onWrite⟩,  -- CHc_HOPS
  ⟨0x40, 1, 0x0, 0x0, 0x0, 0x0, 0x0, .onWrite⟩,  -- CHc_CUR_CTL
  ⟨0x48, 1, 0x0, 0x0, 0x0, 0x0, 0x0, .onWrite⟩,  -- CHc_CUR_NEXT_LO
  ⟨0x4C, 1, 0x0, 0x0, 0x0, 0x0, 0x0, .onWrite⟩   -- CHc_CUR_NEXT_HI
]

/-- Time base, compares, captures and Bellwire channels (R453). -/
def bellRows : List RegRow := [
  ⟨0x0, 1, 0x0, 0x0, 0x0, 0x0, 0x0, .onWrite⟩,  -- TB_LO
  ⟨0x4, 1, 0x0, 0x0, 0x0, 0x0, 0x0, .onWrite⟩,  -- TB_HI
  ⟨0x8, 1, 0x0, 0x0, 0x0, 0x0, 0x0, .onWrite⟩,  -- TB_STAT
  ⟨0x1000, 64, 0x20, 0x0, 0xFFFFFFFF, 0x0, 0x0, .onWrite⟩,  -- CMPn_VAL_LO
  ⟨0x1004, 64, 0x20, 0x0, 0xFFFFFFFF, 0x0, 0x0, .onWrite⟩,  -- CMPn_VAL_HI
  ⟨0x1008, 64, 0x20, 0x0, 0xFC00007F, 0x0, 0x0, .onWrite⟩,  -- CMPn_CTL
  ⟨0x100C, 64, 0x20, 0x0, 0xFFFFFFFF, 0x0, 0x0, .onWrite⟩,  -- CMPn_PERIOD
  ⟨0x1010, 64, 0x20, 0x0, 0x0, 0x80000000, 0xFFFF, .onWrite⟩,  -- CMPn_STAT
  ⟨0x2000, 16, 0x20, 0x0, 0xF800007F, 0x0, 0x0, .onWrite⟩,  -- CAPn_CTL
  ⟨0x2004, 16, 0x20, 0x0, 0x0, 0x0, 0xC0000007, .onWrite⟩,  -- CAPn_POP
  ⟨0x2008, 16, 0x20, 0x0, 0x0, 0x0, 0x0, .onWrite⟩,  -- CAPn_VAL_LO
  ⟨0x200C, 16, 0x20, 0x0, 0x0, 0x0, 0x0, .onWrite⟩,  -- CAPn_VAL_HI
  ⟨0x2010, 16, 0x20, 0x0, 0x0, 0x80000000, 0x0, .onWrite⟩,  -- CAPn_STAT
  ⟨0x4000, 128, 0x10, 0x0, 0x40000000, 0x0, 0x0, .onWrite⟩,  -- CHn_CTL
  ⟨0x4004, 128, 0x10, 0x0, 0x0, 0x30000000, 0xFFFF, .onWrite⟩,  -- CHn_STAT
  ⟨0x4008, 128, 0x10, 0x0, 0x0, 0x0, 0x0, .onWrite⟩,  -- CHn_COUNT
  ⟨0x400C, 128, 0x10, 0x0, 0x0, 0x0, 0xFFFFFFFF, .onWrite⟩   -- CHn_DROPPED
]

/-- Interrupt controller (R470). -/
def icRows : List RegRow := [
  ⟨0x0, 1024, 0x8, 0x0, 0xFFFFFFFF, 0x0, 0x0, .onWrite⟩,  -- IC_ROUTEn_LO
  ⟨0x4, 1024, 0x8, 0x0, 0xFF001F, 0x0, 0x0, .onWrite⟩,  -- IC_ROUTEn_HI
  ⟨0x2000, 32, 0x4, 0x0, 0xFFFFFFFF, 0x0, 0x0, .onWrite⟩,  -- IC_ENw
  ⟨0x2080, 32, 0x4, 0x0, 0x0, 0x0, 0x0, .onWrite⟩,  -- IC_PENDw
  ⟨0x2100, 32, 0x4, 0x0, 0x0, 0x0, 0x0, .onWrite⟩,  -- IC_ACTIVEw
  ⟨0x2180, 32, 0x4, 0x0, 0x0, 0x0, 0x0, .onWrite⟩,  -- IC_LEVELw
  ⟨0x2200, 64, 0x4, 0x0, 0xFFFF, 0x0, 0x0, .onWrite⟩,  -- GRPg_HOLDOFF
  ⟨0x2300, 1, 0x0, 0x0, 0x0, 0x0, 0x800003FF, .onWrite⟩,  -- IC_CLAIM
  ⟨0x2304, 1, 0x0, 0x0, 0x0, 0x0, 0x0, .onWrite⟩,  -- IC_COMPLETE
  ⟨0x2308, 1, 0x0, 0x0, 0x0, 0x0, 0xFFFFFFFF, .onWrite⟩,  -- IC_STAT
  ⟨0x2400, 64, 0x4, 0x0, 0x800003FF, 0x40000000, 0x0, .onWrite⟩   -- IC_WATCHk
]

/-- Cabinet I/O (R491). -/
def cioRows : List RegRow := [
  ⟨0x0, 96, 0x4, 0xD000000, 0xFFFFFFFF, 0x0, 0x0, .onWrite⟩,  -- CIOp_CFG
  ⟨0x200, 3, 0x4, 0x0, 0x0, 0x0, 0x0, .onWrite⟩,  -- CIO_INw
  ⟨0x210, 3, 0x4, 0x0, 0xFFFFFFFF, 0x0, 0x0, .onWrite⟩,  -- CIO_OUTw
  ⟨0x220, 3, 0x4, 0x0, 0xFFFFFFFF, 0x0, 0x0, .onWrite⟩,  -- CIO_OEw
  ⟨0x230, 3, 0x4, 0x0, 0x0, 0xFFFFFFFF, 0x0, .onWrite⟩,  -- CIO_EDGEw
  ⟨0x240, 3, 0x4, 0x0, 0x0, 0x0, 0x0, .onWrite⟩,  -- CIO_ERRw
  ⟨0x1000, 12, 0x10, 0x0, 0xFFFFFFC0, 0x0, 0x0, .onWrite⟩,  -- SERg_CFG
  ⟨0x1004, 12, 0x10, 0x0, 0x0, 0x0, 0x0, .onWrite⟩,  -- SERg_DATA
  ⟨0x1008, 12, 0x10, 0x10, 0x0, 0x70000000, 0x0, .onWrite⟩,  -- SERg_STAT
  ⟨0x2000, 12, 0x4, 0x0, 0xFFFFFFFF, 0x0, 0x0, .onWrite⟩,  -- QDg_COUNT
  ⟨0x2100, 12, 0x4, 0x0, 0x0, 0x0, 0x0, .onWrite⟩,  -- MXg_KEYS
  ⟨0x2200, 24, 0x4, 0x0, 0xFFFF0000, 0x0, 0x0, .onWrite⟩   -- MTRm_CTL
]

/-- Memory system registers (R428). -/
def memRows : List RegRow := [
  ⟨0x0, 1, 0x0, 0x0, 0x0, 0x0, 0xFFFFFFFF, .onWrite⟩,  -- MEM_BENCH_ECC
  ⟨0x8, 1, 0x0, 0x0, 0x0, 0x0, 0x0, .onWrite⟩,  -- MEM_BENCH_UE_ADDR_LO
  ⟨0xC, 1, 0x0, 0x0, 0x0, 0x80000000, 0x0, .onWrite⟩,  -- MEM_BENCH_UE_ADDR_HI
  ⟨0x10, 1, 0x0, 0x0, 0x0, 0x0, 0x0, .onWrite⟩,  -- MEM_RETIRED
  ⟨0x18, 1, 0x0, 0x0, 0x0, 0x0, 0x0, .onWrite⟩,  -- MEM_SCRUB
  ⟨0x20, 8, 0x4, 0x0, 0x0, 0x0, 0x0, .onWrite⟩,  -- MEM_HEADh_BW
  ⟨0x40, 1, 0x0, 0x80000, 0x38FF007F, 0x0, 0x0, .onWrite⟩,  -- MEM_MARCH_CTL
  ⟨0x44, 1, 0x0, 0x0, 0x0, 0x40000000, 0x0, .onWrite⟩,  -- MEM_MARCH_STAT
  ⟨0x48, 1, 0x0, 0x0, 0x0, 0x0, 0x0, .onWrite⟩,  -- MEM_MARCH_FAIL_LO
  ⟨0x4C, 1, 0x0, 0x0, 0x0, 0x0, 0x0, .onWrite⟩,  -- MEM_MARCH_FAIL_HI
  ⟨0x60, 1, 0x0, 0x76543210, 0x0, 0x0, 0x0, .onWrite⟩,  -- SP_MAP_LO
  ⟨0x64, 1, 0x0, 0xFEDCBA98, 0x0, 0x0, 0x0, .onWrite⟩,  -- SP_MAP_HI
  ⟨0x68, 1, 0x0, 0xF, 0x0, 0x0, 0x0, .onWrite⟩   -- SP_STAT
]

/-- Counting-House mailbox, one block per bench (R515). -/
def chmRows : List RegRow := [
  ⟨0x0, 1, 0x0, 0x0, 0x0, 0x0, 0x0, .onWrite⟩,  -- CHM_STAT
  ⟨0x4, 1, 0x0, 0x0, 0x0, 0x1F, 0x0, .onWrite⟩,  -- CHM_EVT
  ⟨0x8, 1, 0x0, 0x0, 0x1F, 0x0, 0x0, .onWrite⟩,  -- CHM_EVT_EN
  ⟨0x10, 1, 0x0, 0x0, 0x0, 0x0, 0x0, .onWrite⟩,  -- CHM_SEQ
  ⟨0x100, 256, 0x4, 0x0, 0x0, 0x0, 0x0, .onWrite⟩,  -- CHM_HIST
  ⟨0x800, 64, 0x4, 0x0, 0x0, 0x0, 0x0, .onWrite⟩   -- CHM_SENSORn
]

/-- Every block of the register map, with the model's own addresses for the registers that stand outside the device
address map (R26): per-bench registers and core register windows lie above 2^40. -/
def regBlocks : List RegBlock := [
  ⟨0x10000000000, 4, 0x10000, benchRows⟩,
  ⟨0x10000100000, 4, 0x1000, stopRows⟩,
  ⟨0x10001000000, 41, 0x10000, winRows⟩,
  ⟨0x3000000000, 16384, 0x20, ringRows⟩,
  ⟨0x3000080000, 1, 0x80000, qmRows⟩,
  ⟨0x3000100000, 32, 0x1000, coreCtlRows⟩,
  ⟨0x3000120000, 8, 0x1000, lcCtlRows⟩,
  ⟨0x3001000000, 9, 0x100000, peRows⟩,
  ⟨0x3002000000, 8, 0x100000, headRows⟩,
  ⟨0x3003000000, 1024, 0x80, voiceRows⟩,
  ⟨0x3003020000, 64, 0x80, toneRows⟩,
  ⟨0x3003030000, 64, 0x100, busRows⟩,
  ⟨0x3003040000, 48, 0x40, pairRows⟩,
  ⟨0x3003050000, 96, 0x4, outRouteRows⟩,
  ⟨0x3003051000, 32, 0x4, stRows⟩,
  ⟨0x3003060000, 4, 0x40, tdmRows⟩,
  ⟨0x3003061000, 8, 0x10, dpRows⟩,
  ⟨0x3003070000, 1, 0x8, audDomainRows⟩,
  ⟨0x3003071000, 1, 0x4, audSwapRows⟩,
  ⟨0x3003400000, 2, 0x10000, blkRows⟩,
  ⟨0x3003500000, 64, 0x400, carRows⟩,
  ⟨0x3003600000, 1, 0x10000, bellRows⟩,
  ⟨0x3003610000, 1, 0x10000, icRows⟩,
  ⟨0x3003620000, 1, 0x10000, cioRows⟩,
  ⟨0x3003700000, 1, 0x10000, memRows⟩,
  ⟨0x3003800000, 4, 0x1000, chmRows⟩
]

/-- The address a per-bench copy of a register is kept at: bank b of address a (b from 0). Bank 0 is the plain address. -/
def bankKey (bank a : Nat) : Nat := bank * 0x80000000000 + a

/-- The plain address of a key. -/
def plainKey (k : Nat) : Nat := k % 0x80000000000

/-- The row of a register at an offset of its block. -/
def RegRow.covers (off : Nat) (r : RegRow) : Bool :=
  if r.count ≤ 1 then r.off == off
  else decide (r.off ≤ off) && decide (off < r.off + r.count * r.stride) && (off - r.off) % r.stride == 0

/-- The row that describes the register word at a key; none for a reserved or unmapped word (R19). -/
def regRow (k : Nat) : Option RegRow :=
  let a := plainKey k
  match regBlocks.find? fun b => decide (b.base ≤ a) && decide (a < b.base + b.count * b.stride) with
  | none => none
  | some b => b.rows.find? (RegRow.covers ((a - b.base) % b.stride))

/-- The reset value of a register word. -/
def regReset (k : Nat) : Word :=
  match regRow k with
  | none => 0
  | some r => BitVec.ofNat 32 r.reset

end Sys2Proof.Machine
end

