-- ==== Sys2Proof/Machine/Sparse.lean ====
section
/-!
DEFINITION. Sparse tables: a list of keys and values in one canonical form (keys strictly rising, no entry equal to
what an unlisted key reads as), so that equal tables are equal data. Registers, memory bytes and the per-unit records
are held this way.
-/
namespace Sys2Proof.Machine

/-- The value of a key; an unlisted key reads as its default. -/
def Sparse.get {α : Type} (d : Nat → α) : List (Nat × α) → Nat → α
  | [], k => d k
  | (k', v) :: t, k => if k' = k then v else Sparse.get d t k

/-- A table with one entry placed in key order. -/
def Sparse.put {α : Type} : List (Nat × α) → Nat → α → List (Nat × α)
  | [], k, v => [(k, v)]
  | (k', v') :: t, k, v =>
    if k' < k then (k', v') :: Sparse.put t k v
    else if k' = k then (k, v) :: t
    else (k, v) :: (k', v') :: t

/-- A table with every entry of a key removed. -/
def Sparse.del {α : Type} (t : List (Nat × α)) (k : Nat) : List (Nat × α) :=
  t.filter fun e => e.1 != k

/-- A table with a key set to a value: the entry goes away when the value is the key's default. -/
def Sparse.set {α : Type} [DecidableEq α] (d : Nat → α) (t : List (Nat × α)) (k : Nat) (v : α) : List (Nat × α) :=
  if v = d k then Sparse.del t k else Sparse.put t k v

/-- A table with every key that satisfies a test back at its default. -/
def Sparse.clear {α : Type} (p : Nat → Bool) (t : List (Nat × α)) : List (Nat × α) :=
  t.filter fun e => !p e.1

/-- The keys are strictly rising. -/
def Sparse.sorted {α : Type} : List (Nat × α) → Bool
  | [] => true
  | [_] => true
  | (a, _) :: (b, w) :: t => decide (a < b) && Sparse.sorted ((b, w) :: t)

/-- The canonical form. -/
def Sparse.wf {α : Type} [DecidableEq α] (d : Nat → α) (t : List (Nat × α)) : Bool :=
  Sparse.sorted t && t.all fun e => decide (e.2 ≠ d e.1)

/-- A set of numbers, kept as a rising list without repeats: insertion. -/
def NatSet.insert : List Nat → Nat → List Nat
  | [], k => [k]
  | a :: t, k => if a < k then a :: NatSet.insert t k else if a = k then a :: t else k :: a :: t

/-- Removal from a set of numbers. -/
def NatSet.erase (t : List Nat) (k : Nat) : List Nat := t.filter fun a => a != k

end Sys2Proof.Machine
end

