-- ==== Sys2Proof/Machine/Bits.lean ====
section
/-!
DEFINITION. Bit fields of register words, sign reading, and byte order: the helpers every register and memory
operation of the model is written with (R16, R17, R107).
-/
namespace Sys2Proof.Machine

/-- The field [hi:lo] of a number, as R16 writes bit ranges. -/
def nfld (v hi lo : Nat) : Nat := (v >>> lo) % 2 ^ (hi + 1 - lo)

/-- Bit k of a number. -/
def nbit (v k : Nat) : Bool := v.testBit k

/-- The field [hi:lo] of a register word. -/
def wfld (v : Word) (hi lo : Nat) : Nat := nfld v.toNat hi lo

/-- The word whose bits [hi:lo] are 1. -/
def maskBits (hi lo : Nat) : Word := BitVec.ofNat 32 ((2 ^ (hi + 1 - lo) - 1) <<< lo)

/-- A register word with its field [hi:lo] replaced by n, cut to the field. -/
def setFld (v : Word) (hi lo n : Nat) : Word :=
  (v &&& ~~~(maskBits hi lo)) ||| BitVec.ofNat 32 ((n % 2 ^ (hi + 1 - lo)) <<< lo)

/-- A register word with bit k replaced. -/
def setBit (v : Word) (k : Nat) (b : Bool) : Word := setFld v k k b.toNat

/-- A number read as signed at a width in bits (s(x) of the instruction tables). -/
def sgn (bits v : Nat) : Int :=
  let u := v % 2 ^ bits
  if 2 * u < 2 ^ bits then Int.ofNat u else Int.ofNat u - Int.ofNat (2 ^ bits)

/-- An integer narrowed to a width, modulo 2^bits. -/
def narrow (bits : Nat) (i : Int) : Nat := (i % Int.ofNat (2 ^ bits)).toNat

/-- A number sign-extended from one width to another. -/
def sext (fromBits toBits v : Nat) : Nat := narrow toBits (sgn fromBits v)

/-- An integer held between two bounds. -/
def clampI (lo hi v : Int) : Int := if v < lo then lo else if hi < v then hi else v

/-- The bytes of a number, low byte first (R107). -/
def leBytes : Nat → Nat → List Byte
  | 0, _ => []
  | n + 1, v => BitVec.ofNat 8 v :: leBytes n (v / 256)

/-- The number that bytes spell, low byte first (R107). -/
def leNat : List Byte → Nat
  | [] => 0
  | b :: t => b.toNat + 256 * leNat t

/-- How many 1 bits the low `n` bits of a number hold. -/
def popCount : Nat → Nat → Nat
  | 0, _ => 0
  | n + 1, v => v % 2 + popCount n (v / 2)

/-- The indices of the 1 bits below `n`, lowest first. -/
def bitList (n v : Nat) : List Nat := (List.range n).filter fun k => nbit v k

/-- Division rounded up. -/
def ceilDiv (a b : Nat) : Nat := (a + b - 1) / b

/-- A counter that stops at a maximum instead of wrapping. -/
def satInc (maxv v : Nat) : Nat := if v < maxv then v + 1 else maxv

/-- A mask of bit numbers. -/
def maskOf (l : List Nat) : Nat := l.foldl (fun n p => n + 2 ^ p) 0

end Sys2Proof.Machine
end

