-- ==== Sys2Proof/Machine/Plan.lean ====
section
/-!
DEFINITION. The bench plan (R55), the shipped plan (R59), who holds what under a plan (R30, R56, R73), and the checks a
plan passes before it is staged (R57, R418).
-/
namespace Sys2Proof.Machine

/-- One bench of a plan (R55). Masks are numbers with one bit per unit. -/
structure BenchPlan where
  present      : Bool
  link         : Nat
  func         : Nat
  planner      : Bool
  scrub        : Bool
  heads        : Nat
  headBw       : List Nat
  sceneCores   : Nat
  scratchPages : Nat
  rings        : Nat
  carter       : Nat
  blockLend    : Nat
  voiceFirst   : Nat
  voiceCount   : Nat
  toneFirst    : Nat
  toneCount    : Nat
  mixBuses     : Nat
  tdmPorts     : Nat
  granules     : Nat
  cmp          : Nat
  cap          : Nat
  bell         : Nat
  cio          : Nat
deriving DecidableEq, Repr

/-- A bench plan (R55): the global fields and the four benches. -/
structure Plan where
  version       : Nat
  linkCfg       : Nat
  linkClock     : Nat
  smbusAddr     : Nat
  houseGranules : Nat
  portASrc      : Nat
  portBSrc      : Nat
  benches       : List BenchPlan
deriving DecidableEq, Repr

/-- A bench that is not present. -/
def absentBench : BenchPlan :=
  { present := false, link := 0, func := 0, planner := false, scrub := false, heads := 0, headBw := [],
    sceneCores := 0, scratchPages := 0, rings := 0, carter := 0, blockLend := 0, voiceFirst := 0, voiceCount := 0,
    toneFirst := 0, toneCount := 0, mixBuses := 0, tdmPorts := 0, granules := 0, cmp := 0, cap := 0, bell := 0, cio := 0 }

/-- The plan shipped with the module (R59). -/
def shippedPlan : Plan :=
  { version := 1, linkCfg := 0, linkClock := 0, smbusAddr := 0x5E, houseGranules := 8, portASrc := 1, portBSrc := 1,
    benches :=
      [{ present := true, link := 0, func := 0, planner := true, scrub := false, heads := 0xFF,
         headBw := [40000, 40000, 40000, 40000, 40000, 40000, 40000, 40000], sceneCores := 0xFFFFFFFF,
         scratchPages := 0xFFFFFFF, rings := 4096, carter := 0xFFFFFFFFFFFFFFFF, blockLend := 3, voiceFirst := 0,
         voiceCount := 1024, toneFirst := 0, toneCount := 64, mixBuses := 0xFFFFFFFFFFFFFFFF, tdmPorts := 0xF,
         granules := 120, cmp := 0xFFFFFFFFFFFFFFFF, cap := 0xFFFF, bell := 2 ^ 128 - 1, cio := 2 ^ 96 - 1 },
       absentBench, absentBench, absentBench] }

/-- The plan of bench b. -/
def Plan.bench (p : Plan) (b : Nat) : BenchPlan := p.benches.getD b absentBench

/-- The first bench, if any, that is present and passes a test: the holder of a unit (R30). -/
def Plan.holder (p : Plan) (t : BenchPlan → Bool) : Option Nat :=
  (List.range 4).find? fun b => (p.bench b).present && t (p.bench b)

/-- The holder of HEADh, with its line core, engine window, palette and link (R30). -/
def Plan.headBench (p : Plan) (h : Nat) : Option Nat := p.holder fun q => nbit q.heads h
/-- The holder of scene core c (R119). -/
def Plan.coreBench (p : Plan) (c : Nat) : Option Nat := p.holder fun q => nbit q.sceneCores c
/-- The holder of Carter channel c (R390). -/
def Plan.carterBench (p : Plan) (c : Nat) : Option Nat := p.holder fun q => nbit q.carter c
/-- The holder of sample voice v. -/
def Plan.voiceBench (p : Plan) (v : Nat) : Option Nat :=
  p.holder fun q => decide (q.voiceFirst ≤ v) && decide (v < q.voiceFirst + q.voiceCount)
/-- The holder of tone voice t. -/
def Plan.toneBench (p : Plan) (t : Nat) : Option Nat :=
  p.holder fun q => decide (q.toneFirst ≤ t) && decide (t < q.toneFirst + q.toneCount)
/-- The holder of mix bus m. -/
def Plan.busBench (p : Plan) (m : Nat) : Option Nat := p.holder fun q => nbit q.mixBuses m
/-- The holder of a TDM port. -/
def Plan.tdmBench (p : Plan) (t : Nat) : Option Nat := p.holder fun q => nbit q.tdmPorts t
/-- The holder of a compare channel. -/
def Plan.cmpBench (p : Plan) (n : Nat) : Option Nat := p.holder fun q => nbit q.cmp n
/-- The holder of a capture channel. -/
def Plan.capBench (p : Plan) (n : Nat) : Option Nat := p.holder fun q => nbit q.cap n
/-- The holder of a Bellwire channel. -/
def Plan.bellBench (p : Plan) (n : Nat) : Option Nat := p.holder fun q => nbit q.bell n
/-- The holder of a CIO pin. -/
def Plan.cioBench (p : Plan) (n : Nat) : Option Nat := p.holder fun q => nbit q.cio n

/-- The first granule of bench b: granules are given out in bench order (R56). -/
def Plan.granFirst (p : Plan) (b : Nat) : Nat :=
  ((List.range b).map fun k => if (p.bench k).present then (p.bench k).granules else 0).foldl (· + ·) 0
/-- The holder of a granule (R56). -/
def Plan.granBench (p : Plan) (g : Nat) : Option Nat :=
  (List.range 4).find? fun b =>
    (p.bench b).present && decide (p.granFirst b ≤ g) && decide (g < p.granFirst b + (p.bench b).granules)
/-- The first global ring of bench b: rings are given out in bench order (R73). -/
def Plan.ringFirst (p : Plan) (b : Nat) : Nat :=
  ((List.range b).map fun k => if (p.bench k).present then (p.bench k).rings else 0).foldl (· + ·) 0
/-- The holder of a ring (R73). -/
def Plan.ringBench (p : Plan) (g : Nat) : Option Nat :=
  (List.range 4).find? fun b =>
    (p.bench b).present && decide (p.ringFirst b ≤ g) && decide (g < p.ringFirst b + (p.bench b).rings)

/-- The smallest power of two that is at least n, from a power to start at. -/
def powerFrom (n : Nat) : Nat → Nat → Nat
  | 0, p => p
  | fuel + 1, p => if n ≤ p then p else powerFrom n fuel (2 * p)

/-- The size of bench b's BAR2 (R50): the smallest power of two of at least its granules, and at least 1 GiB. -/
def Plan.bar2Size (p : Plan) (b : Nat) : Nat := powerFrom (p.bench b).granules 7 1 * 0x40000000

/-- How many links a LINK_CFG creates (R42); none for a reserved value. -/
def linksOf (cfg : Nat) : Option Nat :=
  match cfg with
  | 0 => some 1
  | 1 => some 2
  | 2 => some 3
  | 3 => some 4
  | _ => none

/-- The lanes of link l under a LINK_CFG (R42). -/
def linkWidth (cfg l : Nat) : Nat :=
  match cfg, l with
  | 0, 0 => 4
  | 1, 0 => 2
  | 1, 1 => 2
  | 2, 0 => 2
  | 2, 1 => 1
  | 2, 2 => 1
  | 3, _ => if l < 4 then 1 else 0
  | _, _ => 0

/-- No two numbers of a list share a bit. -/
def masksDisjoint : List Nat → Bool
  | [] => true
  | m :: t => (t.all fun n => m &&& n == 0) && masksDisjoint t

/-- No two ranges of a list overlap; each is a first number and a count. -/
def rangesDisjoint : List (Nat × Nat) → Bool
  | [] => true
  | (f, n) :: t =>
    (t.all fun (g, m) => n == 0 || m == 0 || decide (f + n ≤ g) || decide (g + m ≤ f)) && rangesDisjoint t

/-- The units of the present benches are given out once, and no LINK and FUNC pair is repeated (R57, DETAIL 0x01). -/
def Plan.unitsOnce (p : Plan) : Bool :=
  let q := p.benches.filter (·.present)
  masksDisjoint (q.map (·.heads)) && masksDisjoint (q.map (·.sceneCores)) && masksDisjoint (q.map (·.scratchPages))
    && masksDisjoint (q.map (·.carter)) && masksDisjoint (q.map (·.mixBuses)) && masksDisjoint (q.map (·.tdmPorts))
    && masksDisjoint (q.map (·.cmp)) && masksDisjoint (q.map (·.cap)) && masksDisjoint (q.map (·.bell))
    && masksDisjoint (q.map (·.cio)) && rangesDisjoint (q.map fun b => (b.voiceFirst, b.voiceCount))
    && rangesDisjoint (q.map fun b => (b.toneFirst, b.toneCount))
    && decide ((q.map fun b => b.link * 4 + b.func).Nodup)

/-- Every count and range lies within its limit (R55, R56, R57, DETAIL 0x02). -/
def Plan.countsFit (p : Plan) : Bool :=
  let q := p.benches.filter (·.present)
  decide (4 ≤ p.houseGranules) && decide (p.houseGranules ≤ 16)
    && decide (0x08 ≤ p.smbusAddr) && decide (p.smbusAddr ≤ 0x77)
    && decide ((q.map (·.granules)).foldl (· + ·) 0 + p.houseGranules ≤ 128)
    && decide ((q.map (·.rings)).foldl (· + ·) 0 ≤ 16384)
    && q.all fun b =>
      decide (b.rings ≤ 4096) && decide (b.voiceFirst ≤ 1023) && decide (b.voiceFirst + b.voiceCount ≤ 1024)
        && decide (b.toneFirst ≤ 63) && decide (b.toneFirst + b.toneCount ≤ 64)
        && decide (b.heads < 256) && decide (b.sceneCores < 2 ^ 32) && decide (b.scratchPages < 2 ^ 28)
        && decide (b.granules ≤ 124) && decide (b.link < 4) && decide (b.func < 4)

/-- Every link carries a function and numbers its functions from 0 without gaps (R44, R57, DETAIL 0x04). -/
def Plan.functionsDense (p : Plan) (links : Nat) : Bool :=
  (List.range links).all fun l =>
    let fs := (p.benches.filter fun b => b.present && b.link == l).map (·.func)
    !fs.isEmpty && (List.range fs.length).all fun k => fs.contains k

/-- The sum of the head allotments with the daybook and audio reserves (R418). -/
def Plan.bandwidth (p : Plan) : Nat :=
  ((p.benches.filter (·.present)).map fun b =>
    ((bitList 8 b.heads).map fun h => b.headBw.getD h 0).foldl (· + ·) 0).foldl (· + ·) 0 + 16000 + 4000

/-- The DETAIL of the first rule a plan fails, in the order of R57; none when the plan may be staged. -/
def Plan.refusal (p : Plan) : Option Nat :=
  if !p.unitsOnce then some 1
  else if !p.countsFit then some 2
  else match linksOf p.linkCfg with
    | none => some 3
    | some n =>
      if !p.functionsDense n then some 4
      else if !(p.benches.any fun b => b.present && b.planner) then some 5
      else if 384000 < p.bandwidth then some 6
      else if p.benches.any fun b => b.present && decide (n ≤ b.link) then some 8
      else none

end Sys2Proof.Machine
end

