-- ==== Sys2Proof/Machine/State.lean ====
section
/-!
DEFINITION. The state of the module as plain data, and the state after reset. Every register of the register tables
lives in `regs`, under its device address (or the model's own address for a register outside the device address map),
and reads as its reset value until it is written; the records below hold the state the spec gives the units beside their
registers. Tables keyed by a unit's number list only what differs from the unit's reset record.
-/
namespace Sys2Proof.Machine

/-- What a core waits for (R136, R137, R138, R170), or a stall of the instruction it is in: an operand-cache line (R105), a
write that waits at its beam port (R176), a read behind its own writes at head h's fabric port (R131). -/
inductive CoreWait where
  | none
  | wait
  | waitl (n : Nat)
  | waits (s : Nat) (past : Bool)
  | waitn
  | sync
  | hold (frame : Bool)
  | fill (line : Nat)
  | port
  | behind (h : Nat)
deriving DecidableEq, Repr

/-- A repeated string instruction between iterations (R157): the instruction, its prefix (0 REP, 1 REPM, 2 REPD), its
VAR field and the address after it. -/
structure RepRec where
  op   : StringOp
  mode : Nat
  var  : BitVec 4
  next : Nat
deriving DecidableEq, Repr

/-- A Pyriva core's state beside its registers: its wait, the address after a waiting instruction, a repeat under way,
the halt asked of it (0, or the HCODE it will show), STEP under way, a pending LATE, its operand cache (scene cores,
R106: held lines and their 512 bits), and the clocks since the last line boundary at which it left a beam wait (R184). -/
structure Core where
  wait     : CoreWait
  waitNext : Nat
  rep      : Option RepRec
  haltAsk  : Nat
  stepArm  : Bool
  late     : Bool
  cache    : List (Nat × BitVec 512)
  clocks   : Nat
  counting : Bool
  /-- A value the running instruction or repeat has written to PC (R98), and whether an iteration wrote CNT (R158). -/
  jump     : Option Nat
  cntHit   : Bool
  /-- A line core frozen by Hold that waits for its head's next line boundary (R535); the Clerk after its own HALT. -/
  frozen   : Bool
  /-- LINE of the core's head has changed since the core's wait began; for a hold with START_FRAME, to 0 (R137, R170). -/
  moved    : Bool
  /-- A beam wait that completed at once, its address and the one after it, until the core's next instruction begins (R186). -/
  atOnce   : Option (CoreWait × Nat × Nat)
deriving DecidableEq, Repr

/-- A core as reset leaves it (R120). -/
def Core.reset : Core :=
  { wait := .none, waitNext := 0, rep := none, haltAsk := 0, stepArm := false, late := false, cache := [],
    clocks := 0, counting := false, jump := none, cntHit := false, frozen := false, moved := false, atOnce := none }

/-- A word write at a head's port, waiting there or in a pending set (R173, R174, R176): the register's line-view address, its
value and byte enables, the attribute it carries, the port it came by, its place in staging order, who wrote it, and whether it
has counted in STALLS. -/
structure Pend where
  key    : Nat
  val    : Word
  be     : Nat
  span   : Bool
  fabric : Bool
  order  : Nat
  who    : Requester
  stalled : Bool
deriving DecidableEq, Repr

/-- A sprite descriptor in a store: its index, its eight words (R221, R223), and whether the entry holds uncorrectable data
(R310, R316). -/
structure Sprite where
  idx   : Nat
  words : List Word
  bad   : Bool
deriving DecidableEq, Repr

/-- The sort pass of an engine (R223, R226). `outcome`: 0 no pass since the last swap boundary, 1 running, 2 completed,
3 abandoned. -/
structure SortPass where
  outcome : Nat
  next    : Nat
  base    : Nat
  count   : Nat
  quota   : Nat
deriving DecidableEq, Repr

/-- A bitmap plane's active group (R263): FMT, the three addresses and PITCH as they latched. -/
structure MbActive where
  fmt   : Word
  addr0 : Nat
  addr1 : Nat
  addr2 : Nat
  pitch : Word
deriving DecidableEq, Repr

/-- An extent: left column, top line, width and height (R246). -/
structure Extent where
  left : Nat
  top  : Nat
  w    : Nat
  h    : Nat
deriving DecidableEq, Repr

/-- A bitmap output row fetched ahead (R257): the plane, the render line it serves, its slot's top line, the values that shape
it, the buffer it was fetched from, and the raw samples of its rows (a sample that is uncorrectable or blocked is absent; a row
that was not admitted has none). -/
structure BmRow where
  plane : Nat
  line  : Nat
  top   : Nat
  posX  : Nat
  posY  : Nat
  buf   : MbActive
  sw    : Nat
  sh    : Nat
  stepX : Nat
  stepY : Nat
  bilin : Bool
  rows  : List (Nat × List (Option (Nat × Nat × Nat)))
  last  : Nat
deriving DecidableEq, Repr

/-- A slot's pixel as the blender takes it (R248 to R251): A, the colour (10 bits, or L16 in linear light), PM, the
slot's layer alpha and its blend rule. -/
structure SlotPx where
  a    : Nat
  r    : Nat
  g    : Nat
  b    : Nat
  pm   : Bool
  la   : Nat
  rule : Nat
deriving DecidableEq, Repr

/-- A finished pixel: ARGB8888 and its PM flag (R192). -/
structure Argb where
  a  : Nat
  r  : Nat
  g  : Nat
  b  : Nat
  pm : Bool
deriving DecidableEq, Repr

/-- A transparent pixel (R207). -/
def Argb.clear : Argb := { a := 0, r := 0, g := 0, b := 0, pm := false }

/-- A source pixel of a bitmap plane, as it is filtered, and the address ranges of the samples it was made of (R253 to R255, R260). -/
structure BmTap where
  px   : Nat × Nat × Nat × Nat
  from_ : List (Nat × Nat)
deriving DecidableEq, Repr

/-- What a slot shows at a column: a pixel that no fetch brings, engine plane i (T0 to T3, S0, S1), or a pixel of bitmap plane p with its
source pixels and the weights of R255. -/
inductive SlotFrom where
  | fill (px : SlotPx)
  | engine (i la rule : Nat)
  | bitmap (p : Nat) (taps : List BmTap) (wx wy : Nat) (pm : Bool) (la rule : Nat)
deriving DecidableEq, Repr

/-- A column of a render line as it was drawn: HEADn_BG as D, D as the surface gave it, the surface slot, the pixels of T0 to T3 and
those of the sprites that meet there, each with the address ranges it was fetched from, and what the slots show (R249, R266). -/
structure DrawnCol where
  x     : Nat
  bg    : Nat × Nat × Nat
  row   : Option (Nat × Nat × Nat)
  surf  : Option Nat
  tiles : List (Argb × List (Nat × Nat))
  spr   : List (Sprite × Argb × List (Nat × Nat))
  slots : List (Nat × SlotFrom)
deriving DecidableEq, Repr

/-- A render line on its way to the scan beam: its number and frame, whether it is an active line, blends in linear light and is served
from the surface; its columns as far as they are drawn; and a mask of the planes T0 to T3, S0 and S1 that the engine writes on it
(R312). -/
structure LineBuf where
  line   : Nat
  fnum   : Nat
  active : Bool
  linear : Bool
  served : Bool
  cols   : List DrawnCol
  writes : Nat
deriving DecidableEq, Repr

/-- The price of the line being prepared and what the scales decided (R234 to R240). -/
structure Price where
  sprites  : List Nat
  withheld : Bool
  clk      : Nat
  bytes    : Nat
  shed     : Nat
  admitted : List Nat
  surface  : Bool
deriving DecidableEq, Repr

/-- A head's state beside its registers. -/
structure Head where
  /-- 0 stopped, 1 starting (R280), 2 running. -/
  run       : Nat
  /-- 0 none, 1 at the frame end, 2 at the next scan-beam line, 3 into PSR at the frame end. -/
  stopAsk   : Nat
  /-- HTIME, HSYNC, VTIME, VSYNC, DOTDIV, LEAD and OUT as copied at the start (R280), then the SYNC_CTL in force. -/
  copy      : List Word
  /-- The copy of the last start whose beams started; empty before the first (R268). -/
  lastCopy  : List Word
  line      : Nat
  span      : Nat
  scan      : Nat
  scanFnum  : Nat
  fnum      : Nat
  /-- Render lines the scan beam has not reached, oldest first, with their frame numbers. -/
  ahead     : List (Nat × Nat)
  /-- Lines drawn ahead of the scan beam (R165, R284). -/
  bufs      : List LineBuf
  lineSet   : List Pend
  spanSet   : List Pend
  /-- Writes that wait at the beam port and at the fabric port, oldest first (R176). -/
  waitCore  : List Pend
  waitFab   : List Pend
  /-- Palette writes not yet seen at a boundary, whose PAL records follow there (R178, R179). -/
  pals      : List Pend
  order     : Nat
  /-- Running origins of T0 to T3, OX then OY, modulo 2^48 (R201). -/
  origins   : List (Nat × Nat)
  front     : List Sprite
  back      : List Sprite
  frontOk   : Bool
  sort      : SortPass
  reported  : List Nat
  /-- First hit of each sprite on the current line: A, classes, lowest other, lowest h. -/
  hits      : List (Nat × Nat × Nat × Nat)
  hitRing   : Option Nat
  price     : Price
  withheldSeen : Bool
  mb        : List MbActive
  bm        : List BmRow
  /-- The extents of the eight slots that shape a render line, by line (R257), and the address ranges of the engine's fetches
  on this line that returned bad data (R231). -/
  exts      : List (Nat × List Extent)
  peBad     : List (Nat × Nat)
  /-- The flattened surface, whose pixels lie in the house region (R416): the rows the running capture has written, and its
  LINEAR; whether an invalidation applies from the next line, whether one landed at the boundary under way, whether a palette
  write came since the last boundary; and the columns of the line being prepared whose read was bad. -/
  surf      : List Nat
  surfLinear : Bool
  invalNext : Bool
  invalHere : Bool
  writeInval : Bool
  surfBad   : List (Nat × Nat × Nat)
  /-- The engine serving the head, 0 to 8; 15 while the safe card shows (R307). -/
  engine    : Nat
  engineBad : Bool
  safeNext  : Bool
  /-- The output is blank; it goes blank at the next scan-beam line boundary (R536). -/
  blank     : Bool
  blankNext : Bool
  /-- Missed sync edges in a row (R285). -/
  missRun   : Nat
  teLevel   : Bool
  flkLevel  : Bool
  /-- TB when the last edge of REF_HEAD came, and EXTRA as it found it where it was an extra one, until the head's next render-beam
  line boundary (R283). -/
  refAt     : Option (Double × Option Nat)
  frameLen  : Nat
  /-- The channels that the first of the two beams' commands of a boundary fired, until the second has come (R446). -/
  fired     : List Nat
  lineCrcs  : List Nat
  psrSink   : Bool
  psrHeld   : Bool
  psrSu     : Bool
  sentWhole : Bool
  plugged   : Bool
  failTold  : Bool
  /-- LINK_CTL as the last training took it (R304), the sink's selective-update granularity in lines (R301), an IRQ_HPD that
  reported loss during training (R305), and the tries the host's AUX request has used (R299). -/
  linkNow   : Word
  suLines   : Nat
  irqLost   : Bool
  auxTries  : Nat
  latched   : Bool
  /-- Doze sets the head's sink to D3: asked for, and done once the beams have stopped (R302). -/
  d3        : Bool
deriving DecidableEq, Repr

/-- A head as reset leaves it: engine n serves HEADn (R307). The running origins stand at (0, 0) from power-up and after a reset of the
bench: R201, R216 and R60 give them no value (DESIGN CHOICE, log 100). -/
def Head.reset (h : Nat) : Head :=
  { run := 0, stopAsk := 0, copy := [], lastCopy := [], line := 0, span := 0, scan := 0, scanFnum := 0, fnum := 0,
    ahead := [], bufs := [], lineSet := [], spanSet := [], waitCore := [], waitFab := [], pals := [], order := 0,
    origins := [(0, 0), (0, 0), (0, 0), (0, 0)], front := [], back := [], frontOk := false,
    sort := { outcome := 0, next := 0, base := 0, count := 0, quota := 0 }, reported := [], hits := [], hitRing := none,
    price := { sprites := [], withheld := false, clk := 0, bytes := 0, shed := 0, admitted := [], surface := false },
    withheldSeen := false, mb := [], bm := [], exts := [], peBad := [], surf := [], surfLinear := false, invalNext := false, invalHere := false,
    writeInval := false, surfBad := [], engine := h, engineBad := false, safeNext := false, blank := false,
    blankNext := false, missRun := 0, teLevel := false, flkLevel := false, refAt := none, frameLen := 0, fired := [], lineCrcs := [],
    psrSink := false, psrHeld := false, psrSu := false, sentWhole := false, plugged := false, failTold := false, linkNow := 0x97, suLines := 1, irqLost := false,
    auxTries := 0, latched := false, d3 := false }

/-- A head's daybook (R320 to R331): the open block's record words, when it was opened, the SEQ and the place of the next block,
how many sealed blocks the journal holds (their bytes lie in the house region), the chain CRC, records lost while the buffer
was full, the running checkpoint, and the drain. -/
structure Journal where
  open_     : List Double
  openTb    : Nat
  openFnum  : Nat
  isOpen    : Bool
  seq       : Nat
  prevCrc   : Nat
  place     : Nat
  count     : Nat
  lost      : Nat
  lostFnum  : Nat
  ckptReq   : Bool
  ckptNo    : Nat
  ckptSeq   : Nat
  ckptRun   : Bool
  watch     : List (Nat × Nat)
  /-- The STATE items of a running checkpoint, as they stood at its start: ITEM, eight doubles, and a mask of the 32-bit words
  that carry a mark (R310, R328). -/
  snap      : List (Nat × List Nat × Nat)
  drainNext : Nat
  drainStop : Bool
deriving DecidableEq, Repr

/-- A journal before its first block, whose PREV, no block coming before it, is 0 (R321 gives none: DESIGN CHOICE, log 102). -/
def Journal.reset : Journal :=
  { open_ := [], openTb := 0, openFnum := 0, isOpen := false, seq := 0, prevCrc := 0, place := 0, count := 0, lost := 0,
    lostFnum := 0, ckptReq := false, ckptNo := 0, ckptSeq := 0, ckptRun := false, watch := [], snap := [],
    drainNext := 0,
    drainStop := false }

/-- The journeyman's duty (R308). -/
inductive Duty where
  | idle
  | assay (h : Nat)
  | stand (h : Nat)
  | retired
deriving DecidableEq, Repr

/-- The journeyman (R308 to R319): its duty; the mirroring under way (head, started, copy complete); the assay frame
under way with its mismatching lines and the first of them; the step of a decision of R315 (0 none, 1 confirm,
2 next head, with the suspected head); a hand-over that waits for it; and an on-request engine test. -/
structure Journeyman where
  duty      : Duty
  mirror    : Option Nat
  started   : Bool
  copied    : Bool
  assaying  : Bool
  badLines  : Nat
  firstBad  : Nat
  step      : Nat
  suspect   : Nat
  handOver  : Option Nat
  reason    : Nat
  testing   : Option Nat
  testBy    : Nat
  handBack  : Option Nat
  /-- Window offsets of its registers that the Counting-House has written while it holds a copy of an engine that serves (R27). -/
  edited    : List Nat
deriving DecidableEq, Repr

/-- The journeyman before Opening. -/
def Journeyman.reset : Journeyman :=
  { duty := .idle, mirror := none, started := false, copied := false, assaying := false, badLines := 0, firstBad := 0,
    step := 0, suspect := 0, handOver := none, reason := 0, testing := none, testBy := 0, handBack := none, edited := [] }

/-- A block engine (R373, R381, R384): its holder, the benches that want it, those it was granted to, a GIVE that waits, the
next piece of a running operation in processing order (its place among the rows, and in its row), the end its last burst
will bring (0, or a STATUS), whether it waits between bursts, and the event of an operation that ended in Hold, which fires when Hold
ends: the bench and the channel (R452). -/
structure Blk where
  owner   : Option Nat
  want    : Nat
  granted : Nat
  giving  : Bool
  piece   : Nat
  ending  : Nat
  dead    : Bool
  row     : Nat
  due     : List (Option Nat × Nat)
deriving DecidableEq, Repr

/-- A block engine no bench holds. -/
def Blk.reset : Blk :=
  { owner := none, want := 0, granted := 0, giving := false, piece := 0, ending := 0, dead := false, row := 0, due := [] }

/-- A range of addresses that a descriptor read or wrote: in host or device space, as a destination or a source (R391, R408). -/
structure CarRange where
  host : Bool
  dst  : Bool
  base : Nat
  len  : Nat
deriving DecidableEq, Repr

/-- A Carter channel's state beside its registers (R393 to R405): what it reads (0 nothing more, 1 a descriptor, 2 source data), the
bytes of the current descriptor whose writes have issued and whose writes are complete, retries of the failing read used, the failing
end it drains towards and its WHERE, and whether HALF has been reached. -/
structure Chan where
  await   : Nat
  len     : Nat
  issued  : Nat
  done    : Nat
  src0    : Nat
  dst0    : Nat
  retries : Nat
  ending  : Nat
  where_  : Nat
  half    : Bool
  latched : Bool
  /-- The current descriptor has completed; and what the descriptors since the last barrier read and wrote. -/
  past    : Bool
  prior   : List CarRange
  /-- Read requests that have issued and not returned (R394), the data at hand whose write failed and the retries of that write (R405). -/
  reads   : Nat
  held    : List Byte
  putRetries : Nat
deriving DecidableEq, Repr

/-- A Carter channel as reset leaves it. -/
def Chan.reset : Chan :=
  { await := 0, len := 0, issued := 0, done := 0, src0 := 0, dst0 := 0, retries := 0, ending := 0, where_ := 0,
    half := false, latched := false, past := false, prior := [], reads := 0, held := [], putRetries := 0 }

/-- A march of a bench's granule (R426): 0 none, 1 marching, 2 zero-filling; the device granule; an abort asked for. -/
structure March where
  phase : Nat
  gran  : Nat
  ending : Nat
deriving DecidableEq, Repr

/-- No march. -/
def March.reset : March := { phase := 0, gran := 0, ending := 0 }

/-- A preserving bank test (R425): 0 none, 1 copying, 2 marching; the logical bank, the physical bank under test, and
who asked (bench 0 to 3, 4 the service port). -/
structure Rotation where
  phase : Nat
  bank  : Nat
  old   : Nat
  byWho : Nat
deriving DecidableEq, Repr

/-- No preserving test. -/
def Rotation.reset : Rotation := { phase := 0, bank := 0, old := 0, byWho := 0 }

/-- A write on its way to a comparator: of C, or of EN (R435, R441). -/
inductive CmpWrite where
  | val (c : Double)
  | en (on : Bool)
deriving DecidableEq, Repr

/-- A compare channel's state beside its registers (R435, R441): the held low half; the writes of C and EN on their way, oldest first,
each with whether a tick has come since it was accepted; and whether crossings are tested. -/
structure Cmp where
  heldLo : Word
  flight : List (CmpWrite × Bool)
  live   : Bool
deriving DecidableEq, Repr

/-- A compare channel as reset leaves it. -/
def Cmp.reset : Cmp := { heldLo := 0, flight := [], live := false }

/-- A task input of the Bellwire (R444). -/
inductive TaskInput where
  | voiceOn (v : Nat)
  | voiceOff (v : Nat)
  | fence (h p : Nat)
  | headSync (h : Nat)
  | capture (n : Nat)
  | pin (p : Nat)
deriving DecidableEq, Repr

/-- A Bellwire channel (R446): the inputs the event in flight has not reached, whether one is in flight, a held fire,
and the events of the current storm window. -/
structure Bell where
  inFlight : Bool
  targets  : List TaskInput
  held     : Bool
  window   : Nat
deriving DecidableEq, Repr

/-- A Bellwire channel at rest. -/
def Bell.reset : Bell := { inFlight := false, targets := [], held := false, window := 0 }

/-- The states of an interrupt source (R460). -/
inductive SrcState where
  | idle
  | pending
  | offered (target : Nat)
  | active
deriving DecidableEq, Repr

/-- An interrupt source (R460, R461, R465): its state, its round-robin pointer, and the TB value at which a running
hold-off ends. -/
structure Source where
  st      : SrcState
  ptr     : Nat
  holdoff : Option Nat
deriving DecidableEq, Repr

/-- A source as reset leaves it. -/
def Source.reset : Source := { st := .idle, ptr := 0, holdoff := none }

/-- A CIO pin (R476, R478, R488): the pin's filtered level before INV, the pin latch of compare output or event out, the
filtered levels at which functions that have left the pin are frozen, by FUNC, and the level at which the keeper holds an output since the
last hand-over. -/
structure Pin where
  level  : Bool
  latch  : Bool
  frozen : List (Nat × Bool)
  kept   : Bool
deriving DecidableEq, Repr

/-- A pin at reset. -/
def Pin.reset : Pin := { level := false, latch := false, frozen := [], kept := false }

/-- A serial unit (R478, R484): TX entries are DATA words, RX entries a byte and its ERR; the first TX byte was begun while
CTS let it; the unit is between START and STOP. -/
structure Ser where
  tx     : List Word
  rx     : List (Byte × Bool)
  begun  : Bool
  opened : Bool
deriving DecidableEq, Repr

/-- Empty FIFOs. -/
def Ser.reset : Ser := { tx := [], rx := [], begun := false, opened := false }

/-- A quadrature unit or a button matrix (R485, R486): the last inputs, the unit condition, and the row being driven. -/
structure CioUnit where
  a    : Bool
  b    : Bool
  cond : Bool
  row  : Nat
deriving DecidableEq, Repr

/-- A unit at reset. -/
def CioUnit.reset : CioUnit := { a := false, b := false, cond := false, row := 0 }

/-- A meter (R487): pulses not yet sent, the phase of the running pulse (0 none, 1 high, 2 low), and, while a pulse that had begun completes
after a reset of the pin, the pin's INV and OD before it (R489). -/
structure Meter where
  left  : Nat
  phase : Nat
  through : Option (Bool × Bool)
deriving DecidableEq, Repr

/-- A meter at rest. -/
def Meter.reset : Meter := { left := 0, phase := 0, through := none }

/-- A fault report on its way to the tally (R502): TB as it came, class, source, scope (0 to 3 a bench, 7 the module), syndrome, and
whether the queue was full when it came (R505). -/
structure Report where
  tb     : Nat
  cls    : Nat
  source : Nat
  scope  : Nat
  syn    : Nat
  lost   : Bool
deriving DecidableEq, Repr

/-- A tally record (R503, R506). -/
structure Record where
  tb    : Nat
  seq   : Nat
  cls   : Nat
  source : Nat
  scope : Nat
  syn   : Nat
  level : Nat
  esc   : Bool
  acked : Bool
  tracked : Bool
deriving DecidableEq, Repr

/-- Something the module sends out: a completion to a host read, a message or write on a link, a reply on the slot
SMBus or the service port, or samples handed to a link or a TDM port. -/
inductive Sent where
  | readReply (b : Nat) (value : Nat) (size : Nat) (poisoned : Bool)
  | readBytes (b : Nat) (bytes : List Byte) (poisoned : Bool)
  | unsupported (b : Nat)
  | msix (b vector : Nat) (addr : Nat) (data : Nat)
  | hostWrite (b addr : Nat) (bytes : List Byte)
  | readyConfig (b : Nat)
  | smbus (word : Option Nat)
  | tapin (cmd tag session status : Nat) (payload : List Byte)
  | line (h line fnum crc : Nat)
  /-- What a head tells its sink of the stream (R276, R288, R290): Adaptive-Sync, or a frame of `lines` lines; HTIME, HSYNC,
  VTIME and VSYNC, with the sync polarities; and OUT, which gives format, range and matrix. -/
  | stream (h : Nat) (async : Bool) (lines : Nat) (timing : List Word) (out : Word)
  | psrEntry (h : Nat)
  | audioInfo (h : Nat) (ctl : Word)
  | dpAudio (h : Nat) (slots : List Int)
  | tdm (port : Nat) (ctl : Word) (slots : List (Option Int))
  | tdmLow (port : Nat)
  | auxRequest (h : Nat) (ctl : Word) (bytes : List Byte)
  /-- A byte that serial unit g has sent: its DATA word, and the course of its data line, bit by bit (R484). -/
  | serial (g : Nat) (data : Word) (line : List Bool)
  | i2cRecovery (g : Nat)
  | idlePattern (h : Nat)
  | wakeAsserted
deriving DecidableEq, Repr

/-- A lasting fault: none. No command of the module ends in a fault, so no constructor is needed; it is safe because
every effect the spec gives is a next state. -/
inductive Fault where
deriving DecidableEq, Repr

/-- Why a command gives no next state. -/
inductive Refusal where
  /-- Raised by an arm of `exec` whose command has no meaning; every command has one, so nothing raises it. Safe: no claim
  can be proved of such a command's effect. -/
  | notModelled (mnemonic : String)
deriving DecidableEq, Repr

/-- The eight modes, and no power at all (R519, R520, R565). -/
inductive Mode where
  | noPower
  | standby
  | opening
  | run
  | doze
  | hold
  | service
  | limp
  | closing
deriving DecidableEq, Repr

/-- A host link (R42, R66, R68, R69): up, its trained width and rate code; in ASPM L1, and in which substate (0 none, 1 L1.1,
2 L1.2); and, while it is down, in L2. -/
structure Link where
  up    : Bool
  width : Nat
  rate  : Nat
  l1    : Bool
  sub   : Nat
  l2    : Bool
deriving DecidableEq, Repr

/-- A link that is down. -/
def Link.reset : Link := { up := false, width := 0, rate := 0, l1 := false, sub := 0, l2 := false }

/-- A function's state beside its registers (R40, R44 to R47, R60 to R67): a reset running, D3hot (its power state), and its
configuration space: Bus Master Enable, Memory Space Enable, MSI-X Enable and Function Mask, PTM Enable, ASPM L1 enable and
the L1.1 and L1.2 enables, Device Control (Max_Payload_Size, Max_Read_Request_Size), Device Control 2 (the Completion Timeout
range), ECRC generation and checking, the addresses in its three BARs, and the errors logged in AER; the units whose reset
zero fill has not ended, Doze consent and its wake channels. -/
structure Fn where
  resetting : Bool
  d3        : Bool
  busMaster : Bool
  memSpace  : Bool
  msixOn    : Bool
  fnMask    : Bool
  ptmOn     : Bool
  l1On      : Bool
  l11On     : Bool
  l12On     : Bool
  devCtl    : BitVec 16
  devCtl2   : BitVec 16
  ecrcGen   : Bool
  ecrcChk   : Bool
  aerMask   : Word
  aerSevere : Word
  aerCorMask : Word
  bar0      : Nat
  bar2      : Nat
  bar4      : Nat
  aer       : List TlpError
  poisoned  : Nat
  fills     : List FillUnit
  doze      : Bool
  wakeA     : Option Nat
  wakeB     : Option Nat
deriving DecidableEq, Repr

/-- A function as reset leaves it (PRESUMED, PCI Express's own reset values, log 7): every enable 0, Max_Payload_Size 128
bytes, Max_Read_Request_Size 512 bytes, Relaxed Ordering and No Snoop enabled, Completion Timeout at its default range, no error masked
but Advisory Non-Fatal, and AER's own severities. -/
def Fn.reset : Fn :=
  { resetting := false, d3 := false, busMaster := false, memSpace := false, msixOn := false, fnMask := false,
    ptmOn := false, l1On := false, l11On := false, l12On := false, devCtl := 0x2810, devCtl2 := 0, ecrcGen := false,
    ecrcChk := false, aerMask := 0, aerSevere := 0x00462030, aerCorMask := 0x2000, bar0 := 0, bar2 := 0, bar4 := 0, aer := [], poisoned := 0, fills := [], doze := false,
    wakeA := none, wakeB := none }

/-- The tally (R500 to R506) and the event log's open block (R509). `reports` waits for recording, oldest first. -/
structure Tally where
  reports  : List Report
  lostSyn  : Nat
  records  : List Record
  seq      : Nat
  logNo    : Nat
  logOpen  : List (List Byte)
  logTb    : Nat
  logFirst : Nat
  logPrev  : List Byte
deriving DecidableEq, Repr

/-- The tally before its first record. -/
def Tally.reset : Tally :=
  { reports := [], lostSyn := 0, records := [], seq := 0, logNo := 0, logOpen := [], logTb := 0, logFirst := 0,
    logPrev := List.replicate 48 0 }

/-- The sensors, clocks and throttling (R498, R499, R585): sensor words, the samples of each word (newest first, at most
four), samples in a row outside the range, milliseconds each lasting condition has held, the throttle level, whether THERM_HOT and whether
POWER_LIMIT keeps it up (R588), the doubled memory refresh, stepping from the main crystal, and the root PLL out of lock until Limp
follows. -/
structure Sense where
  words    : List (Nat × BitVec 16)
  samples  : List (Nat × List Nat)
  badRun   : List (Nat × Nat)
  held     : List (Nat × Nat)
  throttle : Nat
  hotOn    : Bool
  powerOn  : Bool
  refresh2 : Bool
  xtalMain : Bool
  pllLost  : Bool
deriving DecidableEq, Repr

/-- Sensors before their first samples. -/
def Sense.reset : Sense :=
  { words := [], samples := [], badRun := [], held := [], throttle := 0, hotOn := false, powerOn := false, refresh2 := false, xtalMain := false,
    pllLost := false }

/-- The service port (R544 to R550): USB attached, the open session, the number of the last session, a patch under way
and an open card area. -/
structure Port where
  attached : Bool
  session  : Option Nat
  lastNo   : Nat
  /-- The target slot and write position of an open patch (R554), the base slot, and the bytes of a record not yet whole. -/
  patch    : Option (Nat × Nat)
  base     : Nat
  stream   : List Byte
  card     : Option Nat
  /-- The frame of a command that is still in progress (a TEST, R549). -/
  waiting  : Option Frame
deriving DecidableEq, Repr

/-- The service port before USB is attached. -/
def Port.reset : Port :=
  { attached := false, session := none, lastNo := 0, patch := none, base := 0, stream := [], card := none, waiting := none }

/-- A voice (R343 to R351): STATE; the position (I and F, or φ for a tone); Lv; the noise register; the kill ramp's next
index; the key requests that wait (ON, OFF, KILL) and whether a waiting ON or OFF came from its task input; the events
remembered and lost at those inputs; the last x; the ADPCM predictor and index as of sample I, and the decoder as it
was before LOOP_START; whether LOOP 0b10 has been released; and whether HOLE ends it. -/
structure Voice where
  st      : Nat
  pos     : Nat
  frac    : Nat
  lv      : Nat
  lfsr    : Nat
  kill    : Nat
  reqOn   : Bool
  reqOff  : Bool
  reqKill : Bool
  inOn    : Bool
  inOff   : Bool
  memOn   : Bool
  memOff  : Bool
  keyOff  : Bool
  lastX   : Int
  pred    : Int
  index   : Nat
  saved   : Option (Int × Nat)
  /-- The address ranges of its fetches that returned uncorrectable data and have not returned good data since (R367). -/
  bad     : List (Nat × Nat)
  /-- Its data has not returned by the sample that comes next (R367). -/
  late    : Bool
deriving DecidableEq, Repr

/-- An idle voice. -/
def Voice.reset : Voice :=
  { st := 0, pos := 0, frac := 0, lv := 0, lfsr := 1, kill := 0, reqOn := false, reqOff := false, reqKill := false,
    inOn := false, inOff := false, memOn := false, memOff := false, keyOff := false, lastX := 0, pred := 0, index := 0,
    saved := none, bad := [], late := false }

/-- A gain or route that may be waiting (R358 to R360): the value in effect (a register word), the value that waits with
the samples counted since its first write, the previous signal and output samples, and a route crossfade under way (its next index
and the old word). -/
structure ZcVal where
  now   : Word
  wait  : Option (Word × Nat)
  last  : Int
  lastO : Int
  fade  : Option (Nat × Word)
deriving DecidableEq, Repr

/-- A TDM port (R361): sending frames, TDMp_CTL as it took effect at its last frame boundary, and the slots of the newest input
frame. -/
structure TdmPort where
  running : Bool
  ctl     : Word
  ins     : List Int
deriving DecidableEq, Repr

/-- A TDM port that sends nothing. -/
def TdmPort.reset : TdmPort := { running := false, ctl := 0, ins := [] }

/-- A PORT domain (R341, R363, R364): fallback, lock, the ramps of its bridge's channels to the ports and to VOICE (0 to 32, 32
is full), a return to the word clock that waits for the frame boundary, and whether the last edge was valid. -/
structure Domain where
  fallback : Bool
  locked   : Bool
  ramp     : Nat
  vramp    : Nat
  back     : Bool
  good     : Bool
deriving DecidableEq, Repr

/-- A PORT domain at rest. -/
def Domain.reset : Domain := { fallback := false, locked := false, ramp := 0, vramp := 0, back := false, good := false }

/-- The audio engine (R337 to R368). Voices are keyed by their number, tone voices by 1,024 plus theirs; `active` holds
the active pages and the values that land at sample boundaries, by register address. -/
structure Audio where
  voices  : List (Nat × Voice)
  active  : List (Nat × Word)
  /-- Swaps asked for, by kind (0 sample voices, 1 tone voices, 2 buses, 3 pairs) and item. -/
  swaps   : List (Nat × Nat)
  /-- Histories x1, x2, y1, y2 of the equaliser bands, keyed (2 · bus + channel) · 4 + band. -/
  eq      : List (Nat × (Int × Int × Int × Int))
  /-- Bus gains keyed 2 · bus + channel; routes by output channel; side-tone gains by output slot. -/
  gains   : List (Nat × ZcVal)
  routes  : List (Nat × ZcVal)
  sides   : List (Nat × ZcVal)
  /-- The delay line of each output channel, newest sample first, at most 8,192 entries. -/
  lines   : List (Nat × List Int)
  /-- Limiter gains of the output pairs. -/
  limits  : List (Nat × Nat)
  /-- The pipeline (R339): bus sums of sample k − 1, bus outputs of k − 2, output channels of k − 3. -/
  sums    : List (Nat × Int)
  busOut  : List (Nat × Int)
  outs    : List (Nat × Int)
  /-- The output samples handed over at the last boundary, and whether that boundary was an odd one. -/
  handed  : List (Nat × Int)
  odd     : Bool
  /-- Output channels that a bench reset ramps to silence (R368), with their index 0 to 32. -/
  ramps   : List (Nat × Nat)
  tdm     : List (Nat × TdmPort)
  domA    : Domain
  domB    : Domain
  /-- All outputs ramp to silence or back (Doze, Hold, Limp, Closing): the index 0 to 32, and the direction. -/
  mute    : Nat
  muting  : Bool
  /-- DPh_CTL as the stream's last InfoFrame told the sink of each head whose stream is sent (R357). -/
  infos   : List (Nat × Word)
  /-- The plan under which units that a new plan moved still ramp, until a bench's reset ends (R368). -/
  before  : Option Plan
deriving DecidableEq, Repr

/-- The audio engine as reset leaves it: limiter gains at 1.0 (R356), everything else at rest. -/
def Audio.reset : Audio :=
  { voices := [], active := [], swaps := [], eq := [], gains := [], routes := [], sides := [], lines := [],
    limits := [], sums := [], busOut := [], outs := [], handed := [], odd := false, ramps := [], tdm := [],
    domA := Domain.reset, domB := Domain.reset, mute := 0, muting := false, infos := [], before := none }

/-- A command that waits until an entry to Doze under way has completed and the module has woken (R531): HOLD or CLOSE of the service port,
or a CLOSE entry of a ring. -/
inductive AfterDoze where
  | hold (f : Frame)
  | close (f : Frame)
  | closeEntry (g : Nat) (e : List Byte)
deriving DecidableEq, Repr

/-- The state of the module. -/
structure State where
  /-- Commands that are waiting, first in, first out. -/
  pending   : List Instr
  /-- Every register of the register map that differs from its reset value, by address. -/
  regs      : List (Nat × Word)
  /-- Asset memory, scratchpad and line memory, by device address (R26). -/
  mem       : List Host.Cell
  /-- Words whose data is marked uncorrectable, by the address of their first byte (R411, R419, R591, R198). -/
  marks     : List Nat
  /-- Words of asset memory, scratchpad and line memory with one bit in error, which no read has met yet (R411, R419, R591). -/
  flaws     : List Nat
  /-- House flash, by flash offset (R496). -/
  flash     : List Host.Cell
  /-- The safe cards as Opening copied them from house flash (R526, R537), by flash offset. They lie in the house working
  area from State.cardFirst on (R416; log 94). -/
  cards     : List Host.Cell
  /-- The Counting-House SRAM (R494), by its offset; a byte that nothing has written reads 0xFF (DESIGN CHOICE, log 105). -/
  sram      : List Host.Cell
  mode      : Mode
  plan      : Plan
  /-- A staged plan, which takes effect at the next PERST# assertion (R58). -/
  staged    : Option Plan
  links     : List (Nat × Link)
  fns       : List (Nat × Fn)
  perst     : Bool
  armed     : Bool
  railsIn   : Bool
  wakePin   : Bool
  /-- Cores, by number: scene cores 0 to 31, line cores 32 to 39, the Clerk 40. -/
  cores     : List (Nat × Core)
  heads     : List (Nat × Head)
  journals  : List (Nat × Journal)
  jm        : Journeyman
  /-- Pattern engines that are out of service: retired, or marked unusable at Opening (R307, R317). -/
  badEngines : List Nat
  /-- Units that an L3 UNIT_STATE record has retired, by block kind and index (R501, R503, R507). -/
  badUnits  : List (Nat × Nat)
  /-- Fetched entries of each ring, oldest first (R84). -/
  ringCache : List (Nat × List (List Byte))
  /-- RINGg_CTL and RINGg_BASE as they were when EN last changed from 0 to 1: the values in effect (R81). -/
  ringNow   : List (Nat × (Word × Nat))
  /-- Round-robin positions: the ring last served per mailbox (R77), the bench last served on the shared ports. -/
  turns     : List (Nat × Nat)
  blks      : List (Nat × Blk)
  chans     : List (Nat × Chan)
  marches   : List (Nat × March)
  rot       : Rotation
  /-- Patrol scrub: the next address (R412); watches, page and scrub position (R413); retired pages in retirement
  order; the page being copied. -/
  scrubPos  : Nat
  watches   : List (Nat × Nat)
  retired   : List Nat
  retiring  : List Nat
  /-- Pages of asset memory in which an uncorrectable error has been found (R415). -/
  ueSeen    : List Nat
  tb        : Double
  tbLf      : Bool
  tbStepNo  : Nat
  /-- The TB_HI snapshots of R434: cores by number, benches' hosts at 41 to 44. -/
  snaps     : List (Nat × Word)
  cmps      : List (Nat × Cmp)
  caps      : List (Nat × List (Nat × Bool))
  bells     : List (Nat × Bell)
  /-- Routes whose change waits for a busy handshake: the register and the slot of its word (Bell.lean's routeOf), with the channel that
  the slot still names, if any (R450). -/
  routes    : List ((Nat × Nat) × Option Nat)
  /-- The channels fired so far in the clock of a command that fires several; absent between commands (R446). -/
  fired     : Option (List Nat)
  srcs      : List (Nat × Source)
  pins      : List (Nat × Pin)
  sers      : List (Nat × Ser)
  qds       : List (Nat × CioUnit)
  mxs       : List (Nat × CioUnit)
  mtrs      : List (Nat × Meter)
  audio     : Audio
  tally     : Tally
  sense     : Sense
  stormLimit : Nat
  /-- TB values of recent Clerk restarts (R497). -/
  clerkRestarts : List Nat
  clerkUp   : Bool
  /-- TB at the island's last start (R558, R587). -/
  bootTb    : Double
  /-- The running firmware slot (0 A, 1 B), or none while the loader runs (R558). -/
  slot      : Option Nat
  serviceAsk : Bool
  unverified : Bool
  /-- A warm opening is under way (R529); Run has been reached since the last Opening began (R550). -/
  warm      : Bool
  ran       : Bool
  /-- Cores and heads that the closing record marks unusable (R513). -/
  badCores  : List Nat
  badHeads  : List Nat
  /-- Logical scratchpad banks whose physical bank is retired with no spare left (R419, R511). -/
  badBanks  : List Nat
  /-- PCIe lanes that the closing record marks as failed, one bit each (R511). -/
  badLanes  : Nat
  /-- Benches whose functions become ready in the order of Opening's steps, until all of them have (R527). -/
  ordered   : List Nat
  /-- Granules that await Opening's zero fill, next first (R528). -/
  openFills : List Nat
  /-- TYPE as the straps of the display connectors last read, one bit per head (R575). -/
  straps    : Nat
  /-- Boot events that wait for the firmware: EVENT, slot, detail (R559, R564). -/
  bootLog   : List (Nat × Nat × Nat)
  /-- The settings copy in use, 0 or 1 (R563). -/
  settings  : Option Nat
  /-- The failing units of a closing record that no Opening has read yet, and how many records have been written (R512,
  R513). -/
  closing   : Option ClosingResult
  closingNo : Nat
  /-- The step of Opening or Closing reached: 1 after the opening check; 1 while Closing waits for its heads, 2 while its test runs, 3 after
  it. -/
  closeStep : Nat
  dozeAsk   : Bool
  dozeHeads : List Nat
  dozePaused : List Nat
  /-- A wake trigger that waits: the cause of its mode-change record and its byte 16 (R525, R533). -/
  wakeAsk   : Option (Nat × Nat)
  /-- What waits for that wake (R531). -/
  after     : Option AfterDoze
  /-- The ring and entry of a mailbox test that is running (R514, R516). -/
  testBy    : Option (Nat × List Byte)
  port      : Port
  /-- What the module has sent out, newest first. -/
  sent      : List Sent
  /-- The model's own counter of free values. -/
  free      : Nat
deriving DecidableEq, Repr

/-- The module right after the auxiliary rail has come up, every register at its reset value, the shipped plan in
effect (R59, R431, R520). -/
def State.reset : State :=
  { pending := [], regs := [], mem := [], marks := [], flaws := [], flash := [], cards := [], sram := [], mode := .standby, plan := shippedPlan,
    staged := none, links := [], fns := [], perst := true, armed := true, railsIn := false, wakePin := false, cores := [],
    heads := [], journals := [], jm := Journeyman.reset, badEngines := [], badUnits := [], ringCache := [], ringNow := [], turns := [], blks := [],
    chans := [], marches := [], rot := Rotation.reset, scrubPos := 0, watches := [], retired := [], retiring := [], ueSeen := [], tb := 0,
    tbLf := true, tbStepNo := 0, snaps := [], cmps := [], caps := [], bells := [], routes := [], fired := none, srcs := [], pins := [], sers := [],
    qds := [], mxs := [], mtrs := [], audio := Audio.reset, tally := Tally.reset, sense := Sense.reset,
    stormLimit := 1000000, clerkRestarts := [], clerkUp := false, bootTb := 0, slot := none, serviceAsk := false, unverified := false, warm := false, ran := false,
    badCores := [], badHeads := [], badBanks := [], badLanes := 0, ordered := [], openFills := [], straps := 255, bootLog := [], settings := none,
    closing := none, closingNo := 0, closeStep := 0, dozeAsk := false, dozeHeads := [], dozePaused := [], wakeAsk := none, after := none, testBy := none,
    port := Port.reset, sent := [], free := 0 }

end Sys2Proof.Machine
end

