-- ==== Sys2Proof/Machine/Ops.lean ====
section
/-!
DEFINITION. The named operations every family is written with: registers and their fields, the records of the units,
memory bytes and their error marks, free values, who holds what, which addresses a requester reaches (R26, R29, R96,
R592), fault reports, what the module sends out, and CRC-32C.
-/
namespace Sys2Proof.Machine

/-! ### Registers -/

/-- A register word (R17). -/
def State.rd (s : State) (k : Nat) : Word := Sparse.get regReset s.regs k
/-- A register word as a number. -/
def State.rdN (s : State) (k : Nat) : Nat := (s.rd k).toNat
/-- A register word replaced. -/
def State.wr (s : State) (k : Nat) (v : Word) : State := { s with regs := Sparse.set regReset s.regs k v }
/-- A register word replaced by a number, cut to 32 bits. -/
def State.wrN (s : State) (k n : Nat) : State := s.wr k (BitVec.ofNat 32 n)
/-- A 64-bit register: its low word at k, its high word at k + 4. -/
def State.rd64 (s : State) (k : Nat) : Nat := s.rdN k + s.rdN (k + 4) * 2 ^ 32
/-- A 64-bit register replaced. -/
def State.wr64 (s : State) (k n : Nat) : State := (s.wrN k n).wrN (k + 4) (n / 2 ^ 32)
/-- A field of a register. -/
def State.fld (s : State) (k hi lo : Nat) : Nat := wfld (s.rd k) hi lo
/-- A bit of a register. -/
def State.bit (s : State) (k b : Nat) : Bool := nbit (s.rdN k) b
/-- A field of a register replaced. -/
def State.setF (s : State) (k hi lo n : Nat) : State := s.wr k (setFld (s.rd k) hi lo n)
/-- A bit of a register replaced. -/
def State.setB (s : State) (k b : Nat) (v : Bool) : State := s.wr k (setBit (s.rd k) b v)
/-- A counter field raised by n, stopping at its maximum. -/
def State.addSat (s : State) (k hi lo n : Nat) : State :=
  s.setF k hi lo (min (s.fld k hi lo + n) (2 ^ (hi + 1 - lo) - 1))
/-- A counter field raised by one, stopping at its maximum. -/
def State.incSat (s : State) (k hi lo : Nat) : State := s.addSat k hi lo 1
/-- A counter field raised by one, wrapping. -/
def State.incWrap (s : State) (k hi lo : Nat) : State := s.setF k hi lo (s.fld k hi lo + 1)
/-- Every register of an address range back at its reset value. -/
def State.clearRegs (s : State) (lo len : Nat) : State :=
  { s with regs := Sparse.clear (fun k => decide (lo ≤ k) && decide (k < lo + len)) s.regs }

/-- What a store through byte enables leaves of a word: the fields a write may change are RW bits, which take the value,
and W1C bits, which clear where a 1 is written (R18, R19). `be` has one bit per byte. -/
def storeWord (old v : Word) (be rw w1c : Nat) : Word :=
  let m : Nat := (if nbit be 0 then 0xFF else 0) + (if nbit be 1 then 0xFF00 else 0)
    + (if nbit be 2 then 0xFF0000 else 0) + (if nbit be 3 then 0xFF000000 else 0)
  let w := BitVec.ofNat 32 (m &&& rw)
  let c := BitVec.ofNat 32 (m &&& w1c)
  ((old &&& ~~~w) ||| (v &&& w)) &&& ~~~(v &&& c)

/-- A write to a register under its row's masks (R18, R19). -/
def State.store (s : State) (k : Nat) (v : Word) (be : Nat) : State :=
  match regRow k with
  | none => s
  | some r => s.wr k (storeWord (s.rd k) v be r.rw r.w1c)

/-- A read of a register that has RC fields: they clear (R18). -/
def State.readClear (s : State) (k : Nat) : State :=
  match regRow k with
  | none => s
  | some r => if r.rc = 0 then s else s.wr k (s.rd k &&& ~~~(BitVec.ofNat 32 r.rc))

/-! ### The model's addresses -/

/-- Bench control register of bench b (R53). -/
def kBench (b off : Nat) : Nat := 0x10000000000 + b * 0x10000 + off
/-- STOP page register of bench b, its offset counted from 0x8000 (R91). -/
def kStop (b off : Nat) : Nat := 0x10000100000 + b * 0x1000 + off
/-- Window offset of core number c (R97). -/
def kWin (c off : Nat) : Nat := 0x10001000000 + c * 0x10000 + off
/-- Ring register (R81). -/
def kRing (g off : Nat) : Nat := 0x3000000000 + g * 0x20 + off
/-- Control block register of core number c (R116): scene cores, then line cores. -/
def kCore (c off : Nat) : Nat :=
  if c < 32 then 0x3000100000 + c * 0x1000 + off else 0x3000120000 + (c - 32) * 0x1000 + off
/-- Pattern-engine window register, line view (R216). -/
def kPe (h off : Nat) : Nat := 0x3001000000 + h * 0x100000 + off
/-- HEADn register, line view (R272). -/
def kHead (h off : Nat) : Nat := 0x3002000000 + h * 0x100000 + off
/-- Register of a sample voice, or of tone voice v − 1,024 (R369). -/
def kVoice (v off : Nat) : Nat :=
  if v < 1024 then 0x3003000000 + v * 0x80 + off else 0x3003020000 + (v - 1024) * 0x80 + off
/-- Mix-bus register (R369). -/
def kBus (b off : Nat) : Nat := 0x3003030000 + b * 0x100 + off
/-- Output-pair register (R369). -/
def kPair (k off : Nat) : Nat := 0x3003040000 + k * 0x40 + off
/-- OUTc_ROUTE (R369). -/
def kOut (c : Nat) : Nat := 0x3003050000 + c * 4
/-- STs_CTL (R369). -/
def kSide (t : Nat) : Nat := 0x3003051000 + t * 4
/-- TDMp_CTL (R369). -/
def kTdm (p : Nat) : Nat := 0x3003060000 + p * 0x40
/-- DPh_CTL (R369). -/
def kDp (h : Nat) : Nat := 0x3003061000 + h * 0x10
/-- AUD_DOMAIN_A (0) and AUD_DOMAIN_B (1) (R369). -/
def kDomain (d : Nat) : Nat := 0x3003070000 + d * 4
/-- Block-engine register (R387). -/
def kBlk (e off : Nat) : Nat := 0x3003400000 + e * 0x10000 + off
/-- Carter channel register (R406). -/
def kCar (c off : Nat) : Nat := 0x3003500000 + c * 0x400 + off
/-- Compare channel register (R453). -/
def kCmp (n off : Nat) : Nat := 0x3003601000 + n * 0x20 + off
/-- Capture channel register (R453). -/
def kCap (n off : Nat) : Nat := 0x3003602000 + n * 0x20 + off
/-- Bellwire channel register (R453). -/
def kCh (n off : Nat) : Nat := 0x3003604000 + n * 0x10 + off
/-- Interrupt-controller register by its offset from 0x1_0000 (R470). -/
def kIc (off : Nat) : Nat := 0x3003610000 + off
/-- Cabinet I/O register by its offset from 0x2_0000 (R491). -/
def kCio (off : Nat) : Nat := 0x3003620000 + off
/-- Memory-system register (R428); bench b's copy stands in bank b + 1. -/
def kMem (b off : Nat) : Nat := bankKey (b + 1) (0x3003700000 + off)
/-- Memory-system register that is the module's own (SP_MAP, SP_STAT, MEM_SCRUB). -/
def kMemAll (off : Nat) : Nat := 0x3003700000 + off
/-- Counting-House mailbox register of bench b (R515). -/
def kChm (b off : Nat) : Nat := 0x3003800000 + b * 0x1000 + off

/-- A core's number. -/
def coreNum : CoreId → Nat
  | .scene c => c.val
  | .line h => 32 + h.val
  | .clerk => 40

/-- A voice's number: tone voices follow the sample voices. -/
def voiceNum : VoiceId → Nat
  | .sample v => v.val
  | .tone t => 1024 + t.val

/-! ### Records -/

def State.core (s : State) (c : Nat) : Core := Sparse.get (fun _ => Core.reset) s.cores c
def State.setCore (s : State) (c : Nat) (x : Core) : State :=
  { s with cores := Sparse.set (fun _ => Core.reset) s.cores c x }
def State.head (s : State) (h : Nat) : Head := Sparse.get Head.reset s.heads h
def State.setHead (s : State) (h : Nat) (x : Head) : State := { s with heads := Sparse.set Head.reset s.heads h x }
def State.journal (s : State) (h : Nat) : Journal := Sparse.get (fun _ => Journal.reset) s.journals h
def State.setJournal (s : State) (h : Nat) (x : Journal) : State :=
  { s with journals := Sparse.set (fun _ => Journal.reset) s.journals h x }
def State.link (s : State) (l : Nat) : Link := Sparse.get (fun _ => Link.reset) s.links l
def State.setLink (s : State) (l : Nat) (x : Link) : State :=
  { s with links := Sparse.set (fun _ => Link.reset) s.links l x }
def State.fn (s : State) (b : Nat) : Fn := Sparse.get (fun _ => Fn.reset) s.fns b
def State.setFn (s : State) (b : Nat) (x : Fn) : State := { s with fns := Sparse.set (fun _ => Fn.reset) s.fns b x }
def State.blk (s : State) (e : Nat) : Blk := Sparse.get (fun _ => Blk.reset) s.blks e
def State.setBlk (s : State) (e : Nat) (x : Blk) : State := { s with blks := Sparse.set (fun _ => Blk.reset) s.blks e x }
def State.chan (s : State) (c : Nat) : Chan := Sparse.get (fun _ => Chan.reset) s.chans c
def State.setChan (s : State) (c : Nat) (x : Chan) : State :=
  { s with chans := Sparse.set (fun _ => Chan.reset) s.chans c x }
def State.march (s : State) (b : Nat) : March := Sparse.get (fun _ => March.reset) s.marches b
def State.setMarch (s : State) (b : Nat) (x : March) : State :=
  { s with marches := Sparse.set (fun _ => March.reset) s.marches b x }
def State.cmp (s : State) (n : Nat) : Cmp := Sparse.get (fun _ => Cmp.reset) s.cmps n
def State.setCmp (s : State) (n : Nat) (x : Cmp) : State := { s with cmps := Sparse.set (fun _ => Cmp.reset) s.cmps n x }
def State.cap (s : State) (n : Nat) : List (Nat × Bool) := Sparse.get (fun _ => []) s.caps n
def State.setCap (s : State) (n : Nat) (x : List (Nat × Bool)) : State :=
  { s with caps := Sparse.set (fun _ => []) s.caps n x }
def State.bell (s : State) (n : Nat) : Bell := Sparse.get (fun _ => Bell.reset) s.bells n
def State.setBell (s : State) (n : Nat) (x : Bell) : State :=
  { s with bells := Sparse.set (fun _ => Bell.reset) s.bells n x }
def State.src (s : State) (n : Nat) : Source := Sparse.get (fun _ => Source.reset) s.srcs n
def State.setSrc (s : State) (n : Nat) (x : Source) : State :=
  { s with srcs := Sparse.set (fun _ => Source.reset) s.srcs n x }
def State.pin (s : State) (p : Nat) : Pin := Sparse.get (fun _ => Pin.reset) s.pins p
def State.setPin (s : State) (p : Nat) (x : Pin) : State := { s with pins := Sparse.set (fun _ => Pin.reset) s.pins p x }
def State.ser (s : State) (g : Nat) : Ser := Sparse.get (fun _ => Ser.reset) s.sers g
def State.setSer (s : State) (g : Nat) (x : Ser) : State := { s with sers := Sparse.set (fun _ => Ser.reset) s.sers g x }
def State.qd (s : State) (g : Nat) : CioUnit := Sparse.get (fun _ => CioUnit.reset) s.qds g
def State.setQd (s : State) (g : Nat) (x : CioUnit) : State :=
  { s with qds := Sparse.set (fun _ => CioUnit.reset) s.qds g x }
def State.mx (s : State) (g : Nat) : CioUnit := Sparse.get (fun _ => CioUnit.reset) s.mxs g
def State.setMx (s : State) (g : Nat) (x : CioUnit) : State :=
  { s with mxs := Sparse.set (fun _ => CioUnit.reset) s.mxs g x }
def State.mtr (s : State) (m : Nat) : Meter := Sparse.get (fun _ => Meter.reset) s.mtrs m
def State.setMtr (s : State) (m : Nat) (x : Meter) : State :=
  { s with mtrs := Sparse.set (fun _ => Meter.reset) s.mtrs m x }
def State.tdmPort (s : State) (p : Nat) : TdmPort := Sparse.get (fun _ => TdmPort.reset) s.audio.tdm p
def State.cached (s : State) (g : Nat) : List (List Byte) := Sparse.get (fun _ => []) s.ringCache g
def State.setCached (s : State) (g : Nat) (x : List (List Byte)) : State :=
  { s with ringCache := Sparse.set (fun _ => []) s.ringCache g x }
/-- A voice; tone voices follow the sample voices. -/
def State.voice (s : State) (v : Nat) : Voice := Sparse.get (fun _ => Voice.reset) s.audio.voices v
def State.setVoice (s : State) (v : Nat) (x : Voice) : State :=
  { s with audio := { s.audio with voices := Sparse.set (fun _ => Voice.reset) s.audio.voices v x } }
/-- A round-robin position (R77, R365). -/
def State.turn (s : State) (k : Nat) : Nat := Sparse.get (fun _ => 0) s.turns k
def State.setTurn (s : State) (k n : Nat) : State := { s with turns := Sparse.set (fun _ => 0) s.turns k n }

/-! ### Free values, what leaves the module, and reports -/

/-- A value the spec leaves open (Config.freeValue), and the counter past it. -/
def State.fresh (s : State) : Nat × State := ((Config.freeValue s.free).toNat, { s with free := s.free + 1 })

/-- The beams are moving (R167). -/
def Head.moving (q : Head) : Bool := q.run == 2
/-- The pulse of R287 for head h: high from the clock in which its LINE takes 0 to its next render-beam boundary. -/
def State.framePulse (s : State) (h : Nat) : Bool := (s.head h).moving && (s.head h).line == 0

/-- n bytes the spec leaves open. -/
def State.freshBytes (s : State) : Nat → List Byte × State
  | 0 => ([], s)
  | n + 1 =>
    let (v, t) := s.fresh
    let (bs, u) := t.freshBytes n
    (BitVec.ofNat 8 v :: bs, u)

/-- Something leaves the module. -/
def State.emit (s : State) (x : Sent) : State := { s with sent := x :: s.sent }

/-- A fault report waits for the tally, 256 deep; one that finds the queue full is marked lost (R500, R505). -/
def State.report (s : State) (cls source scope syn : Nat) : State :=
  let lost := decide (256 ≤ (s.tally.reports.filter fun r => !r.lost).length)
  { s with tally := { s.tally with reports := s.tally.reports ++
      [{ tb := s.tb.toNat, cls := cls, source := source, scope := scope, syn := syn, lost := lost }] } }

/-- Scope code of an optional bench: 7 is the module (R515). -/
def scopeOf : Option Nat → Nat
  | some b => b
  | none => 7

/-- A blocked access by bench b counts in DECODE_HOLE, which stops at its maximum (R29). -/
def State.hole (s : State) (b : Nat) : State := s.incSat (kBench b 0x20) 31 0

/-- A refused start counts in STOP_IGNORED of bench b (R94). -/
def State.ignoredStart (s : State) (b : Nat) : State := s.incSat (kStop b 0x24) 31 0

/-! ### Memory -/

/-- One byte of asset memory, scratchpad or line memory; a byte nothing has written reads 0. -/
def State.byte (s : State) (a : Nat) : Byte := Sparse.get (fun _ => 0) s.mem a

/-- n bytes from an address, taken modulo 2^40. -/
def State.bytes (s : State) (a : Nat) : Nat → List Byte
  | 0 => []
  | n + 1 => s.byte (a % 2 ^ 40) :: s.bytes (a + 1) n

/-- The number that n bytes spell, low byte first. -/
def State.loadN (s : State) (a n : Nat) : Nat := leNat (s.bytes a n)

/-- Bytes of a word that carries one ECC code: 8 in asset memory, 4 in scratchpad, line memory and palette RAM (R411,
R419, R591, R198). -/
def eccSize (a : Nat) : Nat := if a < 0x2000000000 then 8 else 4

/-- Some byte of a range lies in a word marked uncorrectable. -/
def State.marked (s : State) (a n : Nat) : Bool :=
  s.marks.any fun m => decide (m < a + n) && decide (a < m + eccSize m)

/-- The first marked word of a range. -/
def State.firstMark (s : State) (a n : Nat) : Option Nat :=
  s.marks.find? fun m => decide (m < a + n) && decide (a < m + eccSize m)

/-- Memory with bytes placed from an address, taken modulo 2^40. -/
def putBytes : List Host.Cell → Nat → List Byte → List Host.Cell
  | m, _, [] => m
  | m, a, b :: t => putBytes (Sparse.set (fun _ => (0 : Byte)) m (a % 2 ^ 40) b) (a + 1) t

/-- A store: the bytes are placed, and a mark or an error not yet met ends where all of its word's bytes are written (R411, R591). -/
def State.poke (s : State) (a : Nat) (bs : List Byte) : State :=
  let stays (m : Nat) : Bool := !(decide (a ≤ m) && decide (m + eccSize m ≤ a + bs.length))
  { s with mem := putBytes s.mem a bs, marks := s.marks.filter stays, flaws := s.flaws.filter stays }

/-- A range back to zero with valid check bits. -/
def State.zeroFill (s : State) (a n : Nat) : State :=
  { s with
    mem := Sparse.clear (fun k => decide (a ≤ k) && decide (k < a + n)) s.mem
    marks := s.marks.filter fun m => !(decide (a ≤ m) && decide (m < a + n))
    flaws := s.flaws.filter fun m => !(decide (a ≤ m) && decide (m < a + n)) }

/-- A word marked uncorrectable (R411). -/
def State.mark (s : State) (a : Nat) : State :=
  { s with marks := NatSet.insert s.marks (a - a % eccSize a) }

/-! ### Who holds what -/

/-- The house region's first address (R416). -/
def State.houseFirst (s : State) : Nat := (128 - s.plan.houseGranules) * 0x40000000

/-- The bench of the granule an asset address lies in; none for the house region. -/
def State.granHolder (s : State) (a : Nat) : Option Nat :=
  if a < s.houseFirst then s.plan.granBench (a / 0x40000000) else none

/-- The lower 32 KiB of the line memory of a head (R26), for an address inside the line-memory windows. -/
def lineMemHead (a : Nat) : Option Nat :=
  if 0x2001000000 ≤ a ∧ a < 0x2001080000 ∧ (a - 0x2001000000) % 0x10000 < 0x8000
  then some ((a - 0x2001000000) / 0x10000) else none

/-- The bench of a scratchpad page, by its offset: of a scene core's workspace, or of a page of banks 8 to 14 (R30, R106). -/
def State.scratchBench (s : State) (off : Nat) : Option Nat :=
  if off < 0x200000 then s.plan.coreBench (off / 0x10000)
  else (List.range 4).find? fun b => (s.plan.bench b).present && nbit (s.plan.bench b).scratchPages ((off - 0x200000) / 0x10000)

/-- The bench in whose MEM_BENCH_ECC an error in a word of memory counts (R428, R591). -/
def State.eccHolder (s : State) (a : Nat) : Option Nat :=
  if a < 0x2000000000 then s.granHolder a
  else if a < 0x20003C0000 then s.scratchBench (a - 0x2000000000)
  else (lineMemHead a).bind s.plan.headBench

/-! ### Errors in memory (R411, R413 to R415, R419, R428, R591) -/

/-- An uncorrectable read counts for bench b: UE, and the first address while VALID is 0 (R428). -/
def State.countUe (s : State) (b a : Nat) : State :=
  let s := s.incSat (kMem b 0x0) 15 0
  if s.bit (kMem b 0xC) 31 then s else s.wr64 (kMem b 0x8) (2 ^ 63 + a % 2 ^ 40)

/-- The retirement pool is full (R414). -/
def State.poolFull (s : State) : Bool := decide (16384 ≤ s.retired.length + s.retiring.length)

/-- A page is chosen for retirement, unless the pool is full (R413, R414). -/
def State.retirePage (s : State) (page : Nat) : State :=
  if s.retired.contains page || s.retiring.contains page then s
  else if s.poolFull then s.report 0x0D 0x0F00 7 (page * 4096)
  else { s with retiring := s.retiring ++ [page] }

/-- The uncorrectable errors of a page of asset memory: the first one is noted, whatever became of the page before, and brings the page
to retirement (R413 to R415). -/
def State.pageUe (s : State) (a : Nat) : State :=
  let page := a / 4096
  if s.ueSeen.contains page then s
  else
    (({ s with ueSeen := NatSet.insert s.ueSeen page }).report 0x0B (0x0800 + a / 0x40000000) (scopeOf (s.granHolder a))
      (page * 4096)).retirePage page

/-- An uncorrectable error found by a read of an address: it counts for the bench whose memory it is (R413, R415, R428). -/
def State.foundUe (s : State) (a : Nat) : State :=
  let s := match s.eccHolder a with
    | some b => s.countUe b a
    | none => s
  if 0x2000000000 ≤ a then s else s.pageUe a

/-- The uncorrectable words met by a read of n bytes (R411, R428). -/
def State.readUe (s : State) (a n : Nat) : State :=
  (s.marks.filter fun m => decide (m < a + n) && decide (a < m + eccSize m)).foldl State.foundUe s

/-- A corrected error found in a word: it counts. In a page of asset memory the first one opens a watch at the scrub position, and a
second one within the watch retires the page (R413, R428). -/
def State.correctedIn (s : State) (a : Nat) : State :=
  let page := a / 4096
  let s := match s.eccHolder a with
    | some b => s.incSat (kMem b 0x0) 31 16
    | none => s
  if 0x2000000000 ≤ a then s
  else if s.watches.any fun w => w.1 == page then s.retirePage page
  else { s with watches := Sparse.put s.watches page s.scrubPos }

/-- The words with one bit in error that a read of n bytes meets: each is returned corrected, written back and counted (R411). -/
def State.mends (s : State) (a n : Nat) : State :=
  let hit (m : Nat) : Bool := decide (m < a + n) && decide (a < m + eccSize m)
  (s.flaws.filter hit).foldl State.correctedIn { s with flaws := s.flaws.filter fun m => !hit m }

/-- What a read of n bytes of memory meets: words it corrects, and words it finds uncorrectable (R411). -/
def State.meets (s : State) (a n : Nat) : State := (s.mends a n).readUe a n

/-- An error arises in a word of memory: one bit of it, which the next read of the word will meet, or more, which leave it
uncorrectable. No row of the opcode table stands for it: the rows of the reads that R411 names carry it, for a word anywhere in
asset memory, scratchpad or line memory (log 55). -/
def State.upset (s : State) : Option (Addr × EccFound) → State
  | none => s
  | some (w, e) =>
    let a := w.toNat
    if !(decide (a < 0x20003C0000) || (lineMemHead a).isSome) || s.marked a 1 then s
    else match e with
      | .corrected => { s with flaws := NatSet.insert s.flaws (a - a % eccSize a) }
      | .uncorrectable => { s.mark a with flaws := NatSet.erase s.flaws (a - a % eccSize a) }

/-- The bench a request carries (R72); none for the Clerk. -/
def State.benchOf (s : State) : Requester → Option Nat
  | .host b => some b.val
  | .core (.scene c) => s.plan.coreBench c.val
  | .core (.line h) => s.plan.headBench h.val
  | .core .clerk => none
  | .carter c => s.plan.carterBench c.val
  | .block e => (s.blk e.val).owner

/-- Bench b reaches an asset address: its own granules (R29), except one it marches (R426). -/
def State.assetHeld (s : State) (b a : Nat) : Bool :=
  decide (a < s.houseFirst) && s.plan.granBench (a / 0x40000000) == some b
    && !((s.march b).phase != 0 && (s.march b).gran == a / 0x40000000)

/-- Bench b holds the scratchpad page at an offset: workspace pages of its scene cores below 0x20_0000, its pages of
banks 8 to 14 from there (R30, R106); bank 15's window is a hole (R26). -/
def State.scratchHeld (s : State) (b off : Nat) : Bool :=
  if off < 0x200000 then s.plan.coreBench (off / 0x10000) == some b
  else decide (off < 0x3C0000) && (s.plan.bench b).present
    && nbit (s.plan.bench b).scratchPages ((off - 0x200000) / 0x10000)

/-- Bench b reaches an address as plain memory: its granules, workspace pages and scratchpad pages (R377, R391, R592). -/
def State.plainHeld (s : State) (b a : Nat) : Bool :=
  if a < 0x2000000000 then s.assetHeld b a
  else decide (a < 0x2000400000) && s.scratchHeld b (a - 0x2000000000)

/-- The present benches of a link (R44). -/
def State.linkBenches (s : State) (l : Nat) : List Nat :=
  (List.range 4).filter fun b => (s.plan.bench b).present && (s.plan.bench b).link == l

/-- Traffic, or a head enabled on it, returns bench b's link to L0 (R66). -/
def State.linkWake (s : State) (b : Nat) : State :=
  let l := (s.plan.bench b).link
  if (s.link l).l1 then s.setLink l { s.link l with l1 := false, sub := 0 } else s

/-- A head that is enabled keeps its link in L0 (R66). -/
def State.headLinkWake (s : State) (h : Nat) : State :=
  match s.plan.headBench h with
  | some b => s.linkWake b
  | none => s

/-- A function's Max_Payload_Size in bytes (R40): 512 where the host writes a larger code. -/
def Fn.maxPayload (q : Fn) : Nat := 128 * 2 ^ min (nfld q.devCtl.toNat 7 5) 2

/-- A function's Max_Read_Request_Size in bytes (R40). -/
def Fn.maxRead (q : Fn) : Nat := 128 * 2 ^ min (nfld q.devCtl.toNat 14 12) 5

/-- The Max_Payload_Size used for bench b: the smallest that a function on its link holds (R46). -/
def State.maxPayload (s : State) (b : Nat) : Nat :=
  ((s.linkBenches (s.plan.bench b).link).map fun k => (s.fn k).maxPayload).foldl min 512

/-- The largest read the module issues for bench b: 512 bytes, or less where Max_Read_Request_Size is less (R40). -/
def State.maxRead (s : State) (b : Nat) : Nat := min 512 (s.fn b).maxRead

/-- Every byte of a range is plain memory of bench b; the range lies within one page of 64 KiB, or is checked at both
ends. -/
def State.rangeHeld (s : State) (b a n : Nat) : Bool :=
  s.plainHeld b (a % 2 ^ 40) && (n ≤ 1 || s.plainHeld b ((a + n - 1) % 2 ^ 40))

/-- The bench of the head or TDM port that an output channel belongs to (R354). -/
def Plan.outBench (p : Plan) (c : Nat) : Option Nat := if c < 64 then p.headBench (c / 8) else p.tdmBench ((c - 64) / 8)
def State.outBench (s : State) (c : Nat) : Option Nat := s.plan.outBench c

/-- The plan that the audio engine goes by: while units that a new plan moved still ramp, the old one (R368). -/
def State.audPlan (s : State) : Plan := s.audio.before.getD s.plan

/-- The bench that holds a serial unit, matrix, quadrature unit or meter: its anchor pin's (R475). -/
def State.pinBench (s : State) (p : Nat) : Option Nat := s.plan.cioBench p

/-- What a device register address is for a bench (R29, R19): a register of a unit it holds, a reserved offset, or a
hole. -/
inductive DevAt where
  | held
  | reserved
  | hole
deriving DecidableEq, Repr

/-- A unit's register: reachable only by its holder. -/
def heldIf (h : Option Nat) (b : Nat) : DevAt := if h == some b then .held else .hole

/-- What a device register address is for bench b (R29, R30, R26). -/
def State.devAt (s : State) (b a : Nat) : DevAt :=
  if a < 0x3000000000 then .hole
  else if a < 0x3000080000 then heldIf (s.plan.ringBench ((a - 0x3000000000) / 0x20)) b
  else if a < 0x3000100000 then (if a < 0x3000080008 then .held else .reserved)
  else if a < 0x3000120000 then heldIf (s.plan.coreBench ((a - 0x3000100000) / 0x1000)) b
  else if a < 0x3000128000 then heldIf (s.plan.headBench ((a - 0x3000120000) / 0x1000)) b
  else if a < 0x3000200000 then .reserved
  else if a < 0x3001000000 then .hole
  else if a < 0x3001800000 then heldIf (s.plan.headBench ((a - 0x3001000000) / 0x100000)) b
  else if a < 0x3002000000 then .hole
  else if a < 0x3002800000 then heldIf (s.plan.headBench ((a - 0x3002000000) / 0x100000)) b
  else if a < 0x3003000000 then .hole
  else if a < 0x3003020000 then heldIf (s.plan.voiceBench ((a - 0x3003000000) / 0x80)) b
  else if a < 0x3003022000 then heldIf (s.plan.toneBench ((a - 0x3003020000) / 0x80)) b
  else if a < 0x3003030000 then .reserved
  else if a < 0x3003034000 then heldIf (s.plan.busBench ((a - 0x3003030000) / 0x100)) b
  else if a < 0x3003040000 then .reserved
  else if a < 0x3003040C00 then heldIf (s.outBench (2 * ((a - 0x3003040000) / 0x40))) b
  else if a < 0x3003050000 then .reserved
  else if a < 0x3003050180 then heldIf (s.outBench ((a - 0x3003050000) / 4)) b
  else if a < 0x3003051000 then .reserved
  else if a < 0x3003051080 then heldIf (s.plan.tdmBench ((a - 0x3003051000) / 32)) b
  else if a < 0x3003060000 then .reserved
  else if a < 0x3003060100 then heldIf (s.plan.tdmBench ((a - 0x3003060000) / 0x40)) b
  else if a < 0x3003061000 then .reserved
  else if a < 0x3003061080 then heldIf (s.plan.headBench ((a - 0x3003061000) / 0x10)) b
  else if a < 0x3003070000 then .reserved
  else if a < 0x3003070008 then .held
  else if a == 0x3003071000 then .held
  else if a < 0x3003400000 then .reserved
  else if a < 0x3003420000 then
    let e := (a - 0x3003400000) / 0x10000
    if !((s.plan.bench b).present && nbit (s.plan.bench b).blockLend e) then .hole
    else if (a - 0x3003400000) % 0x10000 < 4 then .held
    else if (s.blk e).owner == some b then .held else .hole
  else if a < 0x3003500000 then .hole
  else if a < 0x3003510000 then heldIf (s.plan.carterBench ((a - 0x3003500000) / 0x400)) b
  else if a < 0x3003600000 then .hole
  else if a < 0x300360000C then .held
  else if a < 0x3003601000 then .reserved
  else if a < 0x3003601800 then heldIf (s.plan.cmpBench ((a - 0x3003601000) / 0x20)) b
  else if a < 0x3003602000 then .reserved
  else if a < 0x3003602200 then heldIf (s.plan.capBench ((a - 0x3003602000) / 0x20)) b
  else if a < 0x3003604000 then .reserved
  else if a < 0x3003604800 then heldIf (s.plan.bellBench ((a - 0x3003604000) / 0x10)) b
  else if a < 0x3003610000 then .reserved
  else if a < 0x3003621000 then .held
  else if a < 0x30036210C0 then heldIf (s.pinBench (8 * ((a - 0x3003621000) / 0x10))) b
  else if a < 0x3003622000 then .reserved
  else if a < 0x3003622030 then heldIf (s.pinBench (8 * ((a - 0x3003622000) / 4) + 4)) b
  else if a < 0x3003622100 then .reserved
  else if a < 0x3003622130 then heldIf (s.pinBench (8 * ((a - 0x3003622100) / 4))) b
  else if a < 0x3003622200 then .reserved
  else if a < 0x3003622260 then
    let m := (a - 0x3003622200) / 4
    heldIf (s.pinBench (8 * (m / 2) + 6 + m % 2)) b
  else if a < 0x3003700000 then .reserved
  else if a < 0x3003710000 then .held
  else if a < 0x3003800000 then .hole
  else if a < 0x3003804000 then heldIf (some ((a - 0x3003800000) / 0x1000)) b
  else .hole

/-- What an address is for a Pyriva core (R96). -/
inductive Target where
  | mem (a : Nat)
  | setBits (a : Nat)
  | clearBits (a : Nat)
  | window (off : Nat)
  | dev (a : Nat)
  | house (flash : Bool) (off : Nat)
  | card (off : Nat)
  | sensors (off : Nat)
  | bench (b off : Nat)
  | hole
deriving DecidableEq, Repr

/-- The first address at which the Clerk reaches the Counting-House SRAM, above the device address map (R28, R494; log 105). -/
def sramBase : Nat := 0x4000000000 + Config.sramAt % 0x80000 * 0x100000

/-- An address outside the device address map as the Clerk sees it: its private space, or a hole (R28, R96). -/
def clerkPrivate (a : Nat) : Target :=
  if sramBase ≤ a ∧ a < sramBase + 0x100000 then .house false (a - sramBase) else
  match Config.clerkSpace a with
  | some (.sram, off) => .house false (off % 0x100000)
  | some (.flash, off) => .house true (off % 0x40000000)
  | some (.sensors, off) => .sensors (off % 0x80)
  | some (.benches, off) => .bench (off / 0x10000 % 4) (off % 0x10000)
  | none => .hole

/-- The page that a pool page stands for, once the remap to it has taken effect: the pool's pages are taken in their order, and hold their
data, which the model keeps at the retired page's own address (R413, R416; log 94). -/
def State.poolHome (s : State) (a : Nat) : Nat :=
  if 0x1FFC000000 ≤ a then match s.retired[(a - 0x1FFC000000) / 4096]? with
    | some page => page * 4096 + a % 4096
    | none => a
  else a

/-- The safe cards' images in the house working area: 32 MiB each from 1 GiB after its start, behind the surfaces (R416; log 94). -/
def State.cardFirst (s : State) : Nat := s.houseFirst + (s.plan.houseGranules - 1) * 0x40000000

/-- An asset address as the Clerk reaches it. -/
def State.clerkAsset (s : State) (a : Nat) : Target :=
  if s.cardFirst ≤ a ∧ a < s.cardFirst + 0x10000000 then .card (a - s.cardFirst) else .mem (s.poolHome a)

/-- What an address is for a core (R96, R97): its window, memory it reaches, an alias, a device register, or a hole.
The aliases a bench's core reaches are those of the bench's pages in banks 8 to 14. -/
def State.coreTarget (s : State) (c : CoreId) (a : Nat) : Target :=
  if 0xFFFFFF0000 ≤ a then .window (a - 0xFFFFFF0000)
  else match c with
    | .clerk =>
      if a < 0x2000000000 then s.clerkAsset a
      else if a < 0x20003C0000 then .mem a
      else if a < 0x2000400000 then clerkPrivate a
      else if a < 0x20007C0000 then .setBits (a - 0x400000)
      else if a < 0x2000800000 then clerkPrivate a
      else if a < 0x2000BC0000 then .clearBits (a - 0x800000)
      else if a < 0x2001000000 then clerkPrivate a
      else if a < 0x2001080000 then (if (lineMemHead a).isSome then .mem a else clerkPrivate a)
      else if (0x3000000000 ≤ a ∧ a < 0x3000200000) ∨ (0x3001000000 ≤ a ∧ a < 0x3001900000)
          ∨ (0x3002000000 ≤ a ∧ a < 0x3002800000) ∨ (0x3003000000 ≤ a ∧ a < 0x3003420000)
          ∨ (0x3003500000 ≤ a ∧ a < 0x3003510000) ∨ (0x3003600000 ≤ a ∧ a < 0x3003710000)
          ∨ (0x3003800000 ≤ a ∧ a < 0x3003804000) then .dev a
      else clerkPrivate a
    | .scene n =>
      match s.plan.coreBench n.val with
      | none => .hole
      | some b =>
        if a < 0x2000000000 then (if s.assetHeld b a then .mem a else .hole)
        else if a < 0x2000400000 then (if s.scratchHeld b (a - 0x2000000000) then .mem a else .hole)
        else if a < 0x2000800000 then
          (if 0x200000 ≤ a - 0x2000400000 ∧ s.scratchHeld b (a - 0x2000400000) then .setBits (a - 0x400000) else .hole)
        else if a < 0x2000C00000 then
          (if 0x200000 ≤ a - 0x2000800000 ∧ s.scratchHeld b (a - 0x2000800000) then .clearBits (a - 0x800000) else .hole)
        else if a < 0x3000000000 then
          match lineMemHead a with
          | none => .hole
          | some h => if s.plan.headBench h == some b then .mem a else .hole
        else if s.devAt b a == .hole then .hole else .dev a
    | .line n =>
      match s.plan.headBench n.val with
      | none => .hole
      | some b =>
        if a < 0x2000200000 then .hole
        else if a < 0x2000400000 then (if s.scratchHeld b (a - 0x2000000000) then .mem a else .hole)
        else if a < 0x2000800000 then
          (if 0x200000 ≤ a - 0x2000400000 ∧ s.scratchHeld b (a - 0x2000400000) then .setBits (a - 0x400000) else .hole)
        else if a < 0x2000C00000 then
          (if 0x200000 ≤ a - 0x2000800000 ∧ s.scratchHeld b (a - 0x2000800000) then .clearBits (a - 0x800000) else .hole)
        else if lineMemHead a == some n.val then .mem a
        else if (kPe n.val 0 ≤ a ∧ a < kPe n.val 0x100000) ∨ (kHead n.val 0 ≤ a ∧ a < kHead n.val 0x100000) then .dev a
        else if 0x3003600000 ≤ a ∧ a < 0x3003700000 then (if s.devAt b a == .hole then .hole else .dev a)
        else .hole

/-- House flash with bytes written. -/
def putFlash : List Host.Cell → Nat → List Byte → List Host.Cell
  | m, _, [] => m
  | m, a, b :: t => putFlash (Sparse.set (fun _ => (0xFF : Byte)) m a b) (a + 1) t

/-- Flash bytes written. -/
def State.flashPut (s : State) (a : Nat) (bs : List Byte) : State := { s with flash := putFlash s.flash a bs }

/-! ### CRC-32C -/

/-- One bit of CRC-32C (reflected polynomial 0x82F6_3B78). -/
def crcBit (c : Nat) : Nat := if c % 2 = 1 then (c / 2) ^^^ 0x82F63B78 else c / 2

/-- One byte of CRC-32C on a running register. -/
def crcByte (c : Nat) (b : Byte) : Nat :=
  crcBit (crcBit (crcBit (crcBit (crcBit (crcBit (crcBit (crcBit (c ^^^ b.toNat))))))))

/-- CRC-32C of a byte string. -/
def crc32c (bs : List Byte) : Nat := (bs.foldl crcByte 0xFFFFFFFF) ^^^ 0xFFFFFFFF

/-! ### Modes -/

/-- The mode's code in sensor word 0x30 (R498, R519). -/
def Mode.code : Mode → Nat
  | .noPower => 0
  | .standby => 0
  | .opening => 1
  | .run => 2
  | .doze => 3
  | .hold => 4
  | .service => 5
  | .limp => 6
  | .closing => 7

/-- The main domains are powered (R519). -/
def Mode.mainOn : Mode → Bool
  | .noPower | .standby | .service => false
  | _ => true

/-- TB runs in low-frequency mode (R432). -/
def Mode.lf : Mode → Bool
  | .doze | .standby | .hold => true
  | _ => false

end Sys2Proof.Machine
end

