-- ==== Sys2Proof/Machine/Bell.lean ====
section
/-!
DEFINITION. The time base, the compare and capture channels and the Bellwire channels (R431 to R453).
-/
namespace Sys2Proof.Machine

/-! ### Bellwire channels -/

/-- The channels that a register's word routes, each with the slot of the word that names it: slots 0 to 3 are task inputs
(R264, R282, R350, R442, R481), slot 8 a producer (R273, R303, R351, R385, R397, R440, R481). -/
def routeOf (k : Nat) (v : Word) : List (Nat × Nat) :=
  let at_ (slot : Nat) (on : Bool) (c : Nat) : List (Nat × Nat) := if on then [(slot, c)] else []
  let b (i : Nat) : Bool := nbit v.toNat i
  if 0x3003000000 ≤ k ∧ k < 0x3003022000 then
    if k % 0x80 = 0x48 then
      at_ 0 (b 31) (wfld v 30 24) ++ at_ 1 (b 23) (wfld v 22 16) ++ at_ 2 (b 15) (wfld v 14 8) ++ at_ 3 (b 7) (wfld v 6 0)
    else if k % 0x80 = 0x44 then at_ 8 (b 31) (wfld v 22 16)
    else []
  else if 0x3002000000 ≤ k ∧ k < 0x3002800000 then
    let off := k % 0x100000
    if off = 0x1040 then at_ 0 (wfld v 31 29 == 4) (wfld v 22 16)
    else if off = 0x1070 ∨ off = 0x1074 then at_ 8 (b 31) (wfld v 22 16)
    else if off = 0x28 then at_ 8 (b 31) (wfld v 6 0)
    else if off = 0x204 ∨ off = 0x244 ∨ off = 0x284 ∨ off = 0x2C4 then at_ 0 true (wfld v 6 0)
    else []
  else if 0x3003601000 ≤ k ∧ k < 0x3003601800 ∧ k % 0x20 = 8 then at_ 8 (b 26) (wfld v 6 0)
  else if 0x3003602000 ≤ k ∧ k < 0x3003602200 ∧ k % 0x20 = 0 then at_ 0 (b 31 && b 30) (wfld v 6 0)
  else if 0x3003620000 ≤ k ∧ k < 0x3003620180 then
    at_ 0 (wfld v 31 28 == 4) (wfld v 6 0) ++ at_ 8 (wfld v 31 28 == 3) (wfld v 6 0)
  else if 0x3003400000 ≤ k ∧ k < 0x3003420000 ∧ k % 0x10000 = 8 then at_ 8 (b 21) (wfld v 6 0)
  else if 0x3003500000 ≤ k ∧ k < 0x3003510000 ∧ k % 0x400 = 4 then at_ 8 true (wfld v 6 0)
  else []

/-- The register carries a route (R450). -/
def carriesRoute (k : Nat) : Bool :=
  !(routeOf k 0xFFFFFFFF).isEmpty || (decide (0x3003620000 ≤ k) && decide (k < 0x3003620180))

/-- The task input that slot `i` of a register is. -/
def inputOf (k i : Nat) : TaskInput :=
  if k < 0x3003000000 then
    let h := (k - 0x3002000000) / 0x100000
    let off := k % 0x100000
    if off = 0x1040 then .headSync h else .fence h ((off - 0x204) / 0x40)
  else if k < 0x3003022000 then
    let n := if k < 0x3003020000 then (k - 0x3003000000) / 0x80 else 1024 + (k - 0x3003020000) / 0x80
    if i < 2 then .voiceOn n else .voiceOff n
  else if k < 0x3003620000 then .capture ((k - 0x3003602000) / 0x20)
  else .pin ((k - 0x3003620000) / 4)

/-- A voice's TASK register. -/
def isTask (k : Nat) : Bool := decide (0x3003000000 ≤ k) && decide (k < 0x3003022000) && k % 0x80 == 0x48

/-- The word of a register whose route stands once no change of it waits: SYNC_CTL counts as it is in force (R282), a voice's TASK as
the last sample boundary took it (R369). -/
def State.routeNow (s : State) (k : Nat) : Word :=
  if isTask k then Sparse.get regReset s.audio.active k
  else if 0x3002000000 ≤ k ∧ k < 0x3002800000 ∧ k % 0x100000 = 0x1040 then
    (s.head ((k - 0x3002000000) / 0x100000)).copy.getD 7 0
  else s.rd k

/-- The channel that a slot of a register's word names, if any. -/
def routeAt (k slot : Nat) (v : Word) : Option Nat := ((routeOf k v).find? fun r => r.1 == slot).map (·.2)

/-- The channel still in effect where a change of a slot's route waits (R450). -/
def State.routeHeld (s : State) (k slot : Nat) : Option (Option Nat) :=
  (s.routes.find? fun e => e.1 == (k, slot)).map (·.2)

/-- The channel in effect for a slot of a register (R450). -/
def State.routeChan (s : State) (k slot : Nat) : Option Nat := (s.routeHeld k slot).getD (routeAt k slot (s.routeNow k))

/-- The slots that belong to the same input or producer as a slot: two each for a voice's key-on and key-off (R350). -/
def slotPeers (k slot : Nat) : List Nat := if isTask k then (if slot < 2 then [0, 1] else [2, 3]) else [slot]

/-- The channels that a change of a slot's route, from the channel it named, takes its input or producer from or to; a channel that another
slot of the same input keeps does not change. -/
def State.routeChans (s : State) (k slot : Nat) (old : Option Nat) : List Nat :=
  let new := routeAt k slot (s.routeNow k)
  let others := (slotPeers k slot).filter (· != slot)
  let after := new.toList ++ others.filterMap fun i => routeAt k i (s.routeNow k)
  let before := old.toList ++ others.filterMap fun i => s.routeChan k i
  (old.toList.filter fun c => !after.contains c) ++ (new.toList.filter fun c => !before.contains c)

/-- Those of them whose handshake is busy. -/
def State.routeBusy (s : State) (e : (Nat × Nat) × Option Nat) : List Nat :=
  (s.routeChans e.1.1 e.1.2 e.2).filter fun c => (s.bell c).inFlight

/-- Route changes whose channels' handshakes are idle take effect (R450). -/
def State.routeSettle (s : State) : State := { s with routes := s.routes.filter fun e => !(s.routeBusy e).isEmpty }

/-- A register has been written: each change of its routes takes effect, or waits for a busy handshake (R450). `from_` is the state before
the write. -/
def State.routeWrite (s : State) (k : Nat) (from_ : State) : State :=
  let waits := [0, 1, 2, 3, 8].filterMap fun i =>
    let e := ((k, i), from_.routeChan k i)
    if (s.routeHeld k i).isNone && !(s.routeBusy e).isEmpty then some e else none
  { s with routes := s.routes ++ waits }.routeSettle

/-- The bench that holds an input's unit (R32). -/
def TaskInput.holder (p : Plan) : TaskInput → Option Nat
  | .voiceOn v => if v < 1024 then p.voiceBench v else p.toneBench (v - 1024)
  | .voiceOff v => if v < 1024 then p.voiceBench v else p.toneBench (v - 1024)
  | .fence h _ => p.headBench h
  | .headSync h => p.headBench h
  | .capture n => p.capBench n
  | .pin n => p.cioBench n

/-- The task inputs subscribed to channel c, of its own bench only (R444). A fence listens to its channel at all times
(R264). -/
def State.subscribers (s : State) (c : Nat) : List TaskInput :=
  let keys := (s.routes.map (·.1.1) ++ (s.regs ++ s.audio.active).map (·.1)).filter fun k => (0x3003000000 ≤ k : Bool)
  let heads := (List.range 8).flatMap fun h => [kHead h 0x1040, kHead h 0x204, kHead h 0x244, kHead h 0x284, kHead h 0x2C4]
  ((keys ++ heads).flatMap fun k => (List.range 4).filterMap fun i =>
    if s.routeChan k i = some c then some (inputOf k i) else none).eraseDups.filter fun t =>
      (t.holder s.plan).isSome && t.holder s.plan == s.plan.bellBench c

/-- An event leaves the channel and is in flight (R446); in Doze one on a bench's wake channel is a wake trigger (R533). -/
def State.bellLeave (s : State) (c : Nat) : State :=
  let wakes := (List.range 4).any fun b => (s.fn b).wakeA == some c || (s.fn b).wakeB == some c
  let s := if (s.mode == .doze || s.dozeAsk) && wakes && s.wakeAsk.isNone then { s with wakeAsk := some (6, c) } else s
  s.setBell c { inFlight := true, targets := s.subscribers c, held := false, window := (s.bell c).window + 1 }

/-- A fire reaches channel c: one with another of the same clock is one event with it; it is discarded while the channel is cut, held or
merged while the handshake is busy, else it leaves as an event (R446, R451). -/
def State.fireRaw (s : State) (c : Nat) : State :=
  let again := match s.fired with
    | some l => l.contains c
    | none => false
  let s := { s with fired := s.fired.map (c :: ·) }
  if again then s
  else if s.bit (kCh c 4) 29 then s.incSat (kCh c 0xC) 31 0
  else
    let q := s.bell c
    if q.inFlight then
      if q.held then s.incSat (kCh c 4) 15 0 else s.setBell c { q with held := true }
    else s.bellLeave c

/-- A producer of bench b fires channel c; a channel that the bench does not hold discards it (R444). -/
def State.fire (s : State) (b : Option Nat) (c : Nat) : State :=
  if b.isSome && s.plan.bellBench c == b then s.fireRaw c else s

/-- The fires that f makes come in one clock, after those of `l` in the same clock: the state, and all of them (R446). -/
def State.oneClock (s : State) (l : List Nat) (f : State → State) : State × List Nat :=
  let t := f { s with fired := some l }
  ({ t with fired := none }, t.fired.getD [])

/-- The channel that a register's producer fires, by the route in effect (R444, R450). -/
def State.producer (s : State) (k : Nat) : List Nat := (s.routeChan k 8).toList

/-- The producer of a register fires its channel, if it is enabled (R444, R450). -/
def State.produce (s : State) (b : Option Nat) (k : Nat) : State := (s.producer k).foldl (fun t c => t.fire b c) s

/-- The handshake goes idle: the event counts as delivered, route changes that waited take effect, and a held fire leaves
(R446, R450). -/
def State.bellIdle (s : State) (c : Nat) : State :=
  let q := s.bell c
  let s := s.setBell c { q with inFlight := false, targets := [] }
  let s := (s.incWrap (kCh c 8) 31 0).routeSettle
  if q.held then s.bellLeave c else s

/-- The handshake of channel c is cut short by a forced route change: its event is dropped where it has not been taken
(R450). -/
def State.bellCut (s : State) (c : Nat) : State :=
  (s.setB (kCh c 4) 28 true).setBell c { s.bell c with inFlight := false, targets := [], held := false }

/-- The route changes of channel c are forced where their handshakes are still busy; held fires then leave (R450). -/
def State.routeForce (s : State) (c : Nat) : State :=
  let mine := s.routes.filter fun e => (s.routeChans e.1.1 e.1.2 e.2).contains c
  let busy := (mine.flatMap fun e => s.routeBusy e).eraseDups
  let held := busy.filter fun n => (s.bell n).held
  let t := { s with routes := s.routes.filter fun e => !mine.contains e }
  let t := (busy.foldl State.bellCut t).routeSettle
  held.foldl State.bellLeave t

/-- CHn_STAT as it reads: BUSY is live (R453). -/
def State.chStat (s : State) (c : Nat) : Word := setBit (s.rd (kCh c 4)) 31 (s.bell c).inFlight

/-- One channel at the end of a 1 ms storm window (R451). -/
def State.stormOne (s : State) (c : Nat) : State :=
  let q := s.bell c
  let past := decide (s.stormLimit < q.window * 1000)
  let was := s.bit (kCh c 4) 30
  let s := s.setBell c { q with window := 0 }
  let s := s.setB (kCh c 4) 30 past
  let s := if past && !was then
      s.report 0x07 (0x0C00 + c) (scopeOf (s.plan.bellBench c)) (s.rdN (kCh c 4))
    else s
  if past && s.bit (kCh c 0) 30 then s.setB (kCh c 4) 29 true else s

/-- The end of a storm window of every channel (R451). -/
def State.stormAll (s : State) : State := (List.range 128).foldl State.stormOne s

/-! ### Capture channels -/

/-- A capture enters channel n: an entry of TB and the edge's direction, or OVF with the queue full (R442, R443). -/
def State.capture (s : State) (n : Nat) (rise : Bool) : State :=
  if !s.bit (kCap n 0) 31 then s
  else if 4 ≤ (s.cap n).length then s.setB (kCap n 0x10) 31 true
  else s.setCap n (s.cap n ++ [(s.tb.toNat, rise)])

/-- The pin edges that channel n's EDGE takes (R453). -/
def State.capEdge (s : State) (n : Nat) (rise : Bool) : Bool :=
  match s.fld (kCap n 0) 29 28 with
  | 0 => rise
  | 1 => !rise
  | _ => true

/-- A capture arrives from a CIO pin, through the pin's filter (R442). -/
def State.captureEdge (s : State) (n : Nat) (rise : Bool) : State :=
  if !s.bit (kCap n 0) 30 && s.capEdge n rise then s.capture n rise else s

/-- A read of CAPn_POP: its value, and the state with the oldest entry removed and its TB latched (R443). -/
def State.capPop (s : State) (n : Nat) : Nat × State :=
  match s.cap n with
  | [] => (0, s.wr64 (kCap n 8) 0)
  | (t, r) :: rest =>
    (2 ^ 31 + (if r then 2 ^ 30 else 0) + rest.length, (s.setCap n rest).wr64 (kCap n 8) t)

/-- CAPn_STAT as it reads (R453). -/
def State.capStat (s : State) (n : Nat) : Word := setFld (s.rd (kCap n 0x10)) 2 0 (s.cap n).length

/-! ### Compare channels and the time base -/

/-- A crossing of C as TB moves from u to w (R436). -/
def crosses (u w c : Nat) : Bool :=
  decide (0 < sgn 64 (c + 2 ^ 64 - u % 2 ^ 64)) && decide (sgn 64 (c + 2 ^ 64 - w % 2 ^ 64) ≤ 0)

/-- OUT_ACT on a level (R440). -/
def outAct (act : Nat) (l : Bool) : Bool :=
  match act with
  | 1 => true
  | 2 => false
  | 3 => !l
  | _ => l

/-- A match of channel n: MATCH and the output level (R439, R440). -/
def State.cmpMatch (s : State) (n : Nat) : State :=
  let s := s.setB (kCmp n 0x10) 31 true
  s.setB (kCmp n 0x10) 30 (outAct (s.fld (kCmp n 8) 29 28) (s.bit (kCmp n 0x10) 30))

/-- The advance of C after a match at TB value w, with AUTO set and a PERIOD (R439). -/
def State.cmpAdvance (s : State) (n w : Nat) : State :=
  let p := s.rdN (kCmp n 0xC)
  if s.bit (kCmp n 8) 30 && p != 0 then
    let c := s.rd64 (kCmp n 0)
    let gone := (w + 2 ^ 64 - c % 2 ^ 64) % 2 ^ 64
    let k := gone / p + 1
    (s.wr64 (kCmp n 0) ((c + k * p) % 2 ^ 64)).addSat (kCmp n 0x10) 15 0 (k - 1)
  else s

/-- How many of the writes on their way to channel n land at this tick, the oldest first: those accepted before the last tick, and of the
others a number that depends on the phase of the tick in which each was accepted, which is free (R435, R437). -/
def State.cmpReach (s : State) (n : Nat) : Nat × State :=
  let l := (s.cmp n).flight
  let young := (l.filter fun e => !e.2).length
  if young = 0 then (l.length, s)
  else
    let (v, t) := s.fresh
    (l.length - young + v % (young + 1), t)

/-- One channel at a tick or step from u to w: writes of C and EN that have reached it land, and the crossing is tested against the old C
and each that lands: one match for all (R435, R436, R438, R441). An old C that matched advances, and a C that lands takes the advanced
one's place; a match of a landing C alone advances that one (R439; log 103). Answers whether it matched. -/
def State.cmpTick (s : State) (n u w : Nat) : Bool × State :=
  let (k, s) := s.cmpReach n
  let q := s.cmp n
  let landed := (q.flight.take k).map (·.1)
  let vals := landed.filterMap fun e => match e with
    | .val c => some c.toNat
    | .en _ => none
  let live := landed.foldl (fun on e => match e with
    | .val _ => on
    | .en b => b) q.live
  let hitOld := live && crosses u w (s.rd64 (kCmp n 0))
  let hitNew := live && vals.any (crosses u w)
  let s := if hitOld || hitNew then s.cmpMatch n else s
  let s := if hitOld then s.cmpAdvance n w else s
  let s := match vals.getLast? with
    | some c =>
      let s := s.wr64 (kCmp n 0) c
      if !hitOld && live && crosses u w c then s.cmpAdvance n w else s
    | none => s
  (hitOld || hitNew, s.setCmp n { q with flight := (q.flight.drop k).map fun e => (e.1, true), live := live })

/-- The compare outputs of the pins after a tick: CMP_A acts before CMP_B, and only channels of the pin's bench act
(R480). -/
def State.pinsMatch (s : State) (hits : List Nat) : State :=
  s.regs.foldl (fun t e =>
    let k := e.1
    if 0x3003620000 ≤ k ∧ k < 0x3003620180 ∧ wfld e.2 31 28 = 1 then
      let p := (k - 0x3003620000) / 4
      let act (n : Nat) (l : Bool) : Bool :=
        if hits.contains n && (t.plan.cmpBench n).isSome && t.plan.cmpBench n == t.plan.cioBench p
        then outAct (t.fld (kCmp n 8) 29 28) l else l
      let q := t.pin p
      t.setPin p { q with latch := act (wfld e.2 5 0) (act (wfld e.2 11 6) q.latch) }
    else t) s

/-- TB moves to a new value: every compare channel is tested, matches act on the pins and fire their channels; fires that
reach one channel in the tick are one event (R431, R439, R446). -/
def State.tbMove (s : State) (w : Nat) : State :=
  let u := s.tb.toNat
  let (hits, t) := s.cmps.foldl (fun (acc : List Nat × State) e =>
    let (h, t) := acc.2.cmpTick e.1 u w
    (if h then acc.1 ++ [e.1] else acc.1, t)) ([], s)
  let t := { t with tb := BitVec.ofNat 64 w }
  let t := t.pinsMatch hits
  (t.oneClock [] fun t => hits.foldl (fun t n => t.produce (t.plan.cmpBench n) (kCmp n 8)) t).1

/-- A TB clock edge adds 1 (R431). -/
def State.tbTick (s : State) : State :=
  if s.tbLf || s.mode == .noPower then s else s.tbMove ((s.tb.toNat + 1) % 2 ^ 64)

/-- The ticks that step k mod 16 of low-frequency mode adds (R432). -/
def stepTicks (k : Nat) : Nat := if k = 1 ∨ k = 4 ∨ k = 7 ∨ k = 10 ∨ k = 13 then 2929 else 2930

/-- TB enters low-frequency mode: steps are counted from 0, and a write of C or EN accepted before lands at the first step (R432, R433,
R454). -/
def State.tbEnterLf (s : State) : State :=
  { s with tbLf := true, tbStepNo := 0, cmps := s.cmps.map fun e => (e.1, { e.2 with flight := e.2.flight.map fun w => (w.1, true) }) }

/-- The root is stable at a crystal edge: only the first step of Opening leaves open when its PLL has locked (R433, R526). -/
def State.rootStable (s : State) : Bool × State :=
  if s.mode == .opening && !s.warm && s.closeStep == 0 then
    let (v, t) := s.fresh
    (v % 2 == 1, t)
  else (true, s)

/-- A crystal edge (R432, R433): in a mode that runs TB at low frequency it adds a step, and the first such edge is the change to that
mode; once the mode has ended and the root is stable, the step at the edge is the last. -/
def State.tbStep (s : State) : State :=
  if s.mode == .noPower then s
  else if !s.tbLf then (if s.mode.lf then s.tbEnterLf else s)
  else
    let t := s.tbMove ((s.tb.toNat + stepTicks (s.tbStepNo % 16)) % 2 ^ 64)
    let t := { t with tbStepNo := (s.tbStepNo + 1) % 16 }
    if t.mode.lf then t
    else
      let (last, t) := t.rootStable
      if last then { t with tbLf := false, tbStepNo := 0 } else t

/-- The requester number of a TB_HI snapshot: cores by number, a bench's host at 41 + b (R434). -/
def snapOf : Requester → Option Nat
  | .core c => some (coreNum c)
  | .host b => some (41 + b.val)
  | _ => none

/-- A read of TB_LO latches the upper half for its requester (R434). -/
def State.tbLoRead (s : State) (r : Requester) : Nat × State :=
  match snapOf r with
  | none => (s.tb.toNat % 2 ^ 32, s)
  | some k => (s.tb.toNat % 2 ^ 32, { s with snaps := Sparse.put s.snaps k (BitVec.ofNat 32 (s.tb.toNat / 2 ^ 32)) })

/-- A read of TB_HI: the requester's snapshot, or the live half (R434). -/
def State.tbHiRead (s : State) (r : Requester) : Nat :=
  match (snapOf r).bind fun k => (s.snaps.find? fun e => e.1 == k).map (·.2) with
  | some w => w.toNat
  | none => s.tb.toNat / 2 ^ 32

/-- TB_STAT as it reads (R453). -/
def State.tbStat (s : State) : Nat := (if s.tbLf then 2 ^ 31 + s.tbStepNo % 16 else 0)

/-- A write of CMPn_VAL_LO is held (R435). -/
def State.cmpLo (s : State) (n : Nat) (v : Word) : State := s.setCmp n { s.cmp n with heldLo := v }

/-- A write of C or EN goes to the comparator of channel n, where it lands at a following tick (R435, R441). -/
def State.cmpSend (s : State) (n : Nat) (w : CmpWrite) : State :=
  s.setCmp n { s.cmp n with flight := (s.cmp n).flight ++ [(w, false)] }

/-- A write of CMPn_VAL_HI joins the held low half (R435). -/
def State.cmpHi (s : State) (n : Nat) (v : Word) : State :=
  s.cmpSend n (.val (BitVec.ofNat 64 ((s.cmp n).heldLo.toNat + v.toNat * 2 ^ 32)))

/-- A write of CMPn_CTL: the register reads the new value; EN lands as a write of C does (R441). -/
def State.cmpCtl (s : State) (n : Nat) (v : Word) (be : Nat) : State :=
  let t := s.store (kCmp n 8) v be
  if t.bit (kCmp n 8) 31 == s.bit (kCmp n 8) 31 then t else t.cmpSend n (.en (t.bit (kCmp n 8) 31))

end Sys2Proof.Machine
end

