-- ==== Sys2Proof/Machine/Journal.lean ====
section
/-!
DEFINITION. The daybook (R320 to R331): records, blocks, gaps and the drain, and the store of bytes into
memory with its MEM records.
-/
namespace Sys2Proof.Machine

/-- SPAN of a record: 0x3F while the beam is stopped (R323). -/
def Head.recSpan (q : Head) : Nat := if q.run = 2 then q.span else 0x3F

/-- A record header (R323). -/
def recHead (type len line span beam args : Nat) : Nat :=
  args % 2 ^ 28 * 2 ^ 36 + beam % 2 * 2 ^ 35 + span % 64 * 2 ^ 29 + line % 8192 * 2 ^ 16 + len % 256 * 2 ^ 8 + type

/-- The words of the first record of a word list (its LEN, at least one). -/
def recLen (w : Double) : Nat := max 1 (nfld w.toNat 15 8)

/-- How many words of whole records fit in one block's 508 words. -/
def packLen : Nat → List Double → Nat → Nat
  | 0, _, n => n
  | _, [], n => n
  | fuel + 1, w :: t, n =>
    let k := recLen w
    if n + k ≤ 508 then packLen fuel (t.drop (k - 1)) (n + k) else n

/-- Words that wait in the daybook unit go past its 64 KiB: the record is lost (R327). -/
def State.recLost (s : State) (h : Nat) : State :=
  let j := s.journal h
  (s.setJournal h { j with lost := j.lost + 1, lostFnum := if j.lost = 0 then (s.head h).fnum else j.lostFnum }).incSat
    (kHead h 0x10020) 31 0

/-- A record enters a head's buffer, or is lost (R325, R327). -/
def State.record (s : State) (h : Nat) (words : List Nat) : State :=
  let j := s.journal h
  if 8192 < j.open_.length + words.length then s.recLost h
  else
    let j := if j.isOpen then j else { j with isOpen := true, openTb := s.tb.toNat, openFnum := (s.head h).fnum }
    s.setJournal h { j with open_ := j.open_ ++ words.map fun w => BitVec.ofNat 64 w }

/-- Bytes as the body words of a record, zero-padded (R324). -/
def bodyWords (bs : List Byte) : List Nat :=
  (List.range (ceilDiv bs.length 8)).map fun i => leNat ((bs.drop (8 * i)).take 8)

/-- The body of a MEM record: the address in [39:0], and the data bytes right after it (R324). -/
def memBody (a : Nat) (bs : List Byte) : List Nat := bodyWords (leBytes 5 (a % 2 ^ 40) ++ bs)

/-- A record of the render beam at its present position. -/
def State.recRender (s : State) (h type args : Nat) (body : List Nat) : State :=
  let q := s.head h
  s.record h (recHead type (body.length + 1) q.line q.recSpan 0 args :: body)

/-- A record of the scan beam at its present position. -/
def State.recScan (s : State) (h type args : Nat) (body : List Nat) : State :=
  let q := s.head h
  s.record h (recHead type (body.length + 1) q.scan q.recSpan 1 args :: body)

/-- Blocks a head's journal holds (R320). -/
def State.journalCap (s : State) : Nat := (s.plan.houseGranules - 2) * 32768

/-- The address of a place of head h's journal in the house region (R416). -/
def State.blockAddr (s : State) (h place : Nat) : Nat :=
  s.houseFirst + h * ((s.plan.houseGranules - 2) * 0x8000000) + place % s.journalCap * 4096

/-- Blocks counted forward from one SEQ to another, modulo 2^32. -/
def seqGap (a b : Nat) : Nat := (b + 2 ^ 32 - a % 2 ^ 32) % 2 ^ 32

/-- SEQ of the oldest block a journal holds, or of its next block where it holds none. -/
def Journal.oldest (j : Journal) : Nat := (j.seq + 2 ^ 32 - j.count) % 2 ^ 32

/-- The address of the sealed block `seq` of head h, where its journal still holds it (R320, R416). -/
def State.blockOf (s : State) (h seq : Nat) : Option Nat :=
  let j := s.journal h
  let back := seqGap seq j.seq
  if back = 0 || j.count < back || 2 ^ 32 ≤ seq then none else some (s.blockAddr h (j.place + s.journalCap - back))

/-- Eight bytes of memory as a number, 0 where the word is marked uncorrectable (R427). -/
def State.goodWord (s : State) (a : Nat) : Nat := if s.marked a 8 then 0 else s.loadN a 8

/-- Bytes of memory, 0 in the words that are marked uncorrectable (R427). -/
def State.goodBytes (s : State) (a n : Nat) : List Byte :=
  let bs := s.bytes a n
  if s.marked a n then bs.zipIdx.map fun e => if s.marked (a + e.2) 1 then 0 else e.1 else bs

/-- A block of the journal (R321). -/
def blockBytes (seq head used tb fnum prev : Nat) (body : List Byte) : List Byte :=
  let front := leBytes 4 seq ++ leBytes 1 head ++ leBytes 1 1 ++ leBytes 2 used ++ leBytes 8 tb ++ leBytes 4 fnum
    ++ leBytes 4 prev ++ leBytes 4 0
  let rest := (body ++ List.replicate 4064 0).take 4064
  front ++ leBytes 4 (crc32c (front ++ leBytes 4 0 ++ rest)) ++ rest

/-- The CRC field of a block. -/
def blockCrc (b : List Byte) : Nat := leNat ((b.drop 28).take 4)

/-- A block is opened by its first record, and one without records is never sealed: R321 says neither (DESIGN CHOICE, log 102).
The open block of a head is sealed: the records that fit in it leave the buffer, and the block takes its place in the house
region, over the oldest one where the journal is full (R320, R321). -/
def State.sealBlock (s : State) (h : Nat) : State :=
  let j := s.journal h
  if j.open_.isEmpty then s
  else
    let n := packLen j.open_.length j.open_ 0
    let body := (j.open_.take n).flatMap fun w => leBytes 8 w.toNat
    let blk := blockBytes j.seq h body.length j.openTb j.openFnum j.prevCrc body
    let rest := j.open_.drop n
    let s := (s.poke (s.blockAddr h j.place) blk).setJournal h { j with
      open_ := rest, isOpen := !rest.isEmpty, openTb := s.tb.toNat, openFnum := (s.head h).fnum,
      seq := (j.seq + 1) % 2 ^ 32, prevCrc := blockCrc blk, place := (j.place + 1) % s.journalCap
      count := min s.journalCap (j.count + 1) }
    s.wrN (kHead h 0x10018) j.seq

/-- Whole blocks are sealed while more than one block of records waits; used by the records of a checkpoint. -/
def State.sealFull (s : State) (h : Nat) : Nat → State
  | 0 => s
  | fuel + 1 =>
    if (s.journal h).open_.length ≤ 508 then s else (s.sealBlock h).sealFull h fuel

/-- A checkpoint's record: it enters the journal whatever waits, full blocks being sealed before it. -/
def State.recordCkpt (s : State) (h : Nat) (words : List Nat) : State :=
  let s := s.sealFull h 32
  let j := s.journal h
  let j := if j.isOpen then j else { j with isOpen := true, openTb := s.tb.toNat, openFnum := (s.head h).fnum }
  s.setJournal h { j with open_ := j.open_ ++ words.map fun w => BitVec.ofNat 64 w }

/-- Once room returns, a GAP record is written and the tally records an L0 note (R327). -/
def State.gapRecord (s : State) (h : Nat) : State :=
  let j := s.journal h
  if j.lost = 0 || 8192 < j.open_.length + 2 then s
  else
    let s := s.setJournal h { j with lost := 0 }
    let s := s.recRender h 0x0E 0 [j.lostFnum % 2 ^ 32 * 2 ^ 32 + j.lost % 2 ^ 32]
    s.report 0x0E (0x0400 + h) (scopeOf (s.plan.headBench h)) (s.rdN (kHead h 0x10020))

/-! ### Watched memory -/

/-- A byte of asset memory lies in a watched range of head h (R325, R330, R336). -/
def State.watched (s : State) (h a : Nat) : Bool :=
  match s.plan.headBench h with
  | none => false
  | some b => s.assetHeld b a
      && (s.journal h).watch.any fun w => decide (w.1 * 4096 ≤ a) && decide (a < (w.1 + w.2) * 4096)

/-- The MEM records of one write of at most 64 bytes that lies within a 64-byte line. -/
def State.recMem (s : State) (a : Nat) (bs : List Byte) : State :=
  (List.range 8).foldl (fun t h =>
    if t.watched h a then
      t.recRender h 0x07 (bs.length - 1) (memBody a bs)
    else t) s

/-- The MEM records of a write, split at 64-byte boundaries (R325). -/
def State.recMemAll (s : State) (a : Nat) (bs : List Byte) : Nat → State
  | 0 => s
  | fuel + 1 =>
    if bs.isEmpty then s
    else
      let n := min bs.length (64 - a % 64)
      (s.recMem a (bs.take n)).recMemAll (a + n) (bs.drop n) fuel

/-- Bytes stored in memory by any requester, with the MEM records of asset memory that a head watches (R325). -/
def State.memStore (s : State) (a : Nat) (bs : List Byte) : State :=
  let t := s.poke a bs
  if 0x2000000000 ≤ a || s.journals.isEmpty then t else t.recMemAll a bs (bs.length / 64 + 2)

/-! ### A checkpoint asked for -/

/-- CKPT_REQ is ignored while a checkpoint is running (R334). -/
def State.ckptAsk (s : State) (h : Nat) : State :=
  let j := s.journal h
  if j.ckptRun then s else s.setJournal h { j with ckptReq := true }

/-! ### Draining (R331) -/

/-- log2 of the drain buffer's blocks, as it acts. -/
def State.drainLog (s : State) (h : Nat) : Nat := max 4 (min 16 (s.fld (kHead h 0x10030) 4 0))

/-- DRAIN_PROD or DRAIN_CONS as it acts and reads: bits above SIZE ignored (R75, R331). -/
def State.drainIdx (s : State) (h off : Nat) : Nat := s.fld (kHead h off) 16 0 % 2 ^ (s.drainLog h + 1)

/-- A sealed block is copied to the drain buffer, or the drain skips, waits or stops (R331). -/
def State.drainBlock (s : State) (h : Nat) : State :=
  let j := s.journal h
  if !s.bit (kHead h 0x10030) 31 || j.drainStop then s
  else
    let size := 2 ^ s.drainLog h
    let prod := s.drainIdx h 0x10034
    if (prod + 2 * size - s.drainIdx h 0x10038) % (2 * size) = size then s
    else match s.plan.headBench h with
      | none => s
      | some b =>
        let behind := seqGap j.drainNext j.oldest
        let skip := decide (behind ≠ 0) && decide (behind < 2 ^ 31)
        let next := if skip then j.oldest else j.drainNext
        let s := if skip then s.addSat (kHead h 0x1003C) 31 0 behind else s
        let s := s.setJournal h { s.journal h with drainNext := next }
        match s.blockOf h next with
        | none => s
        | some src =>
          let a := (s.rd64 (kHead h 0x10028) + 4096 * (prod % size)) % 2 ^ 40
          if !s.rangeHeld b a 4096 then
            ((s.hole b).setB (kHead h 0x10014) 29 true).setJournal h { s.journal h with drainStop := true }
          else
            let s := (s.meets src 4096).memStore a (s.goodBytes src 4096)
            let s := s.setJournal h { s.journal h with drainNext := (next + 1) % 2 ^ 32 }
            s.wrN (kHead h 0x10034) ((prod + 1) % (2 * size))

/-- A write of DRAIN_CTL: EN written 0 ends a stop at a hole, so that writing it 1 again goes on (R331). -/
def State.drainCtl (s : State) (h : Nat) (v : Word) (be : Nat) : State :=
  let t := s.store (kHead h 0x10030) v be
  if t.bit (kHead h 0x10030) 31 then t else t.setJournal h { t.journal h with drainStop := false }

/-- The drain position back at the oldest block present (R331). -/
def State.drainRewind (s : State) (h : Nat) : State :=
  let j := s.journal h
  s.setJournal h { j with drainStop := false, drainNext := j.oldest }

end Sys2Proof.Machine
end

