-- ==== Sys2Proof/Machine/Rings.lean ====
section
/-!
DEFINITION. Rings, doorbells, the ring-head cache, completions and events, and the scene-core mailboxes (R73 to R90, R115,
R116).
-/
namespace Sys2Proof.Machine

/-- RINGg_CTL and RINGg_BASE in effect: as they stood when the ring was last enabled (R81). -/
def State.ringNowOf (s : State) (g : Nat) : Word × Nat := Sparse.get (fun _ => (0, 0)) s.ringNow g
/-- log2 of a ring's entries: 4 to 16 (R81). -/
def State.ringLog (s : State) (g : Nat) : Nat := max 4 (min 16 (wfld (s.ringNowOf g).1 27 23))
/-- A ring's port (R76). -/
def State.ringPort (s : State) (g : Nat) : Nat := wfld (s.ringNowOf g).1 22 20
/-- The scene core of a mailbox ring (R81). -/
def State.ringTarget (s : State) (g : Nat) : Nat := wfld (s.ringNowOf g).1 19 15
/-- A ring is enabled. -/
def State.ringOn (s : State) (g : Nat) : Bool := s.bit (kRing g 8) 31
/-- A ring has stopped on an error. -/
def State.ringErr (s : State) (g : Nat) : Bool := s.bit (kRing g 0x18) 3
/-- Indices count modulo 2 · 2^SIZE (R75). -/
def State.ringMod (s : State) (g : Nat) : Nat := 2 * 2 ^ s.ringLog g
/-- The producer index in effect. -/
def State.ringProd (s : State) (g : Nat) : Nat := s.rdN (kRing g 0xC) % s.ringMod g
/-- The consumer index in effect. -/
def State.ringCons (s : State) (g : Nat) : Nat := s.rdN (kRing g 0x10) % s.ringMod g
/-- What the indices of a ring count modulo as RINGg_CTL holds SIZE: that of an enabled ring is in effect (R75, R81). -/
def State.ringSpan (s : State) (g : Nat) : Nat := 2 * 2 ^ max 4 (min 16 (s.fld (kRing g 8) 27 23))
/-- An index as it reads: the bits above bit SIZE read 0 (R75). -/
def State.ringShown (s : State) (g off : Nat) : Nat := s.rdN (kRing g off) % s.ringSpan g
/-- Entries waiting (R75). -/
def State.ringWaiting (s : State) (g : Nat) : Nat :=
  (s.ringProd g + s.ringMod g - s.ringCons g) % s.ringMod g
/-- A ring is full (R75). -/
def State.ringFull (s : State) (g : Nat) : Bool := s.ringWaiting g == 2 ^ s.ringLog g
/-- The ring is written by the module: a completion or event ring (R76). -/
def State.ringOut (s : State) (g : Nat) : Bool := s.ringPort g == 3 || s.ringPort g == 4
/-- The address of entry i (R74). -/
def State.ringAddr (s : State) (g i : Nat) : Nat := (s.ringNowOf g).2 / 64 * 64 + 64 * (i % 2 ^ s.ringLog g)
/-- The ring lies in host memory. -/
def State.ringHost (s : State) (g : Nat) : Bool := nbit (s.ringNowOf g).1.toNat 30

/-- A bench's local ring d by its global number, if the bench holds it (R73). -/
def State.ringOf (s : State) (b d : Nat) : Option Nat :=
  if (s.plan.bench b).present ∧ d < (s.plan.bench b).rings then some (s.plan.ringFirst b + d) else none

/-- RINGg_STAT as it reads: DRAINED and FULL are live, LOST is kept (R81). -/
def State.ringStat (s : State) (g : Nat) : Word :=
  setBit (setBit (s.rd (kRing g 0x14)) 31 (s.cached g).isEmpty) 30 (s.ringOut g && s.ringFull g)

/-- A ring stops on an error (R85). -/
def State.ringFail (s : State) (g code : Nat) : State :=
  let s := (s.setB (kRing g 0x18) 3 true).setF (kRing g 0x18) 2 0 code
  s.report 0x03 (0x0500 + g % 256) (scopeOf (s.plan.ringBench g)) g

/-- An index as a write leaves it: the bits above bit SIZE, as RINGg_CTL holds it, are ignored (R75, R88). -/
def State.ringCut (s : State) (g ptr : Nat) : Nat := ptr % s.ringSpan g

/-- The software write of a ring's indices: a doorbell (R76, R82). -/
def State.doorbell (s : State) (g ptr : Nat) : State :=
  let v := s.ringCut g ptr
  match s.ringPort g with
  | 0 => s.wrN (kRing g 0xC) v
  | 1 => s.wrN (kRing g 0xC) v
  | 2 => s.wrN (kRing g 0xC) v
  | 3 => s.wrN (kRing g 0x10) v
  | 4 => s.wrN (kRing g 0x10) v
  | _ => s

/-- A write of RINGg_PROD or RINGg_CONS (R81): the port's own index acts as its doorbell; the other is ignored while EN
is 1. On a disabled ring either index may be set (R88), also where its PORT is reserved and a doorbell has no effect (R76; DESIGN
CHOICE, log 87). -/
def State.ringIndexWrite (s : State) (g : Nat) (prod : Bool) (v : Word) : State :=
  let n := wfld v 16 0
  let own : Bool := if s.ringOut g then !prod else prod
  if own && decide (s.ringPort g < 5) then s.doorbell g n
  else if s.ringOn g then s
  else s.wrN (kRing g (if prod then 0xC else 0x10)) (s.ringCut g n)

/-- The ring's port serves nothing: reserved, or the mailbox of a core the bench does not hold (R76, R81). -/
def State.ringPortBad (s : State) (g : Nat) : Bool :=
  decide (5 ≤ s.ringPort g) ||
    (s.ringPort g == 0 && !(s.plan.coreBench (s.ringTarget g) == s.plan.ringBench g))

/-- Writing 1 to RINGg_ERR.ERR: the ring resumes from its indices as they stand, and CODE reads "no error" (R81, R85). A port that
serves nothing stops an enabled ring again with code PORT (DEDUCED: the cause still stands). -/
def State.ringErrClear (s : State) (g : Nat) : State :=
  if !s.ringErr g then s
  else
    let t := (s.setB (kRing g 0x18) 3 false).setF (kRing g 0x18) 2 0 0
    if t.ringOn g && t.ringPortBad g then t.ringFail g 5 else t

/-- EN of a ring changes from 0 to 1: CTL and BASE take effect, and the indices are cut to SIZE (R75, R81). -/
def State.ringEnter (s : State) (g : Nat) : State :=
  let s := { s with ringNow := Sparse.set (fun _ => (0, 0)) s.ringNow g (s.rd (kRing g 8), s.rd64 (kRing g 0)) }
  (s.wrN (kRing g 0xC) (s.ringProd g)).wrN (kRing g 0x10) (s.ringCons g)

/-- A write of RINGg_CTL (R81, R88): LOC, SIZE, PORT and TARGET change only while EN is 0 and DRAINED is 1, and take effect when the
ring is enabled; enabling a reserved port, or a mailbox of a core the bench does not hold, stops the ring with code PORT. -/
def State.ringCtl (s : State) (g : Nat) (v : Word) : State :=
  let old := s.rd (kRing g 8)
  let free := !nbit old.toNat 31 && (s.cached g).isEmpty
  let mask : Word := if free then 0xFFFFFFFC else 0xB0007FFC
  let new := (old &&& ~~~mask) ||| (v &&& mask)
  let t := s.wr (kRing g 8) new
  if !nbit old.toNat 31 && nbit new.toNat 31 then
    let t := t.ringEnter g
    if t.ringPortBad g then t.ringFail g 5 else t
  else t

/-- The cache entries of a bench's share in use (R84). -/
def State.shareUsed (s : State) (b : Nat) : Nat :=
  (s.ringCache.filter fun e => s.plan.ringBench e.1 == some b).foldl (fun n e => n + e.2.length) 0

/-- How many of bench b's rings pass a test. -/
def State.ringsOf (s : State) (b : Nat) (p : Nat → Bool) : Nat :=
  ((List.range (s.plan.bench b).rings).filter fun d => p (s.plan.ringFirst b + d)).length

/-- Entries of a bench's share that fetches beyond a ring's first leave free: one for each enabled ring with entries waiting (R84). -/
def State.ringReserve (s : State) (b : Nat) : Nat := s.ringsOf b fun g => s.ringOn g && !s.ringOut g && s.ringWaiting g != 0

/-- A ring may fetch another entry into the cache (R84). -/
def State.ringRoom (s : State) (b g : Nat) : Bool :=
  let share := 2 * (s.plan.bench b).rings
  let used := s.shareUsed b
  decide ((s.cached g).length < 64) && decide (used < share)
    && ((s.cached g).isEmpty || decide (used + s.ringReserve b < share))

/-- The units that rings feed run: not in Doze, Standby, Service or Closing. -/
def Mode.ringsRun : Mode → Bool
  | .opening | .run | .hold | .limp => true
  | _ => false

/-- The ring is fetching: enabled, bound to a consumer, in order, with entries waiting. -/
def State.ringFetching (s : State) (g : Nat) : Bool :=
  s.mode.ringsRun && !s.dozeAsk && s.ringOn g && !s.ringErr g && decide (s.ringPort g < 3) && s.ringWaiting g != 0

/-- A fetched entry enters the cache and CONS advances over it (R84). -/
def State.ringTake (s : State) (g : Nat) (entry : List Byte) : State :=
  let s := s.setCached g (s.cached g ++ [entry])
  s.wrN (kRing g 0x10) ((s.ringCons g + 1) % s.ringMod g)

/-- A fetch of ring g ends: the entry arrives, or the ring stops on an error (R81, R84, R85). `host` is what a read of
host memory brought back. -/
def State.ringFetch (s : State) (g : Nat) (host : HostRead) : State :=
  match s.plan.ringBench g with
  | none => s
  | some b =>
    if !(s.ringFetching g && s.ringRoom b g) then s
    else
      let a := s.ringAddr g (s.ringCons g)
      if s.ringHost g then
        if !(s.fn b).busMaster then s.ringFail g 1
        else match host with
          | .notHost => s
          | .data bs => s.ringTake g ((bs ++ List.replicate 64 0).take 64)
          | .poisoned => s.ringFail g 2
          | .refused => s.ringFail g 1
      else
        let a := a % 2 ^ 40
        if !(decide (a < 0x2000000000) && s.assetHeld b a) then (s.hole b).ringFail g 3
        else if s.marked a 64 then (s.meets a 64).ringFail g 2
        else (s.mends a 64).ringTake g (s.bytes a 64)

/-- A 64-byte entry of the module (R79). -/
def ringEntry (op phase tag src status tb : Nat) (detail : List Byte) : List Byte :=
  leBytes 8 (op + phase * 0x200 + tag % 65536 * 0x10000 + src % 4096 * 2 ^ 32 + status % 65536 * 2 ^ 48)
    ++ leBytes 8 tb ++ ((detail ++ List.replicate 48 0).take 48)

/-- A module-written ring accepts an entry now: held, enabled, of the port, in order and not full (R86). -/
def State.ringAccepts (s : State) (g port : Nat) : Bool :=
  s.ringOn g && !s.ringErr g && s.ringPort g == port && !s.ringFull g

/-- The module writes an entry to a module-written ring of bench b and then advances PROD (R79, R80); an address it cannot
write stops the ring (R81, R90). Answers whether the entry was written. -/
def State.ringPut (s : State) (b g op tag src status : Nat) (detail : List Byte) : Bool × State :=
  let phase := if s.ringProd g < 2 ^ s.ringLog g then 1 else 0
  let e := ringEntry op phase tag src status s.tb.toNat detail
  let a := s.ringAddr g (s.ringProd g)
  let next := (s.ringProd g + 1) % s.ringMod g
  if s.ringHost g then
    if !(s.fn b).busMaster then (false, s.ringFail g 1)
    else (true, (s.emit (.hostWrite b a e)).wrN (kRing g 0xC) next)
  else if decide (a % 2 ^ 40 < 0x2000000000) && s.assetHeld b (a % 2 ^ 40) then
    (true, (s.memStore (a % 2 ^ 40) e).wrN (kRing g 0xC) next)
  else (false, (s.hole b).ringFail g 4)

/-- LOST counts on a ring (R86). -/
def State.ringLost (s : State) (g : Nat) : State := s.incSat (kRing g 0x14) 15 0

/-- An event entry for event ring d of bench b; one that cannot be written is dropped and counts in LOST of that ring
(R76, R79, R86, R243). A number that names no ring of the bench names no ring to count on, so the entry is dropped without a
count (DESIGN CHOICE, log 87). -/
def State.ringEvent (s : State) (b d code src status : Nat) (detail : List Byte) : State :=
  match s.ringOf b d with
  | none => s
  | some g =>
    if s.ringAccepts g 4 then
      let (ok, t) := s.ringPut b g 2 code src status detail
      if ok then t else t.ringLost g
    else s.ringLost g

/-- The header fields of a submitted entry (R78). -/
def entryOp (e : List Byte) : Nat := (e.getD 0 0).toNat
def entryCpl (e : List Byte) : Bool := nbit (e.getD 1 0).toNat 0
def entryTag (e : List Byte) : Nat := leNat ((e.drop 2).take 2)
def entryArg (e : List Byte) : Nat := leNat ((e.drop 4).take 4)

/-- A consumer reports an entry of submission ring g done: with CPL set, a completion goes to the ring that CPL_RING names;
one that cannot be written counts in LOST of the submission ring (R78, R86). -/
def State.completeEntry (s : State) (g : Nat) (e : List Byte) (status : Nat) (detail : List Byte) : State :=
  if !entryCpl e then s
  else match s.plan.ringBench g with
    | none => s
    | some b =>
      match s.ringOf b (s.fld (kRing g 8) 14 3) with
      | none => s.ringLost g
      | some r =>
        if s.ringAccepts r 3 then
          let (ok, t) := s.ringPut b r 1 (entryTag e) (g - s.plan.ringFirst b) status detail
          if ok then t else t.ringLost g
        else s.ringLost g

/-- The rings with fetched entries that pass a test, in ring order. -/
def State.ringsWith (s : State) (p : Nat → Bool) : List Nat :=
  (s.ringCache.filter fun e => !e.2.isEmpty && p e.1).map (·.1)

/-- A ring's PRIO (R77, R81). -/
def State.ringPrio (s : State) (g : Nat) : Nat := s.fld (kRing g 8) 29 28

/-- Where the turns of a scene-core mailbox are kept, one for each PRIO (R77). -/
def mboxTurn (c : Nat) : Nat := 1000 + 4 * c
/-- Where the turns of bench b's rings at a shared port are kept, one for each PRIO. -/
def portTurn (port b : Nat) : Nat := 2000 + 16 * port + 4 * b

/-- The ring to deliver from: of the highest PRIO, the first after the one of that PRIO served last, in ring order (R77). `key` is
where the turns are kept. -/
def State.pickRing (s : State) (rings : List Nat) (key : Nat) : Option Nat :=
  let top := rings.foldl (fun p g => max p (s.ringPrio g)) 0
  let best := rings.filter fun g => s.ringPrio g == top
  match best.find? fun g => decide (s.turn (key + top) ≤ g) with
  | some g => some g
  | none => best.head?

/-- Ring g has had its turn. -/
def State.ringTurn (s : State) (key g : Nat) : State := s.setTurn (key + s.ringPrio g) (g + 1)

/-- The rings bound to a shared port of bench b that hold fetched entries. -/
def State.portRings (s : State) (port b : Nat) : List Nat :=
  s.ringsWith fun g => s.ringPort g == port && s.plan.ringBench g == some b

/-- The next entry at a shared port: one from each bench in turn (R77). -/
def State.portNext (s : State) (port : Nat) : Option (Nat × Nat × List Byte) :=
  let start := s.turn (100 + port)
  match ([0, 1, 2, 3].map fun k => (start + k) % 4).find? fun b => !(s.portRings port b).isEmpty with
  | none => none
  | some b =>
    match s.pickRing (s.portRings port b) (portTurn port b) with
    | none => none
    | some g => (s.cached g).head?.map fun e => (b, g, e)

/-- The entry just taken leaves the cache, and the turns move on. -/
def State.portTake (s : State) (port b g : Nat) : State :=
  ((s.setCached g (s.cached g).tail).setTurn (100 + port) ((b + 1) % 4)).ringTurn (portTurn port b) g

/-- A core is halted (CORE_STAT.HALTED). The Clerk has no control block: it is halted while its firmware does not run, and
after its own HALT until the watchdog restarts it. -/
def State.halted (s : State) (c : Nat) : Bool := if c < 40 then s.bit (kCore c 4) 0 else !s.clerkUp || (s.core c).frozen

/-- The queue manager delivers the next entry to scene core c's mailbox while FULL is 0 and the core is running or in WAIT
(R77, R115). -/
def State.mboxDeliver (s : State) (c : Nat) : State :=
  if s.halted c || s.bit (kWin c 0x170) 31 || s.mode == .hold || !s.mode.ringsRun then s
  else
    let rings := s.ringsWith fun g => s.ringPort g == 0 && s.ringTarget g == c &&
      s.plan.ringBench g == s.plan.coreBench c
    match s.pickRing rings (mboxTurn c) with
    | none => s
    | some g =>
      match s.cached g with
      | [] => s
      | e :: rest =>
        let s := (s.setCached g rest).ringTurn (mboxTurn c) g
        let s := (List.range 16).foldl (fun t i => t.wrN (kWin c (0x100 + 4 * i)) (leNat ((e.drop (4 * i)).take 4))) s
        let first := match s.plan.coreBench c with
          | some b => s.plan.ringFirst b
          | none => 0
        s.wrN (kWin c 0x170) (2 ^ 31 + (g - first) % 4096)

/-- A write to MBOX_DONE (R116): it is ignored while FULL is 0; otherwise FULL clears, and a completion with STATUS and
DETAIL from MBOX_REPLY follows when CPL was set. -/
def State.mboxDone (s : State) (c status : Nat) : State :=
  if !s.bit (kWin c 0x170) 31 then s
  else
    let e := (List.range 16).flatMap fun i => leBytes 4 (s.rdN (kWin c (0x100 + 4 * i)))
    let detail := (List.range 12).flatMap fun i => leBytes 4 (s.rdN (kWin c (0x140 + 4 * i)))
    let s' := s.setB (kWin c 0x170) 31 false
    match s.plan.coreBench c with
    | none => s'
    | some b => s'.completeEntry (s.plan.ringFirst b + s.fld (kWin c 0x170) 11 0) e status detail

/-- QMGR_INFO for a bench (R81). -/
def State.qmgrInfo (s : State) (b : Nat) : Nat :=
  if (s.plan.bench b).present then s.plan.ringFirst b * 0x10000 + (s.plan.bench b).rings else 0

/-- QMGR_CACHE for a bench (R81, R84). -/
def State.qmgrCache (s : State) (b : Nat) : Nat :=
  if (s.plan.bench b).present then 2 * (s.plan.bench b).rings * 0x10000 + s.shareUsed b % 65536 else 0

end Sys2Proof.Machine
end

