-- ==== Sys2Proof/Machine/Cores.lean ====
section
/-!
DEFINITION. Core control (R97, R98, R116 to R120, R170, R182 to R185): the register window, RUN, HALT and STEP, halts, and
the line-core registers.
-/
namespace Sys2Proof.Machine

/-- PC of a core (R98): CORE_PC shows it for a halted core. -/
def State.pc (s : State) (c : Nat) : Nat := s.rd64 (kWin c 0) % 2 ^ 40
/-- PC replaced; bit 0 stays 0. -/
def State.setPc (s : State) (c a : Nat) : State := s.wr64 (kWin c 0) (a % 2 ^ 40 / 2 * 2)

/-- The head a core number serves, for a line core. -/
def lineHead (c : Nat) : Option Nat := if 32 ≤ c ∧ c < 40 then some (c - 32) else none

/-- CORE_ID of a core (R98). -/
def coreId (c : Nat) : Nat := if c < 32 then c else if c < 40 then 0x40 + (c - 32) else 0x80

/-- Clocks that the core spends inside a line's occupancy (R184). -/
def State.spend (s : State) (c n : Nat) : State :=
  let q := s.core c
  if q.counting then s.setCore c { q with clocks := q.clocks + n } else s

/-- The occupancy of a line ends here: the core begins a beam wait, halts or holds (R184). -/
def State.occEnd (s : State) (c : Nat) : State :=
  let q := s.core c
  if q.counting then
    let s := s.setCore c { q with counting := false, clocks := 0 }
    s.setF (kCore c 0x48) 23 0 (max (s.fld (kCore c 0x48) 23 0) (min q.clocks 0xFFFFFF))
  else s

/-- Offers to a scene core that stops being eligible are withdrawn (R460, R463). -/
def State.offersDrop (s : State) (c : Nat) : State :=
  { s with srcs := s.srcs.map fun e => if e.2.st == .offered c then (e.1, { e.2 with st := .pending }) else e }

/-- A core halts with a code (R116, R118): its wait, repeat and requests end, its registers stay. The Clerk has no CORE_STAT.
An instruction whose write waits at the beam port has issued it, and completes: the core halts after it, and the write stays at
the port (R33, R92, R176; DEDUCED, log 88). What a repeat's earlier iteration wrote to PC is dropped, and so is a pending LATE
(DESIGN CHOICE, logs 23 and 88). A scene core that halts loses an offer (R459, R463). -/
def State.haltCore (s : State) (c code : Nat) : State :=
  let s := s.occEnd c
  let s := if (s.core c).wait == .port then s.setPc c (s.core c).waitNext else s
  let q := s.core c
  let s := s.setCore c { q with
    wait := .none, rep := none, haltAsk := 0, stepArm := false, jump := none, cntHit := false, late := false
    frozen := decide (40 ≤ c) }
  let s := if c < 32 then s.offersDrop c else s
  if c < 40 then (s.setB (kCore c 4) 0 true).setF (kCore c 4) 15 8 code else s

/-- A halted core starts: by STEP at once, by RUN at CORE_PC, a line core holding for its beam (R117, R170). START_FRAME is looked
at here, and a later write of it changes no hold under way (DESIGN CHOICE, log 88). -/
def State.startCore (s : State) (c : Nat) (step : Bool) : State :=
  let q := s.core c
  let hold : CoreWait := if 32 ≤ c && !step then .hold (s.bit (kCore c 0x40) 1) else .none
  (s.setCore c { q with wait := hold, stepArm := step, haltAsk := 0, moved := false }).setB (kCore c 4) 0 false

/-- The bench of a scene core or line core. -/
def State.coreNumBench (s : State) (c : Nat) : Option Nat :=
  if c < 32 then s.plan.coreBench c else s.plan.headBench (c - 32)

/-- A core has reported ready (R530): CORE_RDY of a scene core; a line core follows its bench's other units of the same step. -/
def State.coreReady (s : State) (c : Nat) : Bool :=
  match s.coreNumBench c with
  | some b => if c < 32 then s.bit (kBench b 0x10) c else s.bit (kBench b 0x14) 15 && !s.badCores.contains c
  | none => false

/-- A write of CORE_CTL (R94, R117, R530). -/
def State.coreCtl (s : State) (c : Nat) (v : Word) : State :=
  let run := nbit v.toNat 0
  let halt := nbit v.toNat 1
  let step := nbit v.toNat 2
  if s.halted c then
    if halt || !(run || step) || !s.coreReady c then s
    else if s.bit (kCore c 4) 2 then
      match s.coreNumBench c with
      | some b => s.ignoredStart b
      | none => s
    else s.startCore c (!run)
  else if halt then s.setCore c { s.core c with haltAsk := 1 }
  else s

/-- A core is stalled inside the instruction it is in (R105, R131, R176). -/
def CoreWait.inside : CoreWait → Bool
  | .fill _ | .port | .behind _ => true
  | _ => false

/-- A halt that has been asked for is taken at a boundary; a core stalled inside an instruction is not at one (R33,
R117, R160). -/
def State.haltTaken (s : State) (c : Nat) : State :=
  let q := s.core c
  if s.halted c || q.haltAsk == 0 || q.frozen || q.wait.inside then s
  else s.haltCore c q.haltAsk

/-- CORE_STAT as it reads: WAIT is live (R116, R136). -/
def State.coreStat (s : State) (c : Nat) : Word :=
  setBit (s.rd (kCore c 4)) 1 ((s.core c).wait != .none && !(s.core c).wait.inside)

/-- LINE and SPAN as a core's window shows them (R98, R165). -/
def State.beamOf (s : State) (c : Nat) : Nat × Nat :=
  match lineHead c with
  | some h => ((s.head h).line, (s.head h).span)
  | none => (0, 0)

/-- A word of a core's register window as it reads (R97, R98, R116). -/
def State.winRead (s : State) (c off : Nat) : Word :=
  if off = 0x28 then BitVec.ofNat 32 (s.beamOf c).1
  else if off = 0x2C then BitVec.ofNat 32 (s.beamOf c).2
  else if off = 0xA4 then BitVec.ofNat 32 (coreId c)
  else if 0x100 ≤ off && (32 ≤ c || 0x174 ≤ off) then 0
  else s.rd (kWin c off)

/-- A write of one word of a core's register window under byte enables (R97, R98, R116); `own`: by the core's own
instruction, whose write of PC acts as a jump (R98). -/
def State.winWrite (s : State) (c off : Nat) (v : Word) (be : Nat) (own : Bool) : State :=
  if 0x100 ≤ off && 32 ≤ c then s
  else if off = 0x174 then
    s.mboxDone c (v.toNat % 65536 &&& ((if nbit be 0 then 0xFF else 0) + (if nbit be 1 then 0xFF00 else 0)))
  else if own && (off = 0 || off = 4) then
    let q := s.core c
    let cur := match q.jump with
      | some j => j
      | none => s.pc c
    let lo := BitVec.ofNat 32 cur
    let hi := BitVec.ofNat 32 (cur / 2 ^ 32)
    let m : Nat := 0xFFFFFFFF
    let new := if off = 0 then (storeWord lo v be m 0).toNat + hi.toNat * 2 ^ 32
      else lo.toNat + (storeWord hi v be 0xFF 0).toNat * 2 ^ 32
    s.setCore c { q with jump := some (new % 2 ^ 40) }
  else if own && off = 0x1C then (s.store (kWin c off) v be).setCore c { s.core c with cntHit := true }
  else s.store (kWin c off) v be

/-- A word of CORE_WIN as it reads: 0 while the core runs (R116). -/
def State.coreWinRead (s : State) (c off : Nat) : Word := if s.halted c then s.winRead c off else 0

/-- A write of a word through CORE_WIN: ignored while the core runs (R116). -/
def State.coreWinWrite (s : State) (c off : Nat) (v : Word) (be : Nat) : State :=
  if s.halted c then s.winWrite c off v be false else s

/-- Bytes under byte enables, each at its address. -/
def State.pokeEn (s : State) (a : Nat) (v : Word) (be : Nat) : State :=
  if be % 16 = 15 then s.poke a (leBytes 4 v.toNat)
  else (List.range 4).foldl (fun t i =>
    if nbit be i then { t with mem := putBytes t.mem (a + i) [BitVec.ofNat 8 (v.toNat >>> (8 * i))] } else t) s

/-- A write of LC_LOAD_DATA: the word goes to line memory at ADDR, and ADDR advances by 4, wrapping at 32 KiB (R116). -/
def State.lcLoad (s : State) (h : Nat) (v : Word) (be : Nat) : State :=
  let k := kCore (32 + h) 0x20
  let a := s.fld k 14 2 * 4
  (s.pokeEn (0x2001000000 + h * 0x10000 + a) v be).setF k 14 2 (a / 4 + 1)

/-- LC_BEAM_POS (R185). -/
def State.beamPos (s : State) (h : Nat) : Nat :=
  let q := s.head h
  (if q.run = 2 then 2 ^ 31 else 0) + q.line % 8192 * 65536 + q.span % 64

/-- A word of core c's control block as it reads (R116, R185). -/
def State.coreBlockRead (s : State) (c off : Nat) : Word :=
  if off = 0x0 then 0
  else if off = 0x4 then s.coreStat c
  else if off = 0x8 then BitVec.ofNat 32 (s.pc c)
  else if off = 0xC then BitVec.ofNat 32 (s.pc c / 2 ^ 32)
  else if 0x800 ≤ off && off < 0xA00 then s.coreWinRead c (off - 0x800)
  else if c < 32 then 0
  else if off = 0x24 then 0
  else if off = 0x50 then BitVec.ofNat 32 (s.beamPos (c - 32))
  else s.rd (kCore c off)

/-- A write of a word of core c's control block (R116, R117, R185). -/
def State.coreBlockWrite (s : State) (c off : Nat) (v : Word) (be : Nat) : State :=
  if off = 0x0 then (if nbit be 0 then s.coreCtl c v else s)
  else if off = 0x8 || off = 0xC then (if s.halted c then s.store (kWin c (off - 8)) v be else s)
  else if 0x800 ≤ off && off < 0xA00 then s.coreWinWrite c (off - 0x800) v be
  else if c < 32 then s
  else if off = 0x24 then s.lcLoad (c - 32) v be
  else s.store (kCore c off) v be

/-- A core back in its reset state (R120). -/
def State.resetCore (s : State) (c : Nat) : State :=
  let s := s.clearRegs (kWin c 0) 0x10000
  let s := if c < 40 then s.clearRegs (kCore c 0) 0x1000 else s
  s.setCore c Core.reset

/-- A line core held for its beam begins at a line boundary of its head; with START_FRAME, at the one at which LINE takes 0 (R170).
A hold is no beam wait, so that no occupancy begins (R184). -/
def State.holdLeave (s : State) (c : Nat) : State :=
  let q := s.core c
  match q.wait with
  | .hold _ => if s.halted c || q.frozen || !q.moved then s else s.setCore c { q with wait := .none }
  | _ => s

/-- The beam wait that line core c completed at once, where the core has done nothing since. -/
def State.justWaited (s : State) (c : Nat) : Option (CoreWait × Nat × Nat) :=
  let q := s.core c
  if s.halted c || q.frozen || q.wait != .none then none
  else q.atOnce.bind fun w => if s.pc c == w.2.2 % 2 ^ 40 / 2 * 2 then some w else none

/-- LINE changes while a wait that completed at once is all that core c has done: no command says whether the change came in the clock
in which that wait began, so that is free (log 99). Where it did, the wait sees the change: it waits again, for what LINE and SPAN now
give (R186). -/
def State.seeChange (s : State) (c : Nat) : State :=
  match s.justWaited c with
  | none => s
  | some (w, at_, next) =>
    let (v, t) := s.fresh
    let t := t.setCore c { t.core c with atOnce := none }
    if v % 2 = 0 then (t.setPc c at_).setCore c { t.core c with wait := w, waitNext := next } else t

/-- LINE of head h has changed: a wait of its line core sees it (R137, R167, R170), also one that began in the same clock (R186), and
while the core runs the change is late: counted, and a LATE made pending (R182, R183). -/
def State.lineChange (s : State) (h : Nat) : State :=
  let c := 32 + h
  let s := s.seeChange c
  let q := s.core c
  let late : Bool := !s.halted c && !q.frozen && (match q.wait with
    | .waitl _ | .waits _ _ | .waitn | .hold _ => false
    | _ => true)
  let moved : Bool := match q.wait with
    | .hold true => (s.head h).line == 0
    | _ => true
  let s := if late then (s.incSat (kCore c 0x44) 31 16).setF (kCore c 0x44) 12 0 (s.head h).line else s
  s.setCore c { s.core c with late := q.late || late, moved := moved }

end Sys2Proof.Machine
end

