-- ==== Sys2Proof/Machine/Tiles.lean ====
section
/-!
DEFINITION. A head's timing fields, layer slots, pixel formats and tile planes (R188 to R215, R244 to R246).
-/
namespace Sys2Proof.Machine

/-! ### Timing fields, as copied at the start of the head (R280, R304) -/

/-- Word i of the copied timing: HTIME, HSYNC, VTIME, VSYNC, DOTDIV, LEAD, OUT. -/
def Head.timing (q : Head) (i : Nat) : Word := q.copy.getD i 0
def Head.htotal (q : Head) : Nat := wfld (q.timing 0) 29 16
def Head.hact (q : Head) : Nat := wfld (q.timing 0) 11 0
def Head.vtotal (q : Head) : Nat := wfld (q.timing 2) 29 16
def Head.vact (q : Head) : Nat := wfld (q.timing 2) 11 0
def Head.vactStart (q : Head) : Nat := wfld (q.timing 3) 28 16
def Head.dotDiv (q : Head) : Nat := (q.timing 4).toNat
/-- RLEAD as it acts: 0 acts as 1, values above 4 as 4 (R304). -/
def leadOf (w : Word) : Nat := max 1 (min 4 (wfld w 2 0))
/-- BPREF as it acts: values above 4 as 4 (R304). -/
def prefOf (w : Word) : Nat := min 4 (wfld w 6 4)
def Head.rlead (q : Head) : Nat := leadOf (q.timing 5)
def Head.bpref (q : Head) : Nat := prefOf (q.timing 5)
/-- NSPAN (R163). -/
def Head.nspan (q : Head) : Nat := ceilDiv q.hact 64
/-- The parts of a line, or of a frame in lines (R276). -/
inductive BeamPart where
  | active
  | front
  | sync
  | back
deriving DecidableEq, Repr

/-- The part of a line at dot position h: active pixels, front porch, sync, back porch (R276). -/
def Head.hPart (q : Head) (h : Nat) : BeamPart :=
  let hfp := wfld (q.timing 1) 12 0
  let hsw := wfld (q.timing 1) 28 16
  if h < q.hact then .active
  else if h < q.hact + hfp then .front
  else if h < q.hact + hfp + hsw then .sync else .back

/-- The part of a frame that line l lies in (R276); extension lines belong to the front porch (R277). -/
def Head.vPart (q : Head) (l : Nat) : BeamPart :=
  if l < wfld (q.timing 3) 12 0 then .sync
  else if l < q.vactStart then .back
  else if l < q.vactStart + q.vact then .active else .front

/-- The level of horizontal sync at dot position h, and of vertical sync on line l, with the polarity of HPOL and VPOL (R276). -/
def Head.hSync (q : Head) (h : Nat) : Bool := (q.hPart h == .sync) != nbit (q.timing 1).toNat 31
def Head.vSync (q : Head) (l : Nat) : Bool := (q.vPart l == .sync) != nbit (q.timing 3).toNat 31

/-- An active line (R3, R276). -/
def Head.activeLine (q : Head) (l : Nat) : Bool := decide (q.vactStart ≤ l) && decide (l < q.vactStart + q.vact)

/-! ### Layer slots (R244 to R246) -/

/-- HEADn_LAYERm_CTL and its neighbours. -/
def kLayer (h m off : Nat) : Nat := kHead h (0x100 + 0x10 * m + off)

/-- The source named by slot m, 0 when the slot is disabled. -/
def State.slotNamed (s : State) (h m : Nat) : Nat :=
  if s.bit (kLayer h m 0) 31 then s.fld (kLayer h m 0) 30 27 else 0

/-- A slot acts as SRC 0x0 because its SRC is reserved or a duplicate (R244, R245). -/
def State.slotErr (s : State) (h m : Nat) : Bool :=
  let c := s.slotNamed h m
  decide (0xD ≤ c) || (c != 0 && c != 0xB && (List.range m).any fun k => s.slotNamed h k == c)

/-- The source a slot holds. -/
def State.slotSrc (s : State) (h m : Nat) : Nat := if s.slotErr h m then 0 else s.slotNamed h m

/-- The slot that holds a source. -/
def State.slotOf (s : State) (h src : Nat) : Option Nat := (List.range 8).find? fun m => s.slotSrc h m == src

/-- The surface slot (R266). -/
def State.surfSlot (s : State) (h : Nat) : Option Nat := s.slotOf h 0xC

/-- An empty extent. -/
def Extent.none : Extent := { left := 0, top := 0, w := 0, h := 0 }

/-- The extent that a slot's POS and SIZE give (R246). -/
def State.slotBox (s : State) (h m : Nat) : Extent :=
  let q := s.head h
  let x := s.fld (kLayer h m 4) 11 0
  let y := s.fld (kLayer h m 4) 27 16
  { left := x, top := q.vactStart + y, w := min (s.fld (kLayer h m 8) 11 0) (q.hact - x),
    h := min (s.fld (kLayer h m 8) 27 16) (q.vact - y) }

/-- A slot's extent (R246); a surface slot covers the active area. -/
def State.slotExtent (s : State) (h m : Nat) : Extent :=
  let q := s.head h
  if s.slotSrc h m == 0xC then { left := 0, top := q.vactStart, w := q.hact, h := q.vact } else s.slotBox h m

/-- The extent of the slot that holds a source; empty when no enabled slot holds it (R245). -/
def State.extentOf (s : State) (h src : Nat) : Extent :=
  match s.slotOf h src with
  | some m => s.slotExtent h m
  | none => Extent.none

/-- A line lies in an extent that is not empty. -/
def Extent.onLine (e : Extent) (l : Nat) : Bool := decide (e.top ≤ l) && decide (l < e.top + e.h) && decide (0 < e.w)
/-- A column lies in an extent. -/
def Extent.onCol (e : Extent) (x : Nat) : Bool := decide (e.left ≤ x) && decide (x < e.left + e.w)
/-- The number of render spans with a pixel of the extent (R208). -/
def Extent.spans (e : Extent) : Nat := if e.w = 0 then 0 else (e.left + e.w - 1) / 64 + 1 - e.left / 64

/-! ### Pixels (R190 to R192) -/

/-- The ARGB8888 word of a pixel. -/
def Argb.word (p : Argb) : Nat := p.a * 2 ^ 24 + p.r * 2 ^ 16 + p.g * 2 ^ 8 + p.b
/-- The pixel of an ARGB8888 word. -/
def argbOf (v : Nat) (pm : Bool) : Argb := { a := nfld v 31 24, r := nfld v 23 16, g := nfld v 15 8, b := nfld v 7 0, pm := pm }

/-- Bits per pixel of a format (R190). -/
def bppOf (fmt : Nat) : Nat :=
  match fmt with
  | 0 => 2
  | 1 => 4
  | 2 => 8
  | 3 | 4 | 5 => 16
  | _ => 32

/-- A 5-bit component widened to 8 bits. -/
def wide5 (v : Nat) : Nat := v * 8 + v / 4
/-- A 6-bit component widened to 8 bits. -/
def wide6 (v : Nat) : Nat := v * 4 + v / 16

/-- A direct-colour pixel converted (R192). -/
def directPix (fmt v : Nat) : Argb :=
  match fmt with
  | 3 => { a := 255, r := wide5 (nfld v 15 11), g := wide6 (nfld v 10 5), b := wide5 (nfld v 4 0), pm := false }
  | 4 => { a := 255 * nfld v 15 15, r := wide5 (nfld v 14 10), g := wide5 (nfld v 9 5), b := wide5 (nfld v 4 0), pm := false }
  | 5 => { a := 17 * nfld v 15 12, r := 17 * nfld v 11 8, g := 17 * nfld v 7 4, b := 17 * nfld v 3 0, pm := false }
  | 6 => argbOf v false
  | _ => argbOf v true

/-- Bytes that a fetch for head h brings: none when the address is blocked or the data is uncorrectable (R213, R214, R592). -/
def State.headLoad (s : State) (h a n : Nat) : Option Nat :=
  match s.plan.headBench h with
  | none => none
  | some b => if s.rangeHeld b a n && !s.marked (a % 2 ^ 40) n then some (s.loadN a n) else none

/-- Bytes of a fetch that fails as a whole: none where any word of their 32-byte unit is marked (R231, R260). The unit, that of the
charges of R236 and R258, is the model's choice (log 89). -/
def State.unitLoad (s : State) (h a n : Nat) : Option Nat :=
  if s.marked (a % 2 ^ 40 / 32 * 32) 32 then none else s.headLoad h a n

/-- Some byte of a range lies in a range of a list. -/
def inRanges (l : List (Nat × Nat)) (a n : Nat) : Bool := l.any fun r => decide (r.1 < a + n) && decide (a < r.1 + r.2)

/-- Bytes that a map or pattern fetch of head h's engine brings; none where a fetch of this line has returned bad data (R213). -/
def State.peLoad (s : State) (h a n : Nat) : Option Nat :=
  if inRanges (s.head h).peBad (a % 2 ^ 40) n then none else s.headLoad h a n

/-- Bytes that a sprite source fetch of head h's engine brings (R231). -/
def State.sprLoad (s : State) (h a n : Nat) : Option Nat :=
  if inRanges (s.head h).peBad (a % 2 ^ 40) n then none else s.unitLoad h a n

/-- The bytes that hold pixel i of a row: address and length (R191). -/
def pixBytes (row fmt i : Nat) : Nat × Nat := (row + i * bppOf fmt / 8, max 1 (bppOf fmt / 8))

/-- The raw value of pixel i in its bytes (R191). -/
def pixOf (fmt i v : Nat) : Nat :=
  let bpp := bppOf fmt
  if bpp < 8 then nfld v (i * bpp % 8 + bpp - 1) (i * bpp % 8) else v

/-- The raw value of pixel i of a row, by a load (R191). -/
def rawPix (load : Nat → Nat → Option Nat) (row fmt i : Nat) : Option Nat :=
  let (a, n) := pixBytes row fmt i
  (load a n).map (pixOf fmt i)

/-- A palette entry's colour: none for an entry with uncorrectable data (R196 to R198). -/
def State.palette (s : State) (h e : Nat) : Option Nat :=
  let k := kPe h (0x10000 + 4 * (e % 16384))
  if s.marked k 4 then none else some (s.rdN k)

/-- The colour of a raw pixel value; `base` is the entry number of value 0, `zo` ZERO_OPAQUE (R192, R197, R207). -/
def State.colourOf (s : State) (h fmt base : Nat) (pm zo : Bool) (raw : Option Nat) : Argb :=
  match raw with
  | none => Argb.clear
  | some v =>
    if 3 ≤ fmt then directPix fmt v
    else if v = 0 && !zo then Argb.clear
    else match s.palette h (base + v) with
      | none => Argb.clear
      | some w => argbOf w pm

/-! ### Tile planes -/

/-- A register of tile plane t of head h (R216). -/
def kTile (h t off : Nat) : Nat := kPe h (0x1000 + 0x100 * t + off)

def State.tEn (s : State) (h t : Nat) : Bool := s.bit (kTile h t 0) 31
def State.tMode (s : State) (h t : Nat) : Nat := s.fld (kTile h t 0) 30 29
def State.tSize (s : State) (h t : Nat) : Nat := s.fld (kTile h t 0) 28 27
def State.tFmt (s : State) (h t : Nat) : Nat := s.fld (kTile h t 0) 26 23
/-- Pattern width in pixels (R190). -/
def State.tw (s : State) (h t : Nat) : Nat := 8 * 2 ^ min 2 (s.tSize h t)
/-- log2 of the map width, held to 5 to 12 (R194). -/
def State.mapLogW (s : State) (h t : Nat) : Nat := max 5 (min 12 (s.fld (kTile h t 0) 22 19))
def State.mapLogH (s : State) (h t : Nat) : Nat := max 5 (min 12 (s.fld (kTile h t 0) 18 15))
/-- CAP as it acts (R204). -/
def State.tCap (s : State) (h t : Nat) : Nat := max 1 (min 64 (s.fld (kTile h t 0) 6 0))

/-- A configuration error of an enabled plane (R211). -/
def State.tCfgErr (s : State) (h t : Nat) : Bool :=
  s.tEn h t && (decide (2 ≤ s.tMode h t) || s.tSize h t == 3 || decide (8 ≤ s.tFmt h t)
    || (s.tMode h t == 1 && (s.tSize h t != 0 || decide (2 < s.tFmt h t))))

/-- The plane draws on a line: enabled, valid, and the line in its extent (R188, R211). -/
def State.tDraws (s : State) (h t l : Nat) : Bool :=
  s.tEn h t && !s.tCfgErr h t && (s.extentOf h (t + 1)).onLine l

/-- The address of a map entry (R194). -/
def State.mapAddr (s : State) (h t col row : Nat) : Nat :=
  s.fld (kTile h t 8) 27 0 * 0x1000 + (row * 2 ^ s.mapLogW h t + col) * 4

/-- A map entry (R194). -/
def State.mapEntry (s : State) (h t col row : Nat) : Option Nat := s.peLoad h (s.mapAddr h t col row) 4

/-- Bytes of a pattern row (R191). -/
def State.rowB (s : State) (h t : Nat) : Nat := s.tw h t * bppOf (s.tFmt h t) / 8

/-- Where a map entry's pixel at a pattern position lies: the pattern row's address, and the pixel in it (R191, R195, R205). -/
def State.patAt (s : State) (h t e pc pr : Nat) : Nat × Nat :=
  let tw := s.tw h t
  let c := if nbit e 30 then tw - 1 - pc else pc
  let r := if nbit e 31 then tw - 1 - pr else pr
  (s.fld (kTile h t 0xC) 27 0 * 0x1000 + nfld e 19 0 * (s.rowB h t * tw) + r * s.rowB h t, c)

/-- The pixel of a map entry at a pattern position, and the address range of its pattern fetch (R191, R195, R197, R205, R207). -/
def State.entryPix (s : State) (h t : Nat) (entry : Option Nat) (pc pr : Nat) : Argb × List (Nat × Nat) :=
  match entry with
  | none => (Argb.clear, [])
  | some e =>
    let fmt := s.tFmt h t
    let pri := nbit e 29
    let drawn := match s.fld (kTile h t 0) 14 13 with
      | 1 => !pri
      | 2 => pri
      | _ => true
    if !drawn then (Argb.clear, [])
    else
      let (row, c) := s.patAt h t e pc pr
      (s.colourOf h fmt (nfld e 28 20 * 32 + s.fld (kTile h t 0x18) 13 0) (s.bit (kTile h t 0) 11) (s.bit (kTile h t 0) 12)
        (rawPix (s.peLoad h) row fmt c), [pixBytes row fmt c])

/-- The pixel of a map tile at a pattern position, and the address ranges of its map and pattern fetches. -/
def State.mapPix (s : State) (h t col row pc pr : Nat) : Argb × List (Nat × Nat) :=
  let (p, l) := s.entryPix h t (s.mapEntry h t col row) pc pr
  (p, (s.mapAddr h t col row, 4) :: l)

/-- A pixel of a normal plane at column x and row y of its layer (R199). -/
def State.normalPix (s : State) (h t x y : Nat) : Argb × List (Nat × Nat) :=
  let tw := s.tw h t
  let mc := (s.fld (kTile h t 0x10) 16 0 + x) % (2 ^ s.mapLogW h t * tw)
  let mr := (s.fld (kTile h t 0x14) 16 0 + (if s.bit (kTile h t 0) 10 then 0 else y)) % (2 ^ s.mapLogH h t * tw)
  s.mapPix h t (mc / tw) (mr / tw) (mc % tw) (mr % tw)

/-- What an affine pixel shows: a map tile with a position in it, the fill entry, or nothing (R202, R203). -/
inductive AffAt where
  | tile (col row pc pr : Nat)
  | fill (pc pr : Nat)
  | out
deriving DecidableEq, Repr

/-- Where the pixel at column x of an affine plane comes from (R202, R203). -/
def State.affineAt (s : State) (h t x : Nat) : AffAt :=
  let (ox, oy) := (s.head h).origins.getD t (0, 0)
  let at_ (o k : Nat) : Int := (sgn 48 o + sgn 32 (s.rdN (kTile h t k)) * Int.ofNat x) / 65536
  let u := at_ ox 0x20
  let v := at_ oy 0x28
  let mw : Int := Int.ofNat (2 ^ s.mapLogW h t * 8)
  let mh : Int := Int.ofNat (2 ^ s.mapLogH h t * 8)
  let tile (u v : Nat) : AffAt := .tile (u / 8) (v / 8) (u % 8) (v % 8)
  if 0 ≤ u ∧ u < mw ∧ 0 ≤ v ∧ v < mh then tile u.toNat v.toNat
  else match s.fld (kTile h t 0) 9 8 with
    | 0 => tile (u % mw).toNat (v % mh).toNat
    | 2 => .fill (u % 8).toNat (v % 8).toNat
    | _ => .out

/-- The distinct tile a pixel counts as (R204); fill pixels count together. -/
def AffAt.key : AffAt → Option Nat
  | .tile c r _ _ => some (r * 4096 + c)
  | .fill _ _ => some (2 ^ 40)
  | .out => none

/-- The pixels of an affine plane over the columns of a span, with the tiles seen so far; answers whether a pixel lay
beyond CAP (R204). -/
def State.affineRun (s : State) (h t : Nat) : List Nat → List Nat → List (Argb × List (Nat × Nat)) × Bool
  | [], _ => ([], false)
  | x :: rest, seen =>
    let p := s.affineAt h t x
    let pix := match p with
      | .tile c r pc pr => s.mapPix h t c r pc pr
      | .fill pc pr => s.entryPix h t (some (s.rdN (kTile h t 0x1C))) pc pr
      | .out => (Argb.clear, [])
    match p.key with
    | none => let (ps, c) := s.affineRun h t rest seen; (pix :: ps, c)
    | some k =>
      if seen.contains k then let (ps, c) := s.affineRun h t rest seen; (pix :: ps, c)
      else if s.tCap h t ≤ seen.length then ((Argb.clear, []) :: (s.affineRun h t rest seen).1, true)
      else let (ps, c) := s.affineRun h t rest (k :: seen); (pix :: ps, c)

/-- The columns of a span of a head. -/
def Head.cols (q : Head) (sp : Nat) : List Nat :=
  (List.range (min 64 (q.hact - 64 * sp))).map fun k => 64 * sp + k

/-- The pixels of tile plane t over a span of line l, one per column, each with the address ranges it was fetched from, and whether the
span was capped. -/
def State.tileSpan (s : State) (h t l sp : Nat) : List (Argb × List (Nat × Nat)) × Bool :=
  let q := s.head h
  let e := s.extentOf h (t + 1)
  let cols := q.cols sp
  if !s.tDraws h t l then (cols.map fun _ => (Argb.clear, []), false)
  else
    let inn := cols.filter e.onCol
    let xs := inn.map fun x => x - e.left
    let (ps, capped) :=
      if s.tMode h t == 1 then s.affineRun h t xs [] else (xs.map fun x => s.normalPix h t x (l - e.top), false)
    (cols.map fun x => if e.onCol x then ps.getD (x - max e.left (64 * sp)) (Argb.clear, []) else (Argb.clear, []), capped)

/-- The charge of tile plane t for line l: engine clocks and memory bytes (R208). -/
def State.tileCharge (s : State) (h t l : Nat) : Nat × Nat :=
  if !s.tDraws h t l then (0, 0)
  else
    let ns := (s.extentOf h (t + 1)).spans
    if s.tMode h t == 1 then (4 + ns * (8 + ceilDiv (s.tCap h t) 2), ns * s.tCap h t * 128)
    else
      let e := 64 / s.tw h t + 1
      (4 + ns * (e + 2), ns * (128 + e * (32 * ceilDiv (s.rowB h t) 32)))

/-- The running origins at a line boundary: a component whose write landed is loaded, every other steps (R201). -/
def State.originStep (s : State) (h : Nat) (landed : List Nat) : State :=
  let q := s.head h
  let one (t : Nat) : Nat × Nat :=
    let (ox, oy) := q.origins.getD t (0, 0)
    let comp (o kLoad kStep : Nat) : Nat :=
      if landed.contains (kTile h t kLoad) then narrow 48 (sgn 32 (s.rdN (kTile h t kLoad)) * 16)
      else narrow 48 (Int.ofNat o + sgn 32 (s.rdN (kTile h t kStep)))
    (comp ox 0x30 0x24, comp oy 0x34 0x2C)
  s.setHead h { q with origins := (List.range 4).map one }

/-- The running origins where a write of X0 or Y0 lands at a span boundary or with the beam stopped (R201). -/
def State.originLoad (s : State) (h : Nat) (landed : List Nat) : State :=
  let q := s.head h
  let one (t : Nat) : Nat × Nat :=
    let (ox, oy) := q.origins.getD t (0, 0)
    let comp (o kLoad : Nat) : Nat :=
      if landed.contains (kTile h t kLoad) then narrow 48 (sgn 32 (s.rdN (kTile h t kLoad)) * 16) else o
    (comp ox 0x30, comp oy 0x34)
  s.setHead h { q with origins := (List.range 4).map one }

end Sys2Proof.Machine
end

