-- ==== Sys2Proof/Machine/Sprites.lean ====
section
/-!
DEFINITION. Sprites and the line scales (R219 to R240): the sort pass and its stores, placing and stretching, collisions,
the price of a line, shedding and withholding.
-/
namespace Sys2Proof.Machine

/-! ### Descriptors (R221, R222) -/

def Sprite.w (p : Sprite) (i : Nat) : Word := p.words.getD i 0
def Sprite.plane (p : Sprite) : Nat := wfld (p.w 0) 30 30
def Sprite.shedClass (p : Sprite) : Nat := wfld (p.w 0) 27 26
def Sprite.classes (p : Sprite) : Nat := wfld (p.w 0) 23 16
def Sprite.fmt (p : Sprite) : Nat := wfld (p.w 0) 15 12
def Sprite.pal (p : Sprite) : Nat := wfld (p.w 0) 8 0
def Sprite.y (p : Sprite) : Int := sgn 16 (wfld (p.w 1) 31 16)
def Sprite.x (p : Sprite) : Int := sgn 16 (wfld (p.w 1) 15 0)
def Sprite.sh (p : Sprite) : Nat := wfld (p.w 2) 24 16 + 1
def Sprite.sw (p : Sprite) : Nat := wfld (p.w 2) 8 0 + 1
/-- A scale held to 0x0010 to 0x1000 (R222). -/
def scaleOf (v : Nat) : Nat := max 0x10 (min 0x1000 v)
def Sprite.scaleY (p : Sprite) : Nat := scaleOf (wfld (p.w 3) 31 16)
def Sprite.scaleX (p : Sprite) : Nat := scaleOf (wfld (p.w 3) 15 0)
def Sprite.addr (p : Sprite) : Nat := wfld (p.w 5) 7 0 * 2 ^ 32 + (p.w 4).toNat / 4 * 4
def Sprite.pitch (p : Sprite) : Nat := wfld (p.w 5) 31 16 / 4 * 4
def Sprite.hitMask (p : Sprite) : Nat := wfld (p.w 6) 7 0
/-- The output size of one axis (R228). -/
def outSize (n scale : Nat) : Nat := min 1024 (max 1 ((n * scale + 128) / 256))
def Sprite.ow (p : Sprite) : Nat := outSize p.sw p.scaleX
def Sprite.oh (p : Sprite) : Nat := outSize p.sh p.scaleY
/-- The source row or column of an output one (R228, R229). -/
def srcIndex (n scale j : Nat) (flip : Bool) : Nat :=
  let r := min (n - 1) ((2 * j + 1) * 128 / scale)
  if flip then n - 1 - r else r

/-! ### Placing (R219, R228, R229) -/

/-- Sn_CTL and Sn_ORG. -/
def kSpr (h n off : Nat) : Nat := kPe h (0x40 + 0x10 * n + off)

/-- Sprite plane n draws on a line (R219). -/
def State.sDraws (s : State) (h n l : Nat) : Bool :=
  s.bit (kPe h 0) 31 && s.bit (kSpr h n 0) 31 && (s.extentOf h (5 + n)).onLine l

/-- The output row of a sprite on line l, if it is on the line's rows (R228). -/
def State.sprRow (s : State) (h l : Nat) (p : Sprite) : Option Nat :=
  if !s.sDraws h p.plane l then none
  else
    let e := s.extentOf h (5 + p.plane)
    let yd := Int.ofNat (l - e.top) + sgn 16 (s.fld (kSpr h p.plane 4) 31 16)
    if p.y ≤ yd && yd ≤ p.y + Int.ofNat p.oh - 1 then some (yd - p.y).toNat else none

/-- The plane column of output column 0 (R229). -/
def State.sprLeft (s : State) (h : Nat) (p : Sprite) : Int := p.x - sgn 16 (s.fld (kSpr h p.plane 4) 15 0)

/-- The number of visible columns (R229). -/
def State.sprVis (s : State) (h : Nat) (p : Sprite) : Nat :=
  let lw := Int.ofNat (s.extentOf h (5 + p.plane)).w
  let lo := s.sprLeft h p
  (min lw (lo + Int.ofNat p.ow) - max 0 lo).toNat

/-- A sprite is on the line (R228, R229); an entry that holds uncorrectable data acts as a skipped descriptor (R225, R310). -/
def State.sprOn (s : State) (h l : Nat) (p : Sprite) : Bool := !p.bad && (s.sprRow h l p).isSome && s.sprVis h p != 0

/-- The pixel of a sprite at head column x of line l, and the address range of its source fetch; transparent outside it (R229, R230). -/
def State.sprPix (s : State) (h l x : Nat) (p : Sprite) : Argb × List (Nat × Nat) :=
  match s.sprRow h l p with
  | none => (Argb.clear, [])
  | some j =>
    let e := s.extentOf h (5 + p.plane)
    let i := Int.ofNat x - Int.ofNat e.left - s.sprLeft h p
    if !e.onCol x || decide (i < 0) || decide (Int.ofNat p.ow ≤ i) then (Argb.clear, [])
    else
      let r := srcIndex p.sh p.scaleY j (nbit (p.w 0).toNat 28)
      let c := srcIndex p.sw p.scaleX i.toNat (nbit (p.w 0).toNat 29)
      let k := kSpr h p.plane 0
      (s.colourOf h p.fmt (p.pal * 32 + s.fld k 13 0) (s.bit k 30) (s.bit k 29)
        (rawPix (s.sprLoad h) (p.addr + r * p.pitch) p.fmt c), [pixBytes (p.addr + r * p.pitch) p.fmt c])

/-- A sprite pixel that shows nothing: a straight pixel with A = 0, or a transparent one (R230). -/
def Argb.sprClear (p : Argb) : Bool := p.a == 0 && !p.pm

/-- The sprites drawn on the line now being prepared, in index order. -/
def State.drawn (s : State) (h : Nat) : List Sprite :=
  (s.head h).front.filter fun p => (s.head h).price.sprites.contains p.idx && !p.bad

/-- The sprites with a pixel that is not transparent at column x, with that pixel and where it was fetched. -/
def State.sprAt (s : State) (h l x : Nat) : List (Sprite × Argb × List (Nat × Nat)) :=
  ((s.drawn h).map fun p => (p, s.sprPix h l x p)).filter fun e => !e.2.1.sprClear

/-- A pixel of a sprite plane from those at a column: the lowest index in front (R220). -/
def frontPix (at_ : List (Sprite × Argb × List (Nat × Nat))) (n : Nat) : Argb :=
  match at_.find? fun e => e.1.plane == n with
  | some e => e.2.1
  | none => Argb.clear

/-! ### Collision (R232, R233) -/

/-- A hit record updated by A's meeting of B at column x. -/
def addHit (hits : List (Nat × Nat × Nat × Nat)) (a b : Sprite) (x : Nat) : List (Nat × Nat × Nat × Nat) :=
  let m := a.hitMask &&& b.classes
  if m = 0 then hits
  else match hits.find? fun e => e.1 == a.idx with
    | none => hits ++ [(a.idx, m, b.idx, x)]
    | some (_, c, o, x0) => hits.map fun e => if e.1 == a.idx then (a.idx, c ||| m, min o b.idx, min x0 x) else e

/-- The hits of the sprites that meet at one column. -/
def columnHits (hits : List (Nat × Nat × Nat × Nat)) (here : List Sprite) (x : Nat) : List (Nat × Nat × Nat × Nat) :=
  here.foldl (fun t a => here.foldl (fun t b => if a.idx = b.idx then t else addHit t a b x) t) hits

/-- The collision entries of the line that has ended: sprites whose reported flag was clear, in ascending order (R233). -/
def State.collisionReport (s : State) (h : Nat) : State :=
  let q := s.head h
  let fresh := (q.hits.filter fun e => !q.reported.contains e.1).mergeSort fun a b => decide (a.1 ≤ b.1)
  let s := s.setHead h { q with
    reported := fresh.foldl (fun t e => NatSet.insert t e.1) q.reported, hits := [] }
  match q.hitRing, s.plan.headBench h with
  | some r, some b =>
    fresh.foldl (fun t e => t.ringEvent b r 1 h 0
      (leBytes 4 (s.rdN (kPe h 0x18)) ++ leBytes 2 q.line ++ leBytes 1 e.2.1 ++ leBytes 1 0 ++ leBytes 2 e.1
        ++ leBytes 2 e.2.2.1 ++ leBytes 2 e.2.2.2)) s
  | _, _ => s

/-! ### The sort pass (R223 to R227) -/

/-- Descriptors a pass reads: COUNT, at most 65,536 (R227). -/
def State.sortCount (s : State) (h : Nat) : Nat := min 65536 (s.fld (kPe h 0) 16 0)

/-- A sort pass starts: base and count are latched and the back store is emptied (R223). A pass of no descriptors
completes at once. -/
def State.sortStart (s : State) (h : Nat) : State :=
  let n := s.sortCount h
  let q := s.head h
  let s := s.setHead h { q with
    back := [], sort := { outcome := if n = 0 then 2 else 1, next := 0, base := s.fld (kPe h 4) 27 0 * 0x1000, count := n,
                          quota := 0 } }
  s.setB (kPe h 0x10) 31 (n != 0)

/-- A running pass is abandoned. -/
def State.sortAbandon (s : State) (h : Nat) : State :=
  let q := s.head h
  if q.sort.outcome = 1 then (s.setHead h { q with sort := { q.sort with outcome := 3 } }).setB (kPe h 0x10) 31 false else s

/-- A pass starts at this boundary if LINE has taken START with the unit enabled (R223). -/
def State.sortAtLine (s : State) (h : Nat) : State :=
  if s.bit (kPe h 0) 31 && s.fld (kPe h 8) 12 0 == (s.head h).line then s.sortStart h else s

/-- SPR_CTL lands (R227): EN going to 0 abandons any pass and empties both stores; going to 1 leaves the front store empty
until the first swap. -/
def State.sprCtlLanded (s : State) (h : Nat) (was : Bool) : State :=
  let on := s.bit (kPe h 0) 31
  if was && !on then
    let s := s.sortAbandon h
    let q := s.head h
    (s.setHead h { q with front := [], back := [], frontOk := false }).wrN (kPe h 0x14) 0
  else s

/-- The swap boundary (R226), steps 1 and 2; the caller starts a pass where START equals VACT_START. -/
def State.sprSwap (s : State) (h : Nat) : State :=
  let q := s.head h
  let s := match q.sort.outcome with
    | 2 => (s.setHead h { q with front := q.back, back := [], frontOk := true }).wrN (kPe h 0x14) q.back.length
    | 1 => (s.sortAbandon h).incSat (kPe h 0x10) 23 16
    | _ => s
  let q := s.head h
  let s := s.setHead h { q with reported := [], sort := { q.sort with outcome := 0 } }
  s.incWrap (kPe h 0x18) 31 0

/-- The words of a descriptor read whole (R223). -/
def descWords (bs : List Byte) : List Word := (List.range 8).map fun i => BitVec.ofNat 32 (leNat ((bs.drop (4 * i)).take 4))

/-- A descriptor read returns and is entered or skipped (R222, R223, R225), within the line's quota (R224); a head that stops at
its next line issues no further fetch (R92). -/
def State.sortRead (s : State) (h : Nat) : State :=
  let q := s.head h
  if !q.moving || q.stopAsk == 2 || q.sort.outcome != 1 || q.sort.quota == 0 then s
  else match s.plan.headBench h with
    | none => s
    | some b =>
      let a := (q.sort.base + 32 * q.sort.next) % 2 ^ 40
      let done := decide (q.sort.next + 1 = q.sort.count)
      let sort := { q.sort with next := q.sort.next + 1, quota := q.sort.quota - 1, outcome := if done then 2 else 1 }
      let after (t : State) (back : List Sprite) : State :=
        let t := t.setHead h { t.head h with sort := sort, back := back }
        if done then t.setB (kPe h 0x10) 31 false else t
      if !s.rangeHeld b a 32 then after ((s.hole b).incSat (kPe h 0x10) 7 0) q.back
      else if s.marked a 32 then after ((s.meets a 32).incSat (kPe h 0x10) 15 8) q.back
      else
        let s := s.mends a 32
        let w := descWords (s.bytes a 32)
        let p : Sprite := { idx := q.sort.next, words := w, bad := false }
        if !nbit (p.w 0).toNat 31 then after s q.back
        else if 8 ≤ p.fmt then after (s.incSat (kPe h 0x10) 7 0) q.back
        else after s (q.back ++ [p])

/-! ### The scales (R234 to R240) -/

/-- Clock base Q (R235, R278). -/
def Head.clockBase (q : Head) : Nat := q.htotal * q.dotDiv / 2 ^ 25
/-- Clock budget B (R235). -/
def State.clockBudget (s : State) (h : Nat) : Nat := (s.head h).clockBase - 160 - s.fld (kPe h 0x200) 11 0
/-- Byte budget BB (R235, R417). -/
def State.byteBudget (s : State) (h : Nat) : Nat := s.rdN (kPe h 0x208)

/-- A sprite's clock and byte terms (R236). -/
def State.sprCharge (s : State) (h : Nat) (p : Sprite) : Nat × Nat :=
  (6 + ceilDiv (s.sprVis h p) 16, 32 * (ceilDiv (ceilDiv (p.sw * bppOf p.fmt) 8) 32 + 1))

/-- Shedding (R237): the list is in shedding order. Answers the price left, the sprites kept, how many were shed and the
last cut. -/
def shedLoop (b bb : Nat) : List (Sprite × Nat × Nat) → Nat → Nat → Nat → Nat → Nat × Nat
    → Nat × Nat × List Sprite × Nat × Nat × Nat
  | [], clk, bytes, _, shed, cut => (clk, bytes, [], shed, cut.1, cut.2)
  | (p, c, y) :: rest, clk, bytes, on, shed, cut =>
    if clk ≤ b && bytes ≤ bb && on ≤ 2048 then (clk, bytes, p :: rest.map (·.1), shed, cut.1, cut.2)
    else shedLoop b bb rest (clk - c) (bytes - y) (on - 1) (shed + 1) (p.shedClass, p.idx)

/-- SHED ascending, then index descending (R237). -/
def shedBefore (a b : Sprite) : Bool :=
  decide (a.shedClass < b.shedClass) || (a.shedClass == b.shedClass && decide (b.idx ≤ a.idx))

/-- The price of a line before and after shedding (R236 to R238), from MBYTES. -/
structure LinePrice where
  clk0     : Nat
  bytes0   : Nat
  active   : Nat
  clk      : Nat
  bytes    : Nat
  kept     : List Nat
  shed     : Nat
  cutClass : Nat
  cutIndex : Nat
  withheld : Bool
deriving DecidableEq, Repr

/-- Line l priced (R236 to R238). `live` tells which of T0 to T3, S0 and S1 (0 to 5) draw: planes of a group that a valid
surface serves do not (R267). -/
def State.priceLine (s : State) (h l mbytes : Nat) (live : Nat → Bool) : LinePrice :=
  let tiles := ((List.range 4).filter live).map fun t => s.tileCharge h t l
  let on := (s.head h).front.filter fun p => live (4 + p.plane) && s.sprOn h l p
  let terms := on.map fun p => (p, s.sprCharge h p)
  let tc := tiles.foldl (fun n e => n + e.1) 0
  let ty := tiles.foldl (fun n e => n + e.2) 0
  let clk0 := 16 + tc + terms.foldl (fun n e => n + e.2.1) 0
  let bytes0 := ty + mbytes + terms.foldl (fun n e => n + e.2.2) 0
  let b := s.clockBudget h
  let bb := s.byteBudget h
  let order := terms.mergeSort fun x y => shedBefore x.1 y.1
  let (clk, bytes, kept, shed, cc, ci) := shedLoop b bb order clk0 bytes0 on.length 0 (0, 0)
  let past := decide (b < clk) || decide (bb < bytes)
  { clk0 := clk0, bytes0 := bytes0, active := on.length, clk := if past then 16 else clk,
    bytes := if past then mbytes else bytes, kept := if past then [] else kept.map (·.idx), shed := shed, cutClass := cc,
    cutIndex := ci, withheld := past }

/-- The first withheld line of a frame adds one note for the head (R240). Its time within the frame, and its syndrome, SC_WITHHELD,
are the model's choice: chapter 8 names neither (log 90). -/
def State.withheldNote (s : State) (h : Nat) : State :=
  if (s.head h).withheldSeen then s
  else (s.setHead h { s.head h with withheldSeen := true }).report 0x08 (0x0400 + h) (scopeOf (s.plan.headBench h))
    (s.rdN (kPe h 0x220))

/-- The scales' registers, counters and the shed-log entry of a priced line (R240, R241). SC_LAST_CLK and SC_LAST_BYTES of a
withheld line show what R238 charges it: 16 clocks and its bitmap bytes (DEDUCED, log 90). -/
def State.logPrice (s : State) (h l : Nat) (p : LinePrice) : State :=
  let b := s.clockBudget h
  let bb := s.byteBudget h
  let s := s.wrN (kPe h 0x204) (min b 0xFFFFFF)
  let s := s.wrN (kPe h 0x20C) p.clk
  let s := s.wrN (kPe h 0x210) p.bytes
  let s := s.wrN (kPe h 0x214) (max (s.rdN (kPe h 0x214)) p.clk0)
  if p.shed = 0 && !p.withheld then s
  else
    let s := s.addSat (kPe h 0x218) 31 0 p.shed
    let s := s.incSat (kPe h 0x21C) 31 0
    let s := if p.withheld then (s.incSat (kPe h 0x220) 31 0).withheldNote h else s
    if !s.bit (kPe h 0x200) 31 then s
    else match s.plan.headBench h with
      | none => s
      | some bn =>
        let reason := (if b < p.clk0 then 1 else 0) + (if bb < p.bytes0 then 2 else 0)
          + (if 2048 < p.active then 4 else 0) + (if p.withheld then 8 else 0)
        s.ringEvent bn (s.fld (kPe h 0x200) 23 12) 2 h 0
          (leBytes 4 (s.rdN (kPe h 0x18)) ++ leBytes 2 l ++ leBytes 1 reason ++ leBytes 1 p.cutClass ++ leBytes 2 p.cutIndex
            ++ leBytes 2 0 ++ leBytes 4 p.active ++ leBytes 4 p.shed ++ leBytes 4 p.clk0 ++ leBytes 4 p.bytes0
            ++ leBytes 4 p.clk ++ leBytes 4 p.bytes ++ leBytes 4 b ++ leBytes 4 bb)

/-- The descriptors the sort pass may read during the line (R224). -/
def State.sortQuota (s : State) (h : Nat) (bytes : Nat) : State :=
  let q := s.head h
  if q.sort.outcome != 1 then s
  else
    let n := min (q.sort.count - q.sort.next) (min (q.clockBase / 2) ((s.byteBudget h - bytes) / 32))
    s.setHead h { q with sort := { q.sort with quota := n } }

end Sys2Proof.Machine
end

