-- ==== Sys2Proof/Machine/Srgb.lean ====
section
/-!
DEFINITION. The IEC 61966-2-1 (sRGB) transfer functions at the widths linear-light blending uses (R251), as tables computed
from the standard's formulas: decoding c / 1,023 to 16 bits, and the D values at which encoding reaches each 10-bit code.
-/
namespace Sys2Proof.Machine

/-- Entries 0 to 63. -/
def srgbDecodeTable0 : List Nat := [
  0, 5, 10, 15, 20, 25, 30, 35, 40, 45, 50, 55, 59, 64, 69, 74,
  79, 84, 89, 94, 99, 104, 109, 114, 119, 124, 129, 134, 139, 144, 149, 154,
  159, 164, 169, 174, 178, 183, 188, 193, 198, 203, 208, 213, 219, 224, 229, 235,
  240, 246, 251, 257, 263, 269, 275, 281, 287, 293, 299, 306, 312, 318, 325, 332]

/-- Entries 64 to 127. -/
def srgbDecodeTable1 : List Nat := [
  338, 345, 352, 359, 366, 373, 380, 387, 395, 402, 410, 417, 425, 433, 441, 449,
  457, 465, 473, 481, 489, 498, 506, 515, 524, 532, 541, 550, 559, 568, 577, 587,
  596, 605, 615, 625, 634, 644, 654, 664, 674, 684, 694, 705, 715, 725, 736, 747,
  757, 768, 779, 790, 801, 813, 824, 835, 847, 858, 870, 882, 894, 906, 918, 930]

/-- Entries 128 to 191. -/
def srgbDecodeTable2 : List Nat := [
  942, 954, 967, 979, 992, 1004, 1017, 1030, 1043, 1056, 1069, 1083, 1096, 1109, 1123, 1137,
  1150, 1164, 1178, 1192, 1206, 1220, 1235, 1249, 1264, 1278, 1293, 1308, 1323, 1338, 1353, 1368,
  1383, 1399, 1414, 1430, 1446, 1461, 1477, 1493, 1509, 1526, 1542, 1558, 1575, 1591, 1608, 1625,
  1642, 1659, 1676, 1693, 1711, 1728, 1745, 1763, 1781, 1799, 1817, 1835, 1853, 1871, 1889, 1908]

/-- Entries 192 to 255. -/
def srgbDecodeTable3 : List Nat := [
  1926, 1945, 1964, 1983, 2002, 2021, 2040, 2059, 2079, 2098, 2118, 2138, 2158, 2178, 2198, 2218,
  2238, 2258, 2279, 2299, 2320, 2341, 2362, 2383, 2404, 2425, 2447, 2468, 2490, 2511, 2533, 2555,
  2577, 2599, 2621, 2644, 2666, 2689, 2712, 2734, 2757, 2780, 2803, 2827, 2850, 2873, 2897, 2921,
  2944, 2968, 2992, 3016, 3041, 3065, 3090, 3114, 3139, 3164, 3189, 3214, 3239, 3264, 3289, 3315]

/-- Entries 256 to 319. -/
def srgbDecodeTable4 : List Nat := [
  3341, 3366, 3392, 3418, 3444, 3470, 3497, 3523, 3550, 3576, 3603, 3630, 3657, 3684, 3711, 3739,
  3766, 3794, 3822, 3849, 3877, 3905, 3934, 3962, 3990, 4019, 4047, 4076, 4105, 4134, 4163, 4193,
  4222, 4251, 4281, 4311, 4341, 4371, 4401, 4431, 4461, 4492, 4522, 4553, 4584, 4615, 4646, 4677,
  4708, 4740, 4771, 4803, 4835, 4867, 4899, 4931, 4963, 4995, 5028, 5061, 5093, 5126, 5159, 5193]

/-- Entries 320 to 383. -/
def srgbDecodeTable5 : List Nat := [
  5226, 5259, 5293, 5326, 5360, 5394, 5428, 5462, 5496, 5531, 5565, 5600, 5635, 5670, 5705, 5740,
  5775, 5810, 5846, 5882, 5917, 5953, 5989, 6025, 6062, 6098, 6135, 6171, 6208, 6245, 6282, 6319,
  6357, 6394, 6432, 6469, 6507, 6545, 6583, 6621, 6660, 6698, 6737, 6775, 6814, 6853, 6892, 6932,
  6971, 7011, 7050, 7090, 7130, 7170, 7210, 7250, 7291, 7331, 7372, 7413, 7454, 7495, 7536, 7577]

/-- Entries 384 to 447. -/
def srgbDecodeTable6 : List Nat := [
  7619, 7660, 7702, 7744, 7786, 7828, 7870, 7913, 7955, 7998, 8041, 8084, 8127, 8170, 8213, 8257,
  8300, 8344, 8388, 8432, 8476, 8520, 8565, 8609, 8654, 8699, 8743, 8789, 8834, 8879, 8925, 8970,
  9016, 9062, 9108, 9154, 9200, 9247, 9293, 9340, 9387, 9434, 9481, 9528, 9576, 9623, 9671, 9719,
  9767, 9815, 9863, 9911, 9960, 10008, 10057, 10106, 10155, 10204, 10253, 10303, 10353, 10402, 10452, 10502]

/-- Entries 448 to 511. -/
def srgbDecodeTable7 : List Nat := [
  10552, 10603, 10653, 10704, 10754, 10805, 10856, 10907, 10959, 11010, 11062, 11113, 11165, 11217, 11269, 11321,
  11374, 11426, 11479, 11532, 11585, 11638, 11691, 11745, 11798, 11852, 11906, 11959, 12014, 12068, 12122, 12177,
  12231, 12286, 12341, 12396, 12452, 12507, 12562, 12618, 12674, 12730, 12786, 12842, 12899, 12955, 13012, 13069,
  13126, 13183, 13240, 13297, 13355, 13413, 13470, 13528, 13587, 13645, 13703, 13762, 13821, 13879, 13938, 13998]

/-- Entries 512 to 575. -/
def srgbDecodeTable8 : List Nat := [
  14057, 14116, 14176, 14236, 14295, 14356, 14416, 14476, 14536, 14597, 14658, 14719, 14780, 14841, 14902, 14964,
  15026, 15087, 15149, 15211, 15274, 15336, 15399, 15461, 15524, 15587, 15650, 15713, 15777, 15840, 15904, 15968,
  16032, 16096, 16161, 16225, 16290, 16354, 16419, 16484, 16550, 16615, 16681, 16746, 16812, 16878, 16944, 17010,
  17077, 17143, 17210, 17277, 17344, 17411, 17479, 17546, 17614, 17682, 17749, 17818, 17886, 17954, 18023, 18091]

/-- Entries 576 to 639. -/
def srgbDecodeTable9 : List Nat := [
  18160, 18229, 18299, 18368, 18437, 18507, 18577, 18647, 18717, 18787, 18857, 18928, 18999, 19069, 19140, 19212,
  19283, 19354, 19426, 19498, 19570, 19642, 19714, 19786, 19859, 19932, 20005, 20078, 20151, 20224, 20297, 20371,
  20445, 20519, 20593, 20667, 20742, 20816, 20891, 20966, 21041, 21116, 21191, 21267, 21343, 21418, 21494, 21570,
  21647, 21723, 21800, 21877, 21954, 22031, 22108, 22185, 22263, 22340, 22418, 22496, 22575, 22653, 22731, 22810]

/-- Entries 640 to 703. -/
def srgbDecodeTable10 : List Nat := [
  22889, 22968, 23047, 23126, 23206, 23285, 23365, 23445, 23525, 23605, 23686, 23766, 23847, 23928, 24009, 24090,
  24172, 24253, 24335, 24417, 24499, 24581, 24663, 24746, 24828, 24911, 24994, 25077, 25161, 25244, 25328, 25411,
  25495, 25579, 25664, 25748, 25833, 25917, 26002, 26087, 26173, 26258, 26344, 26429, 26515, 26601, 26687, 26774,
  26860, 26947, 27034, 27121, 27208, 27295, 27383, 27471, 27559, 27647, 27735, 27823, 27912, 28000, 28089, 28178]

/-- Entries 704 to 767. -/
def srgbDecodeTable11 : List Nat := [
  28267, 28356, 28446, 28536, 28625, 28715, 28806, 28896, 28986, 29077, 29168, 29259, 29350, 29441, 29533, 29624,
  29716, 29808, 29900, 29992, 30085, 30177, 30270, 30363, 30456, 30550, 30643, 30737, 30830, 30924, 31018, 31113,
  31207, 31302, 31397, 31492, 31587, 31682, 31777, 31873, 31969, 32065, 32161, 32257, 32354, 32450, 32547, 32644,
  32741, 32839, 32936, 33034, 33131, 33229, 33328, 33426, 33524, 33623, 33722, 33821, 33920, 34019, 34119, 34219]

/-- Entries 768 to 831. -/
def srgbDecodeTable12 : List Nat := [
  34318, 34418, 34519, 34619, 34719, 34820, 34921, 35022, 35123, 35225, 35326, 35428, 35530, 35632, 35734, 35836,
  35939, 36042, 36145, 36248, 36351, 36454, 36558, 36662, 36766, 36870, 36974, 37078, 37183, 37288, 37393, 37498,
  37603, 37709, 37814, 37920, 38026, 38132, 38239, 38345, 38452, 38559, 38666, 38773, 38880, 38988, 39096, 39204,
  39312, 39420, 39528, 39637, 39746, 39855, 39964, 40073, 40183, 40292, 40402, 40512, 40622, 40733, 40843, 40954]

/-- Entries 832 to 895. -/
def srgbDecodeTable13 : List Nat := [
  41065, 41176, 41287, 41398, 41510, 41622, 41734, 41846, 41958, 42070, 42183, 42296, 42409, 42522, 42635, 42749,
  42862, 42976, 43090, 43204, 43319, 43433, 43548, 43663, 43778, 43893, 44009, 44124, 44240, 44356, 44472, 44589,
  44705, 44822, 44939, 45056, 45173, 45290, 45408, 45526, 45643, 45762, 45880, 45998, 46117, 46236, 46355, 46474,
  46593, 46713, 46832, 46952, 47072, 47193, 47313, 47434, 47554, 47675, 47797, 47918, 48039, 48161, 48283, 48405]

/-- Entries 896 to 959. -/
def srgbDecodeTable14 : List Nat := [
  48527, 48650, 48772, 48895, 49018, 49141, 49264, 49388, 49511, 49635, 49759, 49883, 50008, 50132, 50257, 50382,
  50507, 50632, 50758, 50883, 51009, 51135, 51261, 51388, 51514, 51641, 51768, 51895, 52022, 52150, 52277, 52405,
  52533, 52661, 52790, 52918, 53047, 53176, 53305, 53434, 53564, 53694, 53823, 53953, 54084, 54214, 54345, 54475,
  54606, 54737, 54869, 55000, 55132, 55264, 55396, 55528, 55660, 55793, 55926, 56059, 56192, 56325, 56458, 56592]

/-- Entries 960 to 1023. -/
def srgbDecodeTable15 : List Nat := [
  56726, 56860, 56994, 57129, 57263, 57398, 57533, 57668, 57804, 57939, 58075, 58211, 58347, 58483, 58620, 58756,
  58893, 59030, 59167, 59305, 59442, 59580, 59718, 59856, 59995, 60133, 60272, 60411, 60550, 60689, 60828, 60968,
  61108, 61248, 61388, 61528, 61669, 61810, 61951, 62092, 62233, 62375, 62516, 62658, 62800, 62942, 63085, 63227,
  63370, 63513, 63656, 63800, 63943, 64087, 64231, 64375, 64519, 64664, 64809, 64954, 65099, 65244, 65389, 65535]

/-- L16 of each 10-bit code: round(65,535 f(c / 1,023)), halves up (R251). -/
def srgbDecodeTable : List Nat :=
  srgbDecodeTable0 ++ srgbDecodeTable1 ++ srgbDecodeTable2 ++ srgbDecodeTable3 ++ srgbDecodeTable4 ++ srgbDecodeTable5 ++ srgbDecodeTable6 ++ srgbDecodeTable7
    ++ srgbDecodeTable8 ++ srgbDecodeTable9 ++ srgbDecodeTable10 ++ srgbDecodeTable11 ++ srgbDecodeTable12 ++ srgbDecodeTable13 ++ srgbDecodeTable14 ++ srgbDecodeTable15

/-- Entries 0 to 63. -/
def srgbEncodeTable0 : List Nat := [
  3, 8, 13, 18, 23, 28, 33, 38, 43, 48, 53, 58, 62, 67, 72, 77,
  82, 87, 92, 97, 102, 107, 112, 117, 122, 127, 132, 137, 142, 147, 152, 157,
  162, 167, 172, 177, 181, 186, 191, 196, 201, 206, 211, 217, 222, 227, 232, 238,
  243, 249, 255, 260, 266, 272, 278, 284, 290, 297, 303, 309, 316, 322, 329, 335]

/-- Entries 64 to 127. -/
def srgbEncodeTable1 : List Nat := [
  342, 349, 356, 363, 370, 377, 384, 392, 399, 407, 414, 422, 429, 437, 445, 453,
  461, 469, 477, 486, 494, 503, 511, 520, 528, 537, 546, 555, 564, 573, 582, 592,
  601, 611, 620, 630, 640, 649, 659, 669, 679, 690, 700, 710, 721, 731, 742, 753,
  763, 774, 785, 796, 807, 819, 830, 842, 853, 865, 876, 888, 900, 912, 924, 936]

/-- Entries 128 to 191. -/
def srgbEncodeTable2 : List Nat := [
  949, 961, 973, 986, 999, 1011, 1024, 1037, 1050, 1063, 1076, 1090, 1103, 1117, 1130, 1144,
  1158, 1172, 1186, 1200, 1214, 1228, 1242, 1257, 1271, 1286, 1301, 1316, 1331, 1346, 1361, 1376,
  1392, 1407, 1423, 1438, 1454, 1470, 1486, 1502, 1518, 1534, 1551, 1567, 1584, 1600, 1617, 1634,
  1651, 1668, 1685, 1702, 1720, 1737, 1755, 1772, 1790, 1808, 1826, 1844, 1862, 1881, 1899, 1918]

/-- Entries 192 to 255. -/
def srgbEncodeTable3 : List Nat := [
  1936, 1955, 1974, 1993, 2012, 2031, 2050, 2070, 2089, 2109, 2128, 2148, 2168, 2188, 2208, 2228,
  2249, 2269, 2290, 2310, 2331, 2352, 2373, 2394, 2415, 2436, 2458, 2479, 2501, 2523, 2545, 2567,
  2589, 2611, 2633, 2656, 2678, 2701, 2723, 2746, 2769, 2792, 2815, 2839, 2862, 2886, 2909, 2933,
  2957, 2981, 3005, 3029, 3053, 3078, 3102, 3127, 3152, 3177, 3202, 3227, 3252, 3277, 3303, 3328]

/-- Entries 256 to 319. -/
def srgbEncodeTable4 : List Nat := [
  3354, 3380, 3406, 3432, 3458, 3484, 3510, 3537, 3563, 3590, 3617, 3644, 3671, 3698, 3726, 3753,
  3780, 3808, 3836, 3864, 3892, 3920, 3948, 3977, 4005, 4034, 4062, 4091, 4120, 4149, 4178, 4208,
  4237, 4267, 4296, 4326, 4356, 4386, 4416, 4447, 4477, 4507, 4538, 4569, 4600, 4631, 4662, 4693,
  4724, 4756, 4788, 4819, 4851, 4883, 4915, 4947, 4980, 5012, 5045, 5078, 5110, 5143, 5176, 5210]

/-- Entries 320 to 383. -/
def srgbEncodeTable5 : List Nat := [
  5243, 5276, 5310, 5344, 5378, 5411, 5446, 5480, 5514, 5549, 5583, 5618, 5653, 5688, 5723, 5758,
  5793, 5829, 5864, 5900, 5936, 5972, 6008, 6044, 6080, 6117, 6154, 6190, 6227, 6264, 6301, 6338,
  6376, 6413, 6451, 6489, 6527, 6565, 6603, 6641, 6679, 6718, 6757, 6795, 6834, 6873, 6912, 6952,
  6991, 7031, 7070, 7110, 7150, 7190, 7231, 7271, 7311, 7352, 7393, 7434, 7475, 7516, 7557, 7598]

/-- Entries 384 to 447. -/
def srgbEncodeTable6 : List Nat := [
  7640, 7682, 7723, 7765, 7807, 7850, 7892, 7934, 7977, 8020, 8063, 8106, 8149, 8192, 8235, 8279,
  8323, 8366, 8410, 8454, 8498, 8543, 8587, 8632, 8677, 8722, 8767, 8812, 8857, 8902, 8948, 8994,
  9039, 9085, 9131, 9178, 9224, 9271, 9317, 9364, 9411, 9458, 9505, 9552, 9600, 9647, 9695, 9743,
  9791, 9839, 9887, 9936, 9984, 10033, 10082, 10131, 10180, 10229, 10279, 10328, 10378, 10428, 10478, 10528]

/-- Entries 448 to 511. -/
def srgbEncodeTable7 : List Nat := [
  10578, 10628, 10679, 10729, 10780, 10831, 10882, 10933, 10985, 11036, 11088, 11140, 11192, 11244, 11296, 11348,
  11401, 11453, 11506, 11559, 11612, 11665, 11718, 11772, 11825, 11879, 11933, 11987, 12041, 12096, 12150, 12205,
  12259, 12314, 12369, 12424, 12480, 12535, 12591, 12646, 12702, 12758, 12815, 12871, 12927, 12984, 13041, 13098,
  13155, 13212, 13269, 13327, 13384, 13442, 13500, 13558, 13616, 13675, 13733, 13792, 13850, 13909, 13968, 14028]

/-- Entries 512 to 575. -/
def srgbEncodeTable8 : List Nat := [
  14087, 14147, 14206, 14266, 14326, 14386, 14446, 14507, 14567, 14628, 14689, 14750, 14811, 14872, 14934, 14995,
  15057, 15119, 15181, 15243, 15305, 15368, 15430, 15493, 15556, 15619, 15682, 15746, 15809, 15873, 15937, 16001,
  16065, 16129, 16193, 16258, 16323, 16387, 16452, 16518, 16583, 16648, 16714, 16780, 16846, 16912, 16978, 17044,
  17111, 17177, 17244, 17311, 17378, 17445, 17513, 17580, 17648, 17716, 17784, 17852, 17920, 17989, 18058, 18126]

/-- Entries 576 to 639. -/
def srgbEncodeTable9 : List Nat := [
  18195, 18264, 18334, 18403, 18473, 18542, 18612, 18682, 18752, 18823, 18893, 18964, 19034, 19105, 19176, 19248,
  19319, 19391, 19462, 19534, 19606, 19678, 19751, 19823, 19896, 19969, 20041, 20115, 20188, 20261, 20335, 20408,
  20482, 20556, 20631, 20705, 20779, 20854, 20929, 21004, 21079, 21154, 21230, 21305, 21381, 21457, 21533, 21609,
  21685, 21762, 21839, 21916, 21993, 22070, 22147, 22224, 22302, 22380, 22458, 22536, 22614, 22693, 22771, 22850]

/-- Entries 640 to 703. -/
def srgbEncodeTable10 : List Nat := [
  22929, 23008, 23087, 23167, 23246, 23326, 23406, 23486, 23566, 23646, 23727, 23807, 23888, 23969, 24050, 24131,
  24213, 24294, 24376, 24458, 24540, 24623, 24705, 24787, 24870, 24953, 25036, 25119, 25203, 25286, 25370, 25454,
  25538, 25622, 25706, 25791, 25876, 25960, 26045, 26131, 26216, 26301, 26387, 26473, 26559, 26645, 26731, 26818,
  26904, 26991, 27078, 27165, 27252, 27340, 27427, 27515, 27603, 27691, 27779, 27868, 27956, 28045, 28134, 28223]

/-- Entries 704 to 767. -/
def srgbEncodeTable11 : List Nat := [
  28312, 28402, 28491, 28581, 28671, 28761, 28851, 28942, 29032, 29123, 29214, 29305, 29396, 29487, 29579, 29671,
  29762, 29854, 29947, 30039, 30132, 30224, 30317, 30410, 30503, 30597, 30690, 30784, 30878, 30972, 31066, 31160,
  31255, 31350, 31445, 31540, 31635, 31730, 31826, 31921, 32017, 32113, 32210, 32306, 32402, 32499, 32596, 32693,
  32790, 32888, 32985, 33083, 33181, 33279, 33377, 33476, 33574, 33673, 33772, 33871, 33970, 34070, 34169, 34269]

/-- Entries 768 to 831. -/
def srgbEncodeTable12 : List Nat := [
  34369, 34469, 34569, 34670, 34770, 34871, 34972, 35073, 35174, 35276, 35377, 35479, 35581, 35683, 35786, 35888,
  35991, 36094, 36197, 36300, 36403, 36507, 36610, 36714, 36818, 36922, 37027, 37131, 37236, 37341, 37446, 37551,
  37656, 37762, 37868, 37974, 38080, 38186, 38292, 38399, 38506, 38613, 38720, 38827, 38935, 39042, 39150, 39258,
  39366, 39475, 39583, 39692, 39801, 39910, 40019, 40128, 40238, 40348, 40458, 40568, 40678, 40788, 40899, 41010]

/-- Entries 832 to 895. -/
def srgbEncodeTable13 : List Nat := [
  41121, 41232, 41343, 41455, 41566, 41678, 41790, 41902, 42015, 42127, 42240, 42353, 42466, 42579, 42692, 42806,
  42920, 43034, 43148, 43262, 43377, 43491, 43606, 43721, 43836, 43951, 44067, 44183, 44299, 44415, 44531, 44647,
  44764, 44881, 44998, 45115, 45232, 45349, 45467, 45585, 45703, 45821, 45940, 46058, 46177, 46296, 46415, 46534,
  46653, 46773, 46893, 47013, 47133, 47253, 47374, 47495, 47615, 47736, 47858, 47979, 48101, 48222, 48344, 48467]

/-- Entries 896 to 959. -/
def srgbEncodeTable14 : List Nat := [
  48589, 48711, 48834, 48957, 49080, 49203, 49326, 49450, 49574, 49698, 49822, 49946, 50070, 50195, 50320, 50445,
  50570, 50696, 50821, 50947, 51073, 51199, 51325, 51452, 51578, 51705, 51832, 51959, 52087, 52214, 52342, 52470,
  52598, 52726, 52855, 52983, 53112, 53241, 53370, 53500, 53629, 53759, 53889, 54019, 54149, 54280, 54410, 54541,
  54672, 54803, 54935, 55066, 55198, 55330, 55462, 55595, 55727, 55860, 55993, 56126, 56259, 56392, 56526, 56660]

/-- Entries 960 to 1022. -/
def srgbEncodeTable15 : List Nat := [
  56794, 56928, 57062, 57197, 57331, 57466, 57601, 57736, 57872, 58008, 58143, 58279, 58416, 58552, 58688, 58825,
  58962, 59099, 59237, 59374, 59512, 59650, 59788, 59926, 60064, 60203, 60342, 60481, 60620, 60759, 60899, 61038,
  61178, 61318, 61459, 61599, 61740, 61881, 62022, 62163, 62304, 62446, 62588, 62730, 62872, 63014, 63157, 63299,
  63442, 63585, 63729, 63872, 64016, 64160, 64304, 64448, 64592, 64737, 64882, 65027, 65172, 65317, 65463]

/-- The lowest D whose encoding rounds to code n, for n from 1 to 1,023 (R251). -/
def srgbEncodeTable : List Nat :=
  srgbEncodeTable0 ++ srgbEncodeTable1 ++ srgbEncodeTable2 ++ srgbEncodeTable3 ++ srgbEncodeTable4 ++ srgbEncodeTable5 ++ srgbEncodeTable6 ++ srgbEncodeTable7
    ++ srgbEncodeTable8 ++ srgbEncodeTable9 ++ srgbEncodeTable10 ++ srgbEncodeTable11 ++ srgbEncodeTable12 ++ srgbEncodeTable13 ++ srgbEncodeTable14 ++ srgbEncodeTable15

/-- A 10-bit code in linear light. -/
def srgbDecode (c : Nat) : Nat := srgbDecodeTable.getD c 65535
/-- A linear-light value back as a 10-bit code: round(1,023 g(D / 65,535)). -/
def srgbEncode (d : Nat) : Nat := (srgbEncodeTable.filter fun t => decide (t ≤ d)).length

end Sys2Proof.Machine
end

