-- ==== Sys2Proof/Machine/Compose.lean ====
section
/-!
DEFINITION. Layer composition, bitmap planes, COMMIT and fences, and the flattening cache (R244 to R274).
-/
namespace Sys2Proof.Machine

/-! ### Blending (R248 to R251) -/

/-- x / 255 rounded to nearest (R249). -/
def div255 (x : Nat) : Nat := (x + 127) / 255

/-- An 8-bit component at 10 bits (R248). -/
def wide10 (c : Nat) : Nat := c * 4 + c / 64

/-- One colour component blended over D (R249, R250). -/
def blendComp (top d c : Nat) (p : SlotPx) : Nat :=
  let opaque_ := p.rule == 1
  let a := if opaque_ then div255 (255 * p.la) else div255 (p.a * p.la)
  let v := if p.pm && !opaque_ then div255 (c * p.la) else div255 (c * a)
  if p.rule = 2 then min top (d + v) else min top (v + div255 (d * (255 - a)))

/-- D after one slot (R249). -/
def blendSlot (top : Nat) (d : Nat × Nat × Nat) (p : SlotPx) : Nat × Nat × Nat :=
  (blendComp top d.1 p.r p, blendComp top d.2.1 p.g p, blendComp top d.2.2 p.b p)

/-- The clamp of a blend: 1,023, or 65,535 in linear light (R251). -/
def blendTop (linear : Bool) : Nat := if linear then 65535 else 1023

/-- A 10-bit component as it is blended. -/
def blendIn (linear : Bool) (c : Nat) : Nat := if linear then srgbDecode c else c

/-- D as scan-out takes it: 10-bit R, G and B packed as a word (R249, R251, R266). -/
def packOut (linear : Bool) (d : Nat × Nat × Nat) : Nat :=
  let o (c : Nat) : Nat := if linear then srgbEncode c else c
  o d.1 * 2 ^ 20 + o d.2.1 * 2 ^ 10 + o d.2.2

/-- D as the surface stores it (R266). -/
def packSurf (linear : Bool) (d : Nat × Nat × Nat) : Nat :=
  if linear then d.1 * 2 ^ 32 + d.2.1 * 2 ^ 16 + d.2.2 else d.1 * 2 ^ 20 + d.2.1 * 2 ^ 10 + d.2.2

/-- D from a surface pixel. -/
def unpackSurf (linear : Bool) (v : Nat) : Nat × Nat × Nat :=
  if linear then (nfld v 47 32, nfld v 31 16, nfld v 15 0) else (nfld v 29 20, nfld v 19 10, nfld v 9 0)

/-- HEADn_BG as D starts (R249, R251). -/
def State.bgD (s : State) (h : Nat) (linear : Bool) : Nat × Nat × Nat :=
  let w := s.rd (kHead h 4)
  (blendIn linear (wfld w 29 20), blendIn linear (wfld w 19 10), blendIn linear (wfld w 9 0))

/-! ### Bitmap planes (R252 to R260) -/

/-- A register of bitmap plane p. -/
def kMb (h p off : Nat) : Nat := kHead h (0x200 + 0x40 * p + off)

/-- A plane with its active group at reset. -/
def MbActive.reset : MbActive := { fmt := 0, addr0 := 0, addr1 := 0, addr2 := 0, pitch := 0 }

/-- The active group of a plane (R263). -/
def State.mbActive (s : State) (h p : Nat) : MbActive := (s.head h).mb.getD p MbActive.reset

/-- The shadow group as the registers hold it (R261). -/
def State.mbShadow (s : State) (h p : Nat) : MbActive :=
  { fmt := s.rd (kMb h p 0), addr0 := s.rd64 (kMb h p 8), addr1 := s.rd64 (kMb h p 0x10), addr2 := s.rd64 (kMb h p 0x18),
    pitch := s.rd (kMb h p 0x20) }

def MbActive.format (m : MbActive) : Nat := wfld m.fmt 3 0
/-- PITCH of plane 0, and of planes 1 and 2; bits [1:0] of each ignored. -/
def MbActive.pitchOf (m : MbActive) (q : Nat) : Nat :=
  if q = 0 then wfld m.pitch 15 0 / 4 * 4 else wfld m.pitch 31 16 / 4 * 4
def MbActive.addrOf (m : MbActive) (q : Nat) : Nat := if q = 0 then m.addr0 else if q = 1 then m.addr1 else m.addr2

/-- The source size as it acts: 0 acts as 1. -/
def State.mbSw (s : State) (h p : Nat) : Nat := max 1 (s.fld (kMb h p 0x28) 12 0)
def State.mbSh (s : State) (h p : Nat) : Nat := max 1 (s.fld (kMb h p 0x28) 28 16)
/-- The steps as they act (R256). -/
def State.mbStepX (s : State) (h p : Nat) : Nat := max 0x1000 (min 0x40000 (s.fld (kMb h p 0x2C) 18 0))
def State.mbStepY (s : State) (h p : Nat) : Nat :=
  max 0x1000 (min (min 4 ((s.head h).bpref + 1) * 0x10000) (s.fld (kMb h p 0x30) 18 0))
def State.mbBilin (s : State) (h p : Nat) : Bool := s.bit (kMb h p 0x34) 31

/-- The two source positions and the weight of an output index on one axis (R255); nearest uses the first alone. -/
def sampleAt (n step j : Nat) (bilin : Bool) : Nat × Nat × Nat :=
  let f := j * step + step / 2
  if !bilin then let r := min (n - 1) (f / 65536); (r, r, 0)
  else
    let t : Int := Int.ofNat f - 32768
    let c0 := t / 65536
    let hi := Int.ofNat (n - 1)
    ((clampI 0 hi c0).toNat, (clampI 0 hi (c0 + 1)).toNat, ((t % 65536) / 256).toNat)

/-- The bytes of a source row of plane q (R252). -/
def rowBytes (fmt sw q : Nat) : Nat :=
  if fmt < 8 then (if q = 0 then ceilDiv (sw * bppOf fmt) 8 else 0)
  else
    let wide := if fmt = 0xA || fmt = 0xB || fmt = 0xD then 2 else 1
    if fmt < 0xC then (if q = 0 then wide * sw else if q = 1 then 2 * wide * ceilDiv sw 2 else 0)
    else wide * sw

/-- How many planes a format has (R252). -/
def planesOf (fmt : Nat) : Nat := if fmt < 8 then 1 else if fmt < 0xC then 2 else 3

/-- 4:2:0 (R252). -/
def halfRows (fmt : Nat) : Bool := fmt == 8 || fmt == 0xA

/-- The bytes charged for the rows newly fetched for output row j (R258). -/
def fetchCharge (fmt sw sh stepY j : Nat) (bilin : Bool) : Nat :=
  let (lo, hi, _) := sampleAt sh stepY j bilin
  let prev : Int := if j = 0 then -1 else Int.ofNat (sampleAt sh stepY (j - 1) bilin).2.1
  let count (lo hi : Nat) (prev : Int) : Nat := (Int.ofNat hi - max (Int.ofNat lo) (prev + 1) + 1).toNat
  let n0 := count lo hi prev
  let n1 := if halfRows fmt then count (lo / 2) (hi / 2) (prev / 2) else n0
  (List.range (planesOf fmt)).foldl (fun n q =>
    n + (if q = 0 then n0 else n1) * (32 * (ceilDiv (rowBytes fmt sw q) 32 + 1))) 0

/-- The bytes that give column c of source row r of a plane: one part for formats 0x0 to 0x7, else Y, Cb and Cr (R253). -/
def MbActive.parts (m : MbActive) (posX posY r c : Nat) : List (Nat × Nat) :=
  let fmt := m.format
  let wide := if fmt = 0xA || fmt = 0xB || fmt = 0xD then 2 else 1
  let x := (if 8 ≤ fmt && fmt < 0xC then posX / 2 * 2 else posX) + c
  let y := (if halfRows fmt then posY / 2 * 2 else posY) + r
  let row (q yy : Nat) : Nat := m.addrOf q + yy * m.pitchOf q
  let cy := if halfRows fmt then y / 2 else y
  if fmt < 8 then [pixBytes (row 0 y) fmt x]
  else if fmt < 0xC then
    [(row 0 y + wide * x, wide), (row 1 cy + wide * (x / 2 * 2), wide), (row 1 cy + wide * (x / 2 * 2 + 1), wide)]
  else [(row 0 y + wide * x, wide), (row 1 y + wide * x, wide), (row 2 y + wide * x, wide)]

/-- The raw sample of column c of source row r of a plane: none for one that is uncorrectable or blocked (R253, R260). Formats
0x0 to 0x7 give the raw pixel; the others Y, Cb and Cr at 10 bits. -/
def State.mbSample (s : State) (h : Nat) (m : MbActive) (posX posY r c : Nat) : Option (Nat × Nat × Nat) :=
  let fmt := m.format
  let ten := fmt == 0xA || fmt == 0xB || fmt == 0xD
  let at_ (p : Nat × Nat) : Option Nat := s.unitLoad h p.1 p.2
  match m.parts posX posY r c with
  | [p] => (at_ p).map fun v => (pixOf fmt (posX + c) v, 0, 0)
  | [y, u, v] =>
    let comp (n : Nat) : Nat := if ten then nfld n 15 6 else n * 4
    match at_ y, at_ u, at_ v with
    | some a, some b, some d => some (comp a, comp b, comp d)
    | _, _, _ => none
  | _ => none

/-- The raw samples of source row r of a plane. -/
def State.mbRow (s : State) (h : Nat) (m : MbActive) (sw posX posY r : Nat) : List (Option (Nat × Nat × Nat)) :=
  (List.range sw).map fun c => s.mbSample h m posX posY r c

/-- The YCbCr coefficients KY, KRV, KBU, KGV and KGU of R254. -/
def yuvCoef (matrix : Nat) (full : Bool) : Int × Int × Int × Int × Int :=
  match matrix, full with
  | 0, false => (4783, 6557, 8287, 3340, 1609)
  | 0, true => (4096, 5743, 7258, 2925, 1410)
  | 2, false => (4783, 6896, 8799, 2672, 770)
  | 2, true => (4096, 6040, 7706, 2340, 674)
  | _, false => (4783, 7365, 8678, 2189, 876)
  | _, true => (4096, 6450, 7601, 1917, 767)

/-- A YCbCr sample as 10-bit R, G and B (R254). -/
def yuvRgb (fmt : Word) (y cb cr : Nat) : Nat × Nat × Nat :=
  let full := nbit fmt.toNat 10
  let (ky, krv, kbu, kgv, kgu) := yuvCoef (wfld fmt 9 8) full
  let yd : Int := Int.ofNat y - (if full then 0 else 64)
  let u : Int := Int.ofNat cb - 512
  let v : Int := Int.ofNat cr - 512
  let out (x : Int) : Nat := (clampI 0 1023 ((x + 2048) / 4096)).toNat
  (out (ky * yd + krv * v), out (ky * yd - kgu * u - kgv * v), out (ky * yd + kbu * u))

/-- A pixel for filtering: A, and R, G and B at 10 bits. -/
abbrev Px10 := Nat × Nat × Nat × Nat

/-- A raw sample converted (R192, R254); a missing sample is transparent. -/
def State.mbConvert (s : State) (h p : Nat) (fmt : Word) (raw : Option (Nat × Nat × Nat)) : Px10 :=
  match raw with
  | none => (0, 0, 0, 0)
  | some (v, cb, cr) =>
    let f := wfld fmt 3 0
    if f < 8 then
      let c := s.colourOf h f (s.fld (kMb h p 0x34) 13 0) false (s.bit (kMb h p 0x34) 29) (some v)
      (c.a, wide10 c.r, wide10 c.g, wide10 c.b)
    else
      let (r, g, b) := yuvRgb fmt v cb cr
      (255, r, g, b)

/-- Two pixels weighted (R255). -/
def mixPx (w : Nat) (p q : Px10) : Px10 :=
  let m (a b : Nat) : Nat := (a * (256 - w) + b * w + 128) / 256
  (m p.1 q.1, m p.2.1 q.2.1, m p.2.2.1 q.2.2.1, m p.2.2.2 q.2.2.2)

/-- PM of a bitmap plane's pixels (R192, R254). -/
def State.mbPm (s : State) (h p fmt : Nat) : Bool := if fmt < 3 then s.bit (kMb h p 0x34) 30 else fmt == 7

/-- The source pixels of a fetched output row for output column i, and their weights (R255): one, or the four of a bilinear step. -/
def State.bmTaps (s : State) (h : Nat) (b : BmRow) (i : Nat) : List BmTap × Nat × Nat :=
  let (c0, c1, wx) := sampleAt b.sw b.stepX i b.bilin
  let (r0, r1, wy) := sampleAt b.sh b.stepY (b.line - b.top) b.bilin
  let at_ (r c : Nat) : BmTap :=
    { px := s.mbConvert h b.plane b.buf.fmt (match b.rows.find? fun e => e.1 == r with
        | some e => (e.2.getD c none)
        | none => none)
      from_ := b.buf.parts b.posX b.posY r c }
  if !b.bilin then ([at_ r0 c0], wx, wy) else ([at_ r0 c0, at_ r0 c1, at_ r1 c0, at_ r1 c1], wx, wy)

/-- A pixel of its source pixels (R255). -/
def tapPix (taps : List BmTap) (wx wy : Nat) : Px10 :=
  let at_ (i : Nat) : Px10 := (taps.map (·.px)).getD i (0, 0, 0, 0)
  if taps.length ≤ 1 then at_ 0 else mixPx wy (mixPx wx (at_ 0) (at_ 1)) (mixPx wx (at_ 2) (at_ 3))

/-- The render line whose source rows are fetched while LINE is l (R257); none on extension lines. VTOTAL is the copied register:
how long a frame with extension lines will be is not known then (log 91). -/
def Head.fetchLine (q : Head) (l : Nat) : Option Nat := if l < q.vtotal then some ((l + q.bpref) % q.vtotal) else none

/-- What was fetched for a line is still to be drawn, or was fetched last, while LINE is l. -/
def Head.fetchKept (q : Head) (l line : Nat) : Bool :=
  decide (q.vtotal ≤ l) || decide ((line + q.vtotal - l) % q.vtotal ≤ q.bpref)

/-- The rows of the output row on render line l are fetched, the slot's top line being `top`; a whole row that the output row before
brought from the same place of the same buffer is kept, and one with bad samples is fetched again (R257, R258, R260). A row that
was not admitted brings nothing and is transparent (R259). -/
def State.bmFetch (s : State) (h p l top : Nat) (admitted : Bool) : State :=
  let m := s.mbActive h p
  let q := s.head h
  let sw := s.mbSw h p
  let sh := s.mbSh h p
  let bilin := s.mbBilin h p
  let stepY := s.mbStepY h p
  let posX := s.fld (kMb h p 0x24) 12 0
  let posY := s.fld (kMb h p 0x24) 28 16
  let (lo, hi, _) := sampleAt sh stepY (l - top) bilin
  let prev := q.bm.find? fun b =>
    b.plane == p && b.line + 1 == l && b.sw == sw && b.buf == m && b.posX == posX && b.posY == posY
  let row (r : Nat) : Nat × List (Option (Nat × Nat × Nat)) :=
    match prev.bind fun b => if r ≤ b.last then b.rows.find? fun x => x.1 == r && x.2.all (·.isSome) else none with
    | some x => x
    | none => (r, s.mbRow h m sw posX posY r)
  let new : BmRow :=
    { plane := p, line := l, top := top, posX := posX, posY := posY, buf := m, sw := sw, sh := sh, stepX := s.mbStepX h p,
      stepY := stepY, bilin := bilin,
      rows := if !admitted then [] else if lo = hi then [row lo] else [row lo, row hi], last := hi }
  s.setHead h { q with bm := q.bm ++ [new] }

/-- One of the ranges that a pixel was fetched from lies in a range of addresses. -/
def cameFrom (l : List (Nat × Nat)) (a n : Nat) : Bool := l.any fun k => inRanges [(a, n)] (k.1 % 2 ^ 40) k.2

/-- The slot shows plane p, and source pixels that came from a range of addresses are transparent (R260). -/
def SlotFrom.bmCut (p a n : Nat) : SlotFrom → SlotFrom
  | .bitmap k taps wx wy pm la rule =>
    .bitmap k (if k = p then taps.map fun t => if cameFrom t.from_ a n then { t with px := (0, 0, 0, 0) } else t else taps)
      wx wy pm la rule
  | x => x

/-- A fetch of bitmap plane p on this line has returned bad data over a range of addresses: every sample it supplies is absent from
the rows fetched while LINE is as it is, and, where that row is the line's own, from the pixels drawn already (R260). -/
def State.bmSpoil (s : State) (h p a n : Nat) : State :=
  let q := s.head h
  let now := q.fetchLine q.line
  let cut (b : BmRow) : BmRow :=
    if b.plane == p && now == some b.line then
      { b with rows := b.rows.map fun e => (e.1, e.2.zipIdx.map fun x =>
          if cameFrom (b.buf.parts b.posX b.posY e.1 x.2) a n then none else x.1) }
    else b
  let redo (b : LineBuf) : LineBuf :=
    if b.line == q.line && b.fnum == q.fnum && now == some q.line then
      { b with cols := b.cols.map fun c => { c with slots := c.slots.map fun e => (e.1, e.2.bmCut p a n) } }
    else b
  s.setHead h { q with bm := q.bm.map cut, bufs := q.bufs.map redo }

/-! ### The flattened surface (R266 to R271) -/

/-- FLAT_STAT. -/
def kFlat (h : Nat) : Nat := kHead h 0x24
/-- The surface is valid. -/
def State.surfValid (s : State) (h : Nat) : Bool := s.bit (kFlat h) 31
/-- A capture is running. -/
def State.capturing (s : State) (h : Nat) : Bool := s.bit (kFlat h) 30

/-- The slots below the surface slot: the group (R266). -/
def State.inGroup (s : State) (h m : Nat) : Bool :=
  match s.surfSlot h with
  | some k => decide (m < k)
  | none => false

/-- The group holds a source. -/
def State.groupHolds (s : State) (h src : Nat) : Bool :=
  match s.slotOf h src with
  | some m => s.inGroup h m
  | none => false

/-- The landing of a staged write to a register is an invalidation (R268). -/
def State.isInval (s : State) (h key : Nat) : Bool :=
  match s.surfSlot h with
  | none => false
  | some k =>
    let off := key % 0x100000
    if kHead h 0 ≤ key ∧ key < kHead h 0x1000 then
      off == 0 || off == 4 || (decide (0x100 ≤ off) && decide (off < 0x110 + 0x10 * k))
        || (decide (0x200 ≤ off) && decide (off < 0x300) && s.groupHolds h (7 + (off - 0x200) / 0x40))
    else if 0x1000 ≤ off ∧ off < 0x1400 then s.groupHolds h (1 + (off - 0x1000) / 0x100)
    else if off < 0x300 then (List.range 6).any fun i => s.groupHolds h (1 + i)
    else false

/-- An invalidation lands at the boundary under way, or waits for the start of the beams. -/
def State.markInval (s : State) (h : Nat) : State := s.setHead h { s.head h with invalHere := true }

/-- A running capture is abandoned. -/
def State.abandonCapture (s : State) (h : Nat) : State := s.setB (kFlat h) 30 false

/-- The invalidations of a boundary apply: at a line boundary at once, at a span boundary from the next line; INVALS
counts the boundary while an enabled slot holds the surface (R268). -/
def State.applyInval (s : State) (h : Nat) (atLine : Bool) : State :=
  let q := s.head h
  let hit := q.invalHere || q.writeInval
  let old := atLine && q.invalNext
  let s := s.setHead h { q with
    invalHere := false, writeInval := false, invalNext := if atLine then false else q.invalNext || hit }
  let s := if hit && (s.surfSlot h).isSome then s.incSat (kFlat h) 15 0 else s
  let s := if hit then s.abandonCapture h else s
  if (hit && atLine) || old then (s.setB (kFlat h) 31 false).abandonCapture h else s

/-- The surface at the render boundary of line VACT_START, invalidations applied: a whole capture becomes valid, and a
capture starts where nothing is valid (R267). -/
def State.surfaceAtTop (s : State) (h : Nat) : State :=
  if (s.surfSlot h).isNone then s
  else
    let s := if s.capturing h then (s.setB (kFlat h) 31 true).abandonCapture h else s
    if s.surfValid h then s
    else
      let s := s.setHead h { s.head h with surf := [], surfLinear := s.bit (kHead h 0) 0 }
      s.setB (kFlat h) 30 true

/-- Without an enabled surface slot nothing is valid and no capture runs (R274). -/
def State.surfaceGone (s : State) (h : Nat) : State :=
  if (s.surfSlot h).isNone then (s.setB (kFlat h) 31 false).abandonCapture h else s

/-- The bytes of a surface row (R269). -/
def State.surfBytes (s : State) (h : Nat) : Nat :=
  32 * ceilDiv ((s.head h).hact * (if s.bit (kHead h 0) 0 then 8 else 4)) 32

/-- The bytes of a surface pixel (R266, R269). -/
def surfPx (linear : Bool) : Nat := if linear then 8 else 4

/-- The address of column x of row r of head h's surface (R266, R416): the surfaces stand 128 MiB apart from the start of the house
working area, each row in the bytes of R269 (the places are the Counting-House's: DESIGN CHOICE, log 92). -/
def State.surfAddr (s : State) (h r x : Nat) : Nat :=
  let q := s.head h
  let px := surfPx q.surfLinear
  s.houseFirst + (s.plan.houseGranules - 2) * 0x40000000 + h * 0x8000000 + r * (32 * ceilDiv (q.hact * px) 32) + x * px

/-- A surface pixel as it is stored (R266). -/
def State.surfWord (s : State) (h r x : Nat) : Nat := s.loadN (s.surfAddr h r x) (surfPx (s.head h).surfLinear)

/-- A surface pixel holds uncorrectable data (R271). -/
def State.surfMarked (s : State) (h r x : Nat) : Bool := s.marked (s.surfAddr h r x) (surfPx (s.head h).surfLinear)

/-- A row of the running capture is written (R267, R269). -/
def State.surfPut (s : State) (h r : Nat) (px : List Nat) : State :=
  (s.poke (s.surfAddr h r 0) (px.flatMap (leBytes (surfPx (s.head h).surfLinear)))).setHead h
    { s.head h with surf := (s.head h).surf ++ [r] }

/-- A surface read returns for columns of the line being served (R271): uncorrectable data shows BG there, the surface stops being
valid from the next line, and the memory system notes the error (R415). `bad`: the read finds the first column's word
uncorrectable; words that carry a mark are found as they are. -/
def State.surfaceReturn (s : State) (h first last : Nat) (bad : Bool) : State :=
  let q := s.head h
  let a := s.surfAddr h (q.line - q.vactStart) first
  let n := (last + 1 - first) * surfPx q.surfLinear
  if !s.surfValid h then s
  else if !(bad || s.marked a n) then s.mends a n
  else match q.bufs.find? fun b => b.line == q.line && b.fnum == q.fnum && b.served with
    | none => s
    | some b =>
      let s := (if bad then s.mark a else s).meets a n
      let b' := { b with cols := b.cols.map fun c => if first ≤ c.x ∧ c.x ≤ last then { c with row := some c.bg } else c }
      s.setHead h { q with
        bufs := q.bufs.map fun c => if c.line == b.line && c.fnum == b.fnum then b' else c
        surfBad := (q.line, first, last) :: q.surfBad.filter fun e => e.1 == q.line
        invalNext := true }

/-! ### Drawing a span (R244 to R251) -/

/-- An engine pixel as the blender takes it. -/
def slotOfArgb (linear : Bool) (la rule : Nat) (p : Argb) : SlotPx :=
  { a := p.a, r := blendIn linear (wide10 p.r), g := blendIn linear (wide10 p.g), b := blendIn linear (wide10 p.b),
    pm := p.pm, la := la, rule := rule }

/-- The extent of slot m that shapes a bitmap plane on render line l: as POS and SIZE stood BPREF lines before (R257). -/
def State.delayedBox (s : State) (h l m : Nat) : Extent :=
  match (s.head h).exts.find? fun e => e.1 == l with
  | some e => e.2.getD m Extent.none
  | none => s.slotBox h m

/-- What the slots show at one column, lowest slot first, each with its slot; slots that leave D unchanged are left out. -/
def State.slotsAt (s : State) (h l x : Nat) (linear : Bool) : List (Nat × SlotFrom) :=
  let q := s.head h
  (List.range 8).filterMap fun m =>
    let src := s.slotSrc h m
    let k := kLayer h m 0
    let la := s.fld k 7 0
    let rule := s.fld k 26 25
    let e := s.slotExtent h m
    if src = 0 || src = 0xC then none
    else if 7 ≤ src && src ≤ 0xA then
      let d := s.delayedBox h l m
      if !(d.onLine l && d.onCol x) then none
      else match q.bm.find? fun b => b.plane == src - 7 && b.line == l with
        | none => some (m, .fill (slotOfArgb linear la rule Argb.clear))
        | some b =>
          let (taps, wx, wy) := s.bmTaps h b (x - d.left)
          some (m, .bitmap b.plane taps wx wy (s.mbPm h b.plane b.buf.format) la rule)
    else if !(e.onLine l && e.onCol x) then none
    else if src = 0xB then
      some (m, .fill (slotOfArgb linear la rule (argbOf (s.rdN (kLayer h m 0xC)) (s.bit k 24))))
    else some (m, .engine (src - 1) la rule)

/-- The pixel of engine plane i (T0 to T3, S0, S1) at a drawn column. -/
def DrawnCol.plane (c : DrawnCol) (i : Nat) : Argb :=
  if i < 4 then (c.tiles.getD i (Argb.clear, [])).1 else frontPix c.spr (i - 4)

/-- A slot's pixel as the blender takes it (R248, R255). -/
def DrawnCol.slotPx (c : DrawnCol) (linear : Bool) : SlotFrom → SlotPx
  | .fill p => p
  | .engine i la rule => slotOfArgb linear la rule (c.plane i)
  | .bitmap _ taps wx wy pm la rule =>
    let (a, r, g, b) := tapPix taps wx wy
    { a := a, r := blendIn linear r, g := blendIn linear g, b := blendIn linear b, pm := pm, la := la, rule := rule }

/-- The blended pixels of the slots that a test picks (R249). -/
def DrawnCol.blend (c : DrawnCol) (linear : Bool) (pick : Nat → Bool) (d : Nat × Nat × Nat) : Nat × Nat × Nat :=
  ((c.slots.filter fun e => pick e.1).map fun e => c.slotPx linear e.2).foldl (blendSlot (blendTop linear)) d

/-- D as the group leaves it: drawn live, or as the surface gave it (R266, R267). -/
def DrawnCol.group (c : DrawnCol) (linear : Bool) : Nat × Nat × Nat :=
  match c.surf, c.row with
  | none, _ => c.bg
  | some _, some d => d
  | some k, none => c.blend linear (fun m => decide (m < k)) c.bg

/-- The column composited: 10-bit R, G and B packed as R266 packs them (R249, R266, R267). -/
def DrawnCol.out (c : DrawnCol) (linear : Bool) : Nat :=
  packOut linear (c.blend linear (fun m => match c.surf with
    | none => true
    | some k => decide (k < m)) (c.group linear))

/-- The composited pixels of a line, and the group's pixels for a capture (R249, R266). -/
def LineBuf.px (b : LineBuf) : List Nat := b.cols.map (·.out b.linear)
def LineBuf.group (b : LineBuf) : List Nat := b.cols.map fun c => packSurf b.linear (c.group b.linear)

/-- The first hits of the sprites that meet on the columns of a line drawn so far (R232). -/
def LineBuf.hits (b : LineBuf) : List (Nat × Nat × Nat × Nat) :=
  b.cols.foldl (fun t c => columnHits t (c.spr.map (·.1)) c.x) []

/-- Engine pixels of a column that came from a range of addresses are transparent (R213, R231). -/
def DrawnCol.peCut (a n : Nat) (c : DrawnCol) : DrawnCol :=
  { c with
    tiles := c.tiles.map fun e => if cameFrom e.2 a n then (Argb.clear, []) else e
    spr := c.spr.filter fun e => !cameFrom e.2.2 a n }

/-- A fetch of head h's pattern engine has returned bad data on this line: every pixel of the line that it supplies is transparent,
drawn already or still to be drawn, and meets no other (R213, R231, R232). -/
def State.peSpoil (h a n : Nat) (s : State) : State :=
  let q := s.head h
  let cut (b : LineBuf) : LineBuf :=
    if b.line == q.line && b.fnum == q.fnum then { b with cols := b.cols.map (·.peCut a n) } else b
  let bufs := q.bufs.map cut
  s.setHead h { q with
    peBad := q.peBad ++ [(a, n)], bufs := bufs
    hits := match bufs.find? fun b => b.line == q.line && b.fnum == q.fnum with
      | some b => b.hits
      | none => q.hits }

/-- The engine planes that draw on the line: all, none on a withheld line or after an internal-check failure, and not those
of a group that the surface serves (R238, R267, R316). -/
def State.planeLive (s : State) (h : Nat) (served : Bool) (i : Nat) : Bool :=
  let q := s.head h
  !q.price.withheld && !q.engineBad && !(served && s.groupHolds h (i + 1))

/-- A span of the line now being prepared is drawn into its line buffer, its collisions recorded and capped spans counted
(R197, R204, R220, R232, R247). -/
def State.drawSpan (s : State) (h sp : Nat) : State :=
  let q := s.head h
  match q.bufs.find? fun b => b.line == q.line && b.fnum == q.fnum with
  | none => s
  | some b =>
    if !b.active then s
    else
      let live := s.planeLive h b.served
      let tiles := (List.range 4).map fun t =>
        if live t then s.tileSpan h t q.line sp else ((q.cols sp).map fun _ => (Argb.clear, []), false)
      let r := q.line - q.vactStart
      let bg := s.bgD h b.linear
      let col (k x : Nat) : DrawnCol :=
        let bad := s.surfMarked h r x || q.surfBad.any fun e => e.1 == q.line && decide (e.2.1 ≤ x) && decide (x ≤ e.2.2)
        { x := x, bg := bg, surf := s.surfSlot h
          row := if !b.served then none else some (if bad then bg else unpackSurf b.linear (s.surfWord h r x))
          tiles := tiles.map fun e => e.1.getD k (Argb.clear, [])
          spr := (s.sprAt h q.line x).filter fun e => live (4 + e.1.plane)
          slots := s.slotsAt h q.line x b.linear }
      let b' := { b with cols := b.cols ++ (q.cols sp).zipIdx.map fun e => col e.2 e.1 }
      let s := s.setHead h { q with
        hits := b'.hits, bufs := q.bufs.map fun c => if c.line == b.line && c.fnum == b.fnum then b' else c }
      (List.range 4).foldl (fun t i =>
        if (tiles.getD i ([], false)).2 then t.incSat (kTile h i 0x40) 15 0 else t) s

/-- The planes T0 to T3, S0 and S1 whose line buffer the engine writes on line l, as a mask (R312): those that draw on it. -/
def State.planesWritten (s : State) (h l : Nat) (served : Bool) : Nat :=
  (List.range 6).foldl (fun n i =>
    let draws := if i < 4 then s.tDraws h i l else s.sDraws h (i - 4) l
    if draws && s.planeLive h served i then n + 2 ^ i else n) 0

/-- The engine digest of a line (R312). -/
def engineDigest (b : LineBuf) (p : Price) : Nat :=
  crc32c (((List.range 6).filter (nbit b.writes)).flatMap (fun i => b.cols.flatMap fun c => leBytes 4 (c.plane i).word)
    ++ leBytes 4 p.clk ++ leBytes 4 p.bytes ++ leBytes 4 p.shed ++ leBytes 4 p.withheld.toNat)

/-- The bytes of line l admitted against BB: the surface, then M0 to M3 (R258, R259). The surface is charged where it is read or
captured; where it is neither, after an abandoned capture, it moves no bytes and charges none (R269: DESIGN CHOICE, log 100).
Answers MBYTES, whether the surface is admitted, and the planes admitted and dropped. -/
def State.admitPlanes (s : State) (h l : Nat) : Nat × Bool × List Nat × List Nat :=
  let q := s.head h
  let bb := s.byteBudget h
  let want := (s.surfSlot h).isSome && q.activeLine l && (s.surfValid h || s.capturing h)
  let surf := if want && s.surfBytes h ≤ bb then s.surfBytes h else 0
  let ahead := q.fetchLine l
  let (n, ok, no) := (List.range 4).foldl (fun (acc : Nat × List Nat × List Nat) p =>
    let e := s.extentOf h (7 + p)
    let m := s.mbActive h p
    if ahead.isNone || !e.onLine (ahead.getD 0) || 0xE ≤ m.format then acc
    else
      let c := fetchCharge m.format (s.mbSw h p) (s.mbSh h p) (s.mbStepY h p) (ahead.getD 0 - e.top) (s.mbBilin h p)
      if acc.1 + c ≤ bb then (acc.1 + c, acc.2.1 ++ [p], acc.2.2) else (acc.1, acc.2.1, acc.2.2 ++ [p])) (surf, [], [])
  (n, want && s.surfBytes h ≤ bb, ok, no)

/-- The line now being prepared is admitted, priced and given its buffer (R234, R257 to R259). -/
def State.prepareLine (s : State) (h : Nat) : State :=
  let q := s.head h
  let l := q.line
  let (mbytes, surf, ok, no) := s.admitPlanes h l
  let refused := (s.surfSlot h).isSome && q.activeLine l && (s.surfValid h || s.capturing h) && !surf
  let s := if refused then s.abandonCapture h else s
  let s := no.foldl (fun t p => t.incSat (kMb h p 0x38) 15 0) s
  let ahead := (q.fetchLine l).getD 0
  let s := ok.foldl (fun t p => t.bmFetch h p ahead (s.extentOf h (7 + p)).top true) s
  let s := no.foldl (fun t p => t.bmFetch h p ahead (s.extentOf h (7 + p)).top false) s
  let served := surf && s.surfValid h
  let p := s.priceLine h l mbytes fun i => !(served && s.groupHolds h (i + 1))
  let q := s.head h
  let s := s.setHead h { q with
    price := { sprites := p.kept, withheld := p.withheld, clk := p.clk, bytes := p.bytes, shed := p.shed, admitted := ok,
               surface := served }
    hits := []
    surfBad := []
    peBad := []
    hitRing := if s.bit (kPe h 0xC) 31 then some (s.fld (kPe h 0xC) 11 0) else none
    bm := q.bm.filter fun b => q.fetchKept l b.line
    exts := (q.exts.filter fun e => q.fetchKept l e.1)
      ++ (if (q.fetchLine l).isSome then [(ahead, (List.range 8).map (s.slotBox h))] else []) }
  let buf : LineBuf :=
    { line := l, fnum := q.fnum, active := q.activeLine l, linear := s.bit (kHead h 0) 0, served := served, cols := [],
      writes := s.planesWritten h l served }
  let s := s.setHead h { s.head h with bufs := q.bufs ++ [buf] }
  let s := s.logPrice h l p
  s.sortQuota h p.bytes

/-! ### COMMIT, the commit line and fences (R261 to R265) -/

/-- HEADn_COMMIT_STAT. -/
def kCommit (h : Nat) : Nat := kHead h 0x14

/-- The scan line, with its frame number, that a boundary under way has reached for both beams: the render command may come first. -/
def Head.scanAt (q : Head) : Nat × Nat :=
  if q.rlead < q.ahead.length then q.ahead.head?.getD (q.scan, q.scanFnum) else (q.scan, q.scanFnum)

/-- Its line. -/
def Head.scanNow (q : Head) : Nat := q.scanAt.1

/-- How far the commit line lies before VACT_START (R9). -/
def Head.lead (q : Head) : Nat := q.rlead + q.bpref

/-- The commit line that lies in frame f, with that frame's own length (R9, R263, R277). Where it would lie before line 0 it stands at the
end of the frame before, as a start out of PSR allows (R301); in a frame that the render beam has not ended it is not reached yet,
except that the length of such a frame is taken from the register while BPREF exceeds VACT_START (log 91). -/
def Head.commitLine (q : Head) (f : Nat) : Option Nat :=
  if q.lead ≤ q.vactStart then some (q.vactStart - q.lead)
  else if f = q.fnum && decide (q.bpref ≤ q.vactStart) then none
  else
    let len := if f = q.fnum then q.vtotal else q.frameLen
    some ((q.vactStart + 8 * len - q.lead) % len)

/-- The scan line under way is the commit line of its frame. -/
def Head.atCommit (q : Head) : Bool := q.commitLine q.scanAt.2 == some q.scanAt.1

/-- The scan beam is at or past the start of a commit line, and has not started line VACT_START (R10, R262). -/
def Head.pastCommit (q : Head) : Bool :=
  let past := match q.commitLine q.scanAt.2 with
    | some c => decide (c ≤ q.scanNow)
    | none => false
  if q.lead ≤ q.vactStart then past && decide (q.scanNow < q.vactStart) else past || decide (q.scanNow < q.vactStart)

/-- Plane p latches: its shadow group becomes active (R263). -/
def State.latchPlane (s : State) (h p : Nat) : State :=
  let inv := s.groupHolds h (7 + p)
  let q := s.head h
  let s := s.setHead h { q with
    mb := (List.range 4).map fun i => if i = p then s.mbShadow h p else q.mb.getD i MbActive.reset }
  let s := (s.setB (kCommit h) p false).setB (kCommit h) (4 + p) false
  if inv then s.markInval h else s

/-- At least one plane latched: LATCHES, LATCH_EVT and the COMMIT producer (R263, R273). -/
def State.latched (s : State) (h : Nat) : State :=
  let s := (s.incWrap (kCommit h) 31 24).setB (kCommit h) 8 true
  s.produce (s.plan.headBench h) (kHead h 0x28)

/-- The pending planes that the fences let latch, and those held (R263). -/
def State.latchSplit (s : State) (h : Nat) : List Nat × List Nat :=
  let pend := (List.range 4).filter fun p => s.bit (kCommit h) p
  let free (p : Nat) : Bool := !s.bit (kMb h p 4) 30 || s.bit (kMb h p 0x38) 31
  (pend.filter free, pend.filter fun p => !free p)

/-- The commit line starts (R263). -/
def State.commitLineStart (s : State) (h : Nat) : State :=
  let (ok, held) := s.latchSplit h
  let s := ok.foldl (fun t p => t.latchPlane h p) s
  let s := held.foldl (fun t p => (t.incSat (kHead h 0x1C) 31 0).setB (kCommit h) (4 + p) true) s
  let s := if ok.isEmpty && held.isEmpty then s
    else
      let q := s.head h
      s.record h [recHead 0x05 1 (q.scanNow) q.recSpan 1 (maskOf held * 16 + maskOf ok)]
  if ok.isEmpty then s else s.latched h

/-- While the beam is stopped a pending plane latches as soon as its fence allows (R265). -/
def State.latchStopped (s : State) (h : Nat) : State :=
  if (s.head h).moving then s
  else
    let (ok, _) := s.latchSplit h
    if ok.isEmpty then s
    else
      let s := ok.foldl (fun t p => t.latchPlane h p) s
      (s.recScan h 0x05 (maskOf ok) []).latched h

/-- A write of HEADn_COMMIT is accepted (R262, R325). -/
def State.commit (s : State) (h planes : Nat) : State :=
  let q := s.head h
  let new := (List.range 4).filter fun p => nbit planes p && !s.bit (kCommit h) p
  let late := q.moving && q.pastCommit && !new.isEmpty
  let s := s.recScan h 0x04 ((if late then 16 else 0) + planes % 16) []
  let s := new.foldl (fun t p => t.setB (kCommit h) p true) s
  let s := if late then s.incSat (kHead h 0x18) 31 0 else s
  s.latchStopped h

/-- A write of MBp_FENCE (R264). While the beam is stopped, clearing EN lets a plane that its unsignalled fence held latch at once, as its
fence being signalled would (R265 names no such case: DESIGN CHOICE, log 100). -/
def State.fenceWrite (s : State) (h p : Nat) (v : Word) (be : Nat) : State :=
  let s := s.store (kMb h p 4) v be
  let s := if nbit be 3 && nbit v.toNat 31 then s.setB (kMb h p 0x38) 31 false else s
  s.latchStopped h

/-- An event reaches a fence (R264, R265). -/
def State.fenceSignal (s : State) (h p : Nat) : State := (s.setB (kMb h p 0x38) 31 true).latchStopped h

end Sys2Proof.Machine
end

