-- ==== Sys2Proof/Machine/Stage.lean ====
section
/-!
DEFINITION. Staged writes, palette writes and shadow writes of a head (R172 to R179, R261): the pending sets, what lands at a
boundary, and the daybook's WRITE and PAL records.
-/
namespace Sys2Proof.Machine

/-- A line-view address of head h's engine window. -/
def isPe (h key : Nat) : Bool := decide (kPe h 0 ≤ key) && decide (key < kPe h 0x80000)

/-- The effect instant of the register at a line-view address (R172). -/
def effAt (key : Nat) : Option Eff := (regRow key).map (·.eff)

/-- A palette entry's address. -/
def isPal (h key : Nat) : Bool := decide (kPe h 0x10000 ≤ key) && decide (key < kPe h 0x20000)

/-- A WRITE record (R324): KIND 0 a staged landing, 1 a shadow write accepted, 2 an on-write register accepted. -/
def State.recWrite (s : State) (h kind : Nat) (e : Pend) : State :=
  s.recRender h 0x02
    (e.key % 0x100000 * 32 + (if isPe h e.key then 0 else 16) + kind * 4 + (if e.span then 2 else 0)
      + (if e.fabric then 1 else 0))
    [e.be % 16 * 2 ^ 32 + e.val.toNat]

/-- A PAL record (R324). -/
def State.recPal (s : State) (h : Nat) (e : Pend) : State :=
  s.recRender h 0x03
    ((if e.fabric then 1 else 0) * 2 ^ 18 + e.be % 16 * 2 ^ 14 + (e.key - kPe h 0x10000) / 4 % 16384) [e.val.toNat]

/-- What a word written to head h's engine does in the journeyman too, where it holds a copy of that engine: it takes the place of what the
Counting-House wrote there (R27, R309). -/
def State.jmFollows (s : State) (h key : Nat) : State :=
  if s.jm.edited.isEmpty || s.jm.mirror != some h || !isPe h key then s
  else { s with jm := { s.jm with edited := s.jm.edited.filter fun o => o != key - kPe h 0 } }

/-- A staged value lands on its register (R174, R179, R227, R268). -/
def State.landWord (s : State) (h : Nat) (e : Pend) : State :=
  let inv := s.isInval h e.key
  let was := s.bit (kPe h 0) 31
  let s := (s.store e.key e.val e.be).jmFollows h e.key
  let s := s.recWrite h 0 e
  let s := if e.key = kPe h 0 then s.sprCtlLanded h was else s
  if inv then s.markInval h else s

/-- A staged value lands while the beam is stopped: a written origin is loaded at once (R177, R201). -/
def State.landStopped (s : State) (h : Nat) (e : Pend) : State :=
  ((s.landWord h e).originLoad h [e.key]).surfaceGone h

/-- A set with a write entered: it replaces the register's earlier value in place, byte by byte (R174). None when the set
is full (R176). -/
def enterSet (set : List Pend) (e : Pend) : Option (List Pend) :=
  match set.find? fun p => p.key == e.key with
  | some p =>
    let e' := { e with val := storeWord p.val e.val e.be 0xFFFFFFFF 0, be := p.be ||| e.be }
    some (set.map fun x => if x.key == e.key then e' else x)
  | none => if 512 ≤ set.length then none else some (set ++ [e])

/-- A staged write carries the span attribute: written through the span view, to a register that may land at a span
boundary (R173, R200, R241, R272). -/
def spanAttr (key : Nat) (span : Bool) : Bool := span && effAt key == some .staged

/-- A staged write is taken by its port; none when its set is full (R173 to R177). -/
def State.stage (s : State) (h : Nat) (e : Pend) : Option State :=
  let q := s.head h
  let e := { e with order := q.order }
  if !q.moving then some ((s.setHead h { q with order := q.order + 1 }).landStopped h e)
  else if spanAttr e.key e.span then
    (enterSet q.spanSet e).map fun t => s.setHead h { q with spanSet := t, order := q.order + 1 }
  else
    (enterSet q.lineSet e).map fun t => s.setHead h { q with lineSet := t, order := q.order + 1 }

/-- A palette write: the entry is written and its mark ends; the pixels see it from the next boundary, where its PAL record
stands, or at once while the beam is stopped (R178, R179, R197, R198). -/
def State.paletteWrite (s : State) (h : Nat) (e : Pend) : State :=
  let s := (s.store e.key e.val e.be).jmFollows h e.key
  let s := { s with marks := s.marks.filter fun m => m != e.key }
  let q := s.head h
  if q.moving then s.setHead h { q with pals := q.pals ++ [e], writeInval := true }
  else (s.recPal h e).setHead h { (s.recPal h e).head h with writeInval := true }

/-- A write of a bitmap plane's shadow group (R261, R325). -/
def State.shadowWrite (s : State) (h : Nat) (e : Pend) : State := (s.store e.key e.val e.be).recWrite h 1 e

/-- The most entries of either set at a boundary (R185). -/
def State.stagePeak (s : State) (h : Nat) : State :=
  let q := s.head h
  let k := kCore (32 + h) 0x4C
  s.setF k 9 0 (max (s.fld k 9 0) (max q.lineSet.length q.spanSet.length))

/-- PAL records of the palette writes seen from this boundary (R179). -/
def State.seePals (s : State) (h : Nat) : State :=
  let q := s.head h
  q.pals.foldl (fun t e => t.recPal h e) (s.setHead h { q with pals := [] })

/-- Both sets land at a line boundary, in staging order, and every running origin loads or steps (R174, R201). -/
def State.landLine (s : State) (h : Nat) : State :=
  let s := s.stagePeak h
  let q := s.head h
  let all := (q.lineSet ++ q.spanSet).mergeSort fun a b => decide (a.order ≤ b.order)
  let s := s.setHead h { q with lineSet := [], spanSet := [] }
  let s := all.foldl (fun t e => t.landWord h e) s
  let s := s.originStep h (all.map (·.key))
  s.seePals h

/-- The span set lands at a span boundary (R174, R201). -/
def State.landSpan (s : State) (h : Nat) : State :=
  let s := s.stagePeak h
  let q := s.head h
  let all := q.spanSet.mergeSort fun a b => decide (a.order ≤ b.order)
  let s := s.setHead h { q with spanSet := [] }
  let s := all.foldl (fun t e => t.landWord h e) s
  let s := s.originLoad h (all.map (·.key))
  s.seePals h

/-- Writes still pending when the beam stops land in that clock, in staging order (R177). The head is already stopped. -/
def State.landAtStop (s : State) (h : Nat) : State :=
  let q := s.head h
  let all := (q.lineSet ++ q.spanSet).mergeSort fun a b => decide (a.order ≤ b.order)
  let s := s.setHead h { q with lineSet := [], spanSet := [] }
  (all.foldl (fun t e => t.landStopped h e) s).seePals h

/-- STALLS counts a write that found its set full (R176, R185). -/
def State.stageStall (s : State) (h : Nat) : State := s.incSat (kCore (32 + h) 0x4C) 31 16

end Sys2Proof.Machine
end

