-- ==== Sys2Proof/Machine/Assay.lean ====
section
/-!
DEFINITION. The engines and the journeyman (R307 to R319): assays and their verdicts, failures, hand-overs and hand-backs.
-/
namespace Sys2Proof.Machine

/-- HEADn_ENGINE (R334). -/
def State.engineReg (s : State) (h : Nat) : Nat := let e := (s.head h).engine; if e = 15 then 0x1F else e
/-- HEADn_ASSAY as it reads: SUSPENDED and ACTIVE are live (R334). -/
def State.assayReg (s : State) (h : Nat) : Word :=
  let susp := match s.jm.duty with
    | .stand _ => true
    | .retired => true
    | _ => false
  setBit (setBit (s.rd (kHead h 0x10004)) 31 susp) 30
    ((s.jm.duty == .assay h || s.jm.handBack == some h) && s.jm.mirror == some h && s.jm.started)

/-! ### The journeyman's window (R27) -/

/-- The head whose engine state the journeyman's registers hold: the one it serves, or the one it has copied (R27, R309). -/
def State.jmView (s : State) : Option Nat :=
  match s.jm.duty with
  | .stand h => some h
  | _ => if s.jm.copied then s.jm.mirror else none

/-- The journeyman's registers and palette keep what they hold of head h's engine when it leaves that head: window 8's registers
take their values and marks, but for those that the Counting-House has written since. -/
def State.jmKeepFrom (s : State) (h : Nat) : State :=
  let wrote (o : Nat) : Bool := s.jm.edited.contains o
  let own (k : Nat) : Bool := decide (kPe h 0 ≤ k) && decide (k < kPe h 0x80000) && !wrote (k - kPe h 0)
  let mine (k : Nat) : Bool := decide (kPe 8 0 ≤ k) && decide (k < kPe 8 0x80000) && !wrote (k - kPe 8 0)
  let regs := (s.regs.filter fun e => own e.1).foldl (fun r e => Sparse.set regReset r (kPe 8 (e.1 - kPe h 0)) e.2)
    (Sparse.clear mine s.regs)
  let marks := (s.marks.filter own).foldl (fun m k => NatSet.insert m (kPe 8 (k - kPe h 0))) (s.marks.filter fun k => !mine k)
  { s with regs := regs, marks := marks, jm := { s.jm with edited := [] } }

/-- The journeyman's own writes of the Counting-House stand in head h's engine window once it serves that head (R27). -/
def State.jmServes (s : State) (h : Nat) : State :=
  let t := s.jm.edited.foldl (fun t o =>
    let t := t.wr (kPe h o) (t.rd (kPe 8 o))
    { t with marks := t.marks.filter fun m => m != kPe h o }) s
  { t with jm := { t.jm with edited := [] } }

/-- The journeyman leaves the head whose state it holds, keeping what it holds. -/
def State.jmKeep (s : State) : State :=
  match s.jmView with
  | some h => s.jmKeepFrom h
  | none => s

/-- An ENGINE record (R324). -/
def State.recEngine (s : State) (h reason old new : Nat) : State :=
  s.recRender h 0x0C (reason % 16 * 256 + old % 16 * 16 + new % 16) []

/-- A head may be assayed: it runs, shows no safe card and is not served by the journeyman (R313). -/
def State.assayable (s : State) (h : Nat) : Bool :=
  (s.head h).moving && (s.head h).engine != 15 && (s.head h).engine != 8

/-- The next head to assay after head h, in ascending order, wrapping (R313). -/
def State.nextAssay (s : State) (h : Nat) : Option Nat :=
  ((List.range 8).map fun k => (h + 1 + k) % 8).find? s.assayable

/-- The journeyman turns to a head, or idles (R313). -/
def State.jmTurn (s : State) (o : Option Nat) : State :=
  let s := s.jmKeep
  { s with jm := { s.jm with
      duty := match o with
        | some h => .assay h
        | none => .idle
      mirror := o, started := false, copied := false, assaying := false, badLines := 0, firstBad := 0 } }

/-- The journeyman moves on from head h (R313). -/
def State.jmMoveOn (s : State) (h : Nat) : State := s.jmTurn (s.nextAssay h)

/-- The next head to assay after head h that is not the suspect (R315). -/
def State.nextOther (s : State) (h : Nat) : Option Nat :=
  ((List.range 8).map fun k => (h + 1 + k) % 8).find? fun k => s.assayable k && k != s.jm.suspect

/-- A decision goes on to a step about a head (R315). -/
def State.jmStep (s : State) (step suspect : Nat) : State := { s with jm := { s.jm with step := step, suspect := suspect } }

/-- A decision ends with an L0 note and no verdict on an engine: transient or undecided (R315). -/
def State.jmNote (s : State) : State := (s.report 0x0F (0x0400 + s.jm.suspect) 7 0).jmStep 0 0

/-- The third assay of a decision, of the next head after h; with none left the decision is undecided (R315). -/
def State.jmThird (s : State) (h : Nat) : State :=
  match s.nextOther h with
  | some k => (s.jmStep 2 s.jm.suspect).jmTurn (some k)
  | none => s.jmNote.jmMoveOn h

/-- The journeyman goes on after an assay of head h that gave no verdict: a step of a decision restarts at the next qualifying head
(R313 to R315), a confirm with that head in the suspect's place (DEDUCED, log 93). -/
def State.jmGoOn (s : State) (h : Nat) : State :=
  if s.jm.step = 2 then s.jmThird h
  else match s.nextAssay h with
    | some k => (if s.jm.step = 1 then s.jmStep 1 k else s).jmTurn (some k)
    | none => s.jmTurn none

/-- An assay is recorded (R324, R334). `result`: 0 match, 1 mismatch, 2 abandoned. -/
def State.assayRecord (s : State) (h result : Nat) : State :=
  let q := s.head h
  let s := s.recRender h 0x0D result [s.jm.badLines % 2 ^ 19 * 2 ^ 45 + s.jm.firstBad % 8192 * 2 ^ 32 + q.fnum % 2 ^ 32]
  s.setF (kHead h 0x10004) 29 28 result

/-- An assay or mirroring of head h is abandoned with no verdict, and the journeyman moves on (R314). -/
def State.assayAbandon (s : State) (h : Nat) : State :=
  if s.jm.duty == .assay h && s.jm.handOver.isNone then
    (if s.jm.started then s.assayRecord h 2 else s).jmGoOn h
  else s

/-- A head whose engine cannot be replaced shows its safe card from its next scan-beam line 0 (R318). -/
def State.toSafeCard (s : State) (h : Nat) : State := s.setHead h { s.head h with safeNext := true }

/-- PEn is retired (R317, R318). -/
def State.retireEngine (s : State) (e : Nat) : State :=
  ({ s with badEngines := NatSet.insert s.badEngines e }).report 0x10 (0x0300 + e) 7 (s.rdN (kHead e 0x10004))

/-- The journeyman is retired (R315, R318): the head it serves, or was to take over, goes to its safe card, and the engine that had
failed there is retired with it (R335). -/
def State.retireJourneyman (s : State) : State :=
  let s := (s.report 0x11 0x0308 7 0).jmKeep
  let s := match s.jm.duty with
    | .stand h => s.toSafeCard h
    | _ => match s.jm.handOver with
      | some h => (if s.jm.testing.isSome then s else s.retireEngine (s.head h).engine).toSafeCard h
      | none => s
  { s with jm := { s.jm with duty := .retired, mirror := none, started := false, copied := false, assaying := false,
                             step := 0, handOver := none, handBack := none }
           badEngines := NatSet.insert s.badEngines 8 }

/-- The serving engine of head h fails (R316 to R318). A copy of the same head that is already running serves the
hand-over (R335). -/
def State.engineFail (s : State) (h reason : Nat) : State :=
  let e := (s.head h).engine
  if e = 15 then s
  else if e = 8 then s.retireJourneyman
  else
    let free := match s.jm.duty with
      | .idle => s.jm.handOver.isNone
      | .assay _ => s.jm.handOver.isNone
      | _ => false
    if free then
      let same := s.jm.duty == .assay h && s.jm.started
      let s := match s.jm.duty with
        | .assay k => if s.jm.started then s.assayRecord k 2 else s
        | _ => s
      let s := if same then s else s.jmKeep
      { s with jm := { s.jm with duty := .assay h, mirror := some h, started := same, copied := same && s.jm.copied,
                                 assaying := false, step := 0, handOver := some h, reason := reason } }
    else if s.jm.testing == some h && s.jm.handOver == some h then s.retireEngine e
    else (s.retireEngine e).toSafeCard h

/-- The journeyman becomes head h's serving engine, and PEn is retired (R317) unless it is only to be tested (R514). -/
def State.handOverNow (s : State) (h : Nat) : State :=
  let q := s.head h
  let s := s.recEngine h s.jm.reason q.engine 8
  let s := (s.setHead h { s.head h with engine := 8, engineBad := false }).jmServes h
  let s := if s.jm.testing.isSome then s
    else (s.retireEngine q.engine).report 0x0F 0x0308 7 (s.rdN (kHead h 0x10004))
  { s with jm := { s.jm with duty := .stand h, mirror := none, started := false, copied := false, assaying := false,
                             handOver := none } }

/-- A tested engine takes its head back (R319). -/
def State.handBackNow (s : State) (h : Nat) : State :=
  let s := s.recEngine h 4 8 h
  let s := s.setHead h { s.head h with engine := h }
  ({ s with jm := { s.jm with handBack := none } }).jmTurn (s.nextAssay h)

/-- The copy of head h completes (R309, R335); a stopped head has no boundary for it to start at. -/
def State.mirrorDone (s : State) (h : Nat) : State :=
  if s.jm.mirror == some h && (s.jm.started || !(s.head h).moving) && !s.jm.copied then
    let s := { s with jm := { s.jm with copied := true } }
    if (s.head h).moving then s
    else if s.jm.handOver == some h then s.handOverNow h
    else if s.jm.handBack == some h then s.handBackNow h
    else s
  else s

/-- The verdict of an assay frame of head h (R315). -/
def State.verdict (s : State) (h : Nat) (bad : Bool) : State :=
  match s.jm.step, bad with
  | 0, false => s.jmMoveOn h
  | 0, true => (s.jmStep 1 h).jmTurn (some h)
  | 1, false => s.jmNote.jmMoveOn h
  | 1, true => s.jmThird h
  | _, false => ((s.jmStep 0 0).jmTurn none).engineFail s.jm.suspect 1
  | _, true => s.retireJourneyman

/-- An assay frame ends (R313, R315, R334). -/
def State.assayFrameEnd (s : State) (h : Nat) : State :=
  let bad := decide (0 < s.jm.badLines)
  let s := s.assayRecord h (if bad then 1 else 0)
  let s := s.wrN (kHead h 0x10008) (s.head h).fnum
  let s := s.incSat (kHead h 0x10004) 7 0
  let s := if bad then s.incSat (kHead h 0x10004) 15 8 else s
  s.verdict h bad

/-- The journeyman's results differ from the serving engine's on the line that has ended (R311): `jm` says whether its request stream
differs, and the digest it computed where that is not the serving engine's own (R312). -/
def State.jmDiffers (s : State) (h ended : Nat) (jm : Bool × Option Word) : Bool :=
  let q := s.head h
  jm.1 || match jm.2, q.bufs.find? fun b => b.line == ended && b.fnum == q.fnum with
    | some d, some b => d.toNat != engineDigest b q.price
    | _, _ => false

/-- What a render line boundary of head h does for the journeyman, LINE having taken its new value (R309, R311, R313, R317, R319):
the line just ended is compared, an assay frame ends or starts, mirroring that was waiting for this boundary starts, and a
hand-over or hand-back takes effect where LINE takes 0. -/
def State.assayBoundary (s : State) (h ended : Nat) (jm : Bool × Option Word) : State :=
  let q := s.head h
  let waiting := s.jm.mirror == some h && !s.jm.started
  let s := if s.jm.assaying && s.jm.duty == .assay h && q.activeLine ended then
      let s := if s.jmDiffers h ended jm then
          { s with jm := { s.jm with badLines := s.jm.badLines + 1,
                                     firstBad := if s.jm.badLines = 0 then ended else s.jm.firstBad } }
        else s
      if ended + 1 = q.vactStart + q.vact then s.assayFrameEnd h else s
    else s
  let s := if waiting && s.jm.mirror == some h then { s with jm := { s.jm with started := true } } else s
  let s := if q.line = 0 && s.jm.copied then
      if s.jm.handOver == some h then s.handOverNow h
      else if s.jm.handBack == some h then s.handBackNow h
      else s
    else s
  if s.jm.duty == .assay h && s.jm.handOver.isNone && s.jm.copied && !s.jm.assaying && q.line == q.vactStart
  then { s with jm := { s.jm with assaying := true, badLines := 0, firstBad := 0 } } else s

/-- An idle journeyman turns to a head that starts (R313). -/
def State.jmHeadStarts (s : State) : State :=
  match s.jm.duty with
  | .idle => if s.jm.testing.isSome then s else s.jmGoOn 7
  | _ => s

/-- A drawn line with the engine's planes transparent from a column on (R316). -/
def LineBuf.bareFrom (b : LineBuf) (x : Nat) : LineBuf :=
  { b with cols := b.cols.map fun c => if x ≤ c.x then { c with tiles := [], spr := [] } else c }

/-- The tile and sprite planes of head h's engine go transparent in this clock (R316): on lines that the scan beam has not reached, and
on the scan line under way from the span the beams stand in (how far the compositor has come within a span the spec does not say:
DESIGN CHOICE, log 93). -/
def State.planesGone (s : State) (h : Nat) : State :=
  let q := s.head h
  s.setHead h { q with
    engineBad := true
    bufs := q.bufs.map fun b => b.bareFrom (if b.line == q.scan && b.fnum == q.scanFnum then 64 * q.span else 0) }

/-- An engine's internal check fails (R316): its planes go transparent until the hand-over. An engine that has failed already fails
no second time. -/
def State.internalCheck (s : State) (e : Nat) : State :=
  match (List.range 8).find? fun h => e ≤ 8 && (s.head h).engine == e with
  | none => if e = 8 && s.jm.duty != .retired then s.retireJourneyman else s
  | some h =>
    let s := s.planesGone h
    if s.badEngines.contains e || (s.jm.handOver == some h && s.jm.testing.isNone) then s else s.engineFail h 2

end Sys2Proof.Machine
end

