-- ==== Sys2Proof/Machine/Scanout.lean ====
section
/-!
DEFINITION. Scan-out: timing checks, starts and stops, sync edges, output encoding and CRCs, safe cards, the display links,
AUX and Panel Self Refresh (R276 to R306, R537).
-/
namespace Sys2Proof.Machine

/-! ### Flash and safe cards (R496, R537) -/

/-- n bytes of a flash image; a byte never programmed reads 0xFF. -/
def imageBytes (m : List Host.Cell) (a : Nat) : Nat → List Byte
  | 0 => []
  | n + 1 => Sparse.get (fun _ => 0xFF) m a :: imageBytes m (a + 1) n

/-- n bytes of house flash. -/
def State.flashBytes (s : State) (a n : Nat) : List Byte := imageBytes s.flash a n

/-- A number of n bytes in the safe cards as Opening copied them (R526, R537). -/
def State.cardN (s : State) (a n : Nat) : Nat := leNat (imageBytes s.cards a n)

/-- A number of n bytes in house flash. -/
def State.flashN (s : State) (a n : Nat) : Nat := leNat (s.flashBytes a n)

/-- Where head h's card stands. -/
def cardAt (h : Nat) : Nat := 0x10000000 + h * 0x2000000

/-- The card of a head is valid (R537). -/
def State.cardValid (s : State) (h : Nat) : Bool :=
  let a := cardAt h
  let len := s.cardN (a + 52) 4
  s.cardN a 4 == 0x53435244 && s.cardN (a + 60) 4 == crc32c (imageBytes s.cards a 60)
    && decide (s.cardN (a + 6) 2 ≤ 1) && decide (len ≤ 33550336)
    && s.cardN (a + 56) 4 == crc32c (imageBytes s.cards (a + 4096) len)

/-- The timing words of a head's card, or of the card that stands for an invalid one (R537). -/
def State.cardTiming (s : State) (h : Nat) : List Word :=
  if s.cardValid h then (List.range 7).map fun i => BitVec.ofNat 32 (s.cardN (cardAt h + 16 + 4 * i) 4)
  else [0x08980780, 0x002C0058, 0x04650438, 0x00290005, 0x14AFD6A0, 0x00000022, 0x00000000]

/-- The card's pixel at column x and active row y, as packed 10-bit R, G and B (R537). -/
def State.cardPix (s : State) (h x y : Nat) : Nat :=
  let q := s.head h
  let a := cardAt h
  let pack (p : Argb) : Nat := wide10 p.r * 2 ^ 20 + wide10 p.g * 2 ^ 10 + wide10 p.b
  if !s.cardValid h then 0x20080200
  else
    let w := s.cardN (a + 8) 2
    let ht := s.cardN (a + 10) 2
    let left : Int := (Int.ofNat q.hact - Int.ofNat w) / 2
    let top : Int := (Int.ofNat q.vact - Int.ofNat ht) / 2
    let cx := Int.ofNat x - left
    let cy := Int.ofNat y - top
    if 0 ≤ cx ∧ cx < Int.ofNat w ∧ 0 ≤ cy ∧ cy < Int.ofNat ht then
      let row := a + 4096 + cy.toNat * s.cardN (a + 12) 4
      if s.cardN (a + 6) 2 = 0 then pack (argbOf (s.cardN (row + 4 * cx.toNat) 4) false)
      else pack (directPix 3 (s.cardN (row + 2 * cx.toNat) 2))
    else s.cardN (a + 48) 4 % 2 ^ 30

/-! ### Timing checks (R279) -/

/-- The CFG code of a start with these timing words; `ready` is HEAD_RDY (R279). -/
def timingCheck (w : List Word) (ready : Bool) : Nat :=
  let hact := wfld (w.getD 0 0) 11 0
  let htotal := wfld (w.getD 0 0) 29 16
  let hsw := wfld (w.getD 1 0) 28 16
  let hfp := wfld (w.getD 1 0) 12 0
  let vact := wfld (w.getD 2 0) 11 0
  let vtotal := wfld (w.getD 2 0) 29 16
  let vstart := wfld (w.getD 3 0) 28 16
  let vsw := wfld (w.getD 3 0) 12 0
  let div := (w.getD 4 0).toNat
  let lead := w.getD 5 0
  let rate := if hact * vact ≤ 2073600 then 240 else 120
  if !(decide (64 ≤ hact) && decide (hact ≤ 3840) && decide (1 ≤ vact) && decide (vact ≤ 2160)) then 1
  else if !(decide (htotal ≤ 8192) && decide (hact + 64 ≤ htotal) && decide (8 ≤ hfp) && decide (8 ≤ hsw)
      && decide (hfp + hsw + 8 + hact ≤ htotal)) then 2
  else if !(decide (vtotal ≤ 8192) && decide (1 ≤ vsw) && decide (vsw < vstart)
      && decide (leadOf lead + prefOf lead + 1 ≤ vstart) && decide (vstart + vact + 1 ≤ vtotal)) then 3
  else if div < 0x02752547 then 4
  else if 1001 * htotal * vtotal * rate * div < 3072000000 * 2 ^ 24 * 1000 then 5
  else if !ready then 6
  else 0

/-- The timing registers as they stand: HTIME, HSYNC, VTIME, VSYNC, DOTDIV, LEAD, OUT (R280). -/
def State.timingRegs (s : State) (h : Nat) : List Word :=
  [0x1010, 0x1014, 0x1018, 0x101C, 0x1020, 0x1024, 0x1028].map fun o => s.rd (kHead h o)

/-- HEAD_RDY of a head (R54). -/
def State.headReady (s : State) (h : Nat) : Bool :=
  match s.plan.headBench h with
  | some b => s.bit (kBench b 0x14) h
  | none => false

/-- SYNC_CTL as it is in force: from the last render line boundary or start (R304). -/
def Head.syncCtl (q : Head) : Word := q.copy.getD 7 0

/-- STAT.PSR (R301). -/
def State.inPsr (s : State) (h : Nat) : Bool := s.bit (kHead h 0x1004) 29
/-- STAT.SENDING. -/
def State.sending (s : State) (h : Nat) : Bool := s.bit (kHead h 0x1004) 30

/-- HEADn_EVT gains a bit. -/
def State.headEvt (s : State) (h b : Nat) : State := s.setB (kHead h 0x1008) b true

/-- LINK_STAT.STATE. -/
def State.linkSt (s : State) (h : Nat) : Nat := s.fld (kHead h 0x1034) 31 29
/-- LINK_STAT.STATE changes: the LINK event (R304). -/
def State.setLinkSt (s : State) (h st : Nat) : State :=
  if s.linkSt h = st then s else (s.setF (kHead h 0x1034) 31 29 st).headEvt h 2
/-- LINK_STAT.FAIL. -/
def State.setFail (s : State) (h f : Nat) : State := s.setF (kHead h 0x1034) 7 0 f

/-- The head stops being sent (R297, R281). -/
def State.stopSending (s : State) (h : Nat) : State :=
  if s.sending h then
    let s := (s.setB (kHead h 0x1004) 30 false).emit (.idlePattern h)
    let s := s.setHead h { s.head h with sentWhole := false }
    if s.linkSt h = 3 then s.setLinkSt h 2 else s
  else s

/-! ### Starting (R279, R280) -/

/-- A start with given timing words: the checks, CFG, and the copy (R279, R280). -/
def State.startWith (s : State) (h : Nat) (w : List Word) : State :=
  let code := timingCheck w (s.headReady h)
  let s := s.setF (kHead h 0x1004) 23 16 code
  if code = 0 then
    (s.headLinkWake h).setHead h { s.head h with copy := w ++ [s.rd (kHead h 0x1040)], run := 1, stopAsk := 0 }
  else s

/-- EN written 1 (R94, R279, R305): a latched head refuses it, also while its STOP is still to be taken; a stopped head starts if the
checks hold; a pending frame-end stop is cancelled. In Panel Self Refresh the write starts and wakes nothing and leaves CFG, since no row
of R301 names it (DESIGN CHOICE, log 101). -/
def State.headStart (s : State) (h : Nat) : State :=
  let q := s.head h
  if q.latched then
    let s := s.setF (kHead h 0x1004) 23 16 7
    match s.plan.headBench h with
    | some b => s.ignoredStart b
    | none => s
  else if q.run = 2 then (if q.stopAsk = 1 then s.setHead h { q with stopAsk := 0 } else s)
  else if q.run = 1 || s.inPsr h then s
  else s.startWith h (s.timingRegs h)

/-- A START record (R324). -/
def State.recStart (s : State) (h : Nat) : State :=
  let q := s.head h
  let w (i : Nat) : Nat := (q.copy.getD i 0).toNat
  s.recRender h 0x08 0 ((List.range 4).map fun i => w (2 * i) + w (2 * i + 1) * 2 ^ 32)

/-- A head that leaves Panel Self Refresh without a frame (R301). -/
def State.psrLeave (s : State) (h : Nat) : State :=
  let s := s.setB (kHead h 0x1004) 29 false
  if s.linkSt h = 5 then s.setLinkSt h 2 else s

/-- EN written 0, or a STOP, outside a running frame: a start is cancelled, PSR is left, a held request is discarded (R280,
R301, R305). `ask` is the kind of stop a running head takes. -/
def State.headStopAsk (s : State) (h ask : Nat) : State :=
  let s := s.setHead h { s.head h with psrHeld := false }
  let q := s.head h
  if q.run = 1 then s.setHead h { q with run := 0, stopAsk := 0, psrSu := false }
  else if q.run = 2 then s.setHead h { q with stopAsk := if q.stopAsk = 2 then 2 else ask }
  else if s.inPsr h then s.psrLeave h
  else s

/-- EN written 0 (R281). -/
def State.headStop (s : State) (h : Nat) : State := s.headStopAsk h 1
/-- EN written 0 with IMMEDIATE, or a STOP (R281). -/
def State.headStopNow (s : State) (h : Nat) : State := s.headStopAsk h 2

/-- The sink of a head that Doze has stopped is set to D3: its link goes to standby, also one that trains or has failed (R302, R304). -/
def State.sinkD3 (s : State) (h : Nat) : State :=
  let q := s.head h
  if q.d3 && q.run == 0 && s.linkSt h != 0 then s.setLinkSt h 5 else s

/-- A write of HEADn_CTL (R279, R281, R304). -/
def State.headCtl (s : State) (h : Nat) (v : Word) (be : Nat) : State :=
  if !nbit be 0 then s
  else
    let s := s.store (kHead h 0x1000) v be
    if nbit v.toNat 0 then s.headStart h
    else if nbit v.toNat 1 then s.headStopNow h else s.headStop h

/-- A head's beams stop (R177, R265, R281, R301, R302, R314). A capture that has not written every active row is abandoned with
the frame that is cut (DEDUCED from R267, log 92). -/
def State.beamsStop (s : State) (h : Nat) : State :=
  let q := s.head h
  let psr := q.stopAsk == 3
  let s := s.setHead h { q with
    run := 0, stopAsk := 0, span := q.nspan, ahead := [], bufs := [], bm := [], exts := [], peBad := [], psrSu := false
    sentWhole := false, blank := q.blank || q.blankNext, blankNext := false }
  let s := if s.capturing h && q.surf.length != q.vact then s.abandonCapture h else s
  let s := s.recRender h 0x09 (if q.stopAsk = 2 then 1 else 0) []
  let s := s.landAtStop h
  let s := s.latchStopped h
  let s := s.headEvt h 6
  let s := s.stopSending h
  let s := s.assayAbandon h
  if psr then ((s.emit (.psrEntry h)).setB (kHead h 0x1004) 29 true).setLinkSt h 5
  else s.sinkD3 h

/-! ### Sync edges (R283 to R287) -/

/-- SYNC_STAT. -/
def kSync (h : Nat) : Nat := kHead h 0x1044

/-- An edge latches, or counts in EXTRA (R283); a stopped head takes none. -/
def State.edge (s : State) (h : Nat) : State :=
  if !(s.head h).moving then s
  else if s.bit (kSync h) 30 then s.incSat (kSync h) 7 0
  else s.setB (kSync h) 30 true

/-- The reference head of SRC 0b011, if it acts (R286). -/
def State.refHead (s : State) (h : Nat) : Option Nat :=
  let r := wfld (s.head h).syncCtl 26 24
  if r ≠ h ∧ s.plan.headBench r = s.plan.headBench h ∧ (s.plan.headBench h).isSome ∧ (s.head r).moving then some r else none

/-- The reference SRC as it acts (R286). -/
def State.syncSrc (s : State) (h : Nat) : Nat :=
  let c := wfld (s.head h).syncCtl 31 29
  if 6 ≤ c || (c == 3 && (s.refHead h).isNone) then 0 else c

/-- VTOTAL_MAX as it acts (R286, R304). -/
def Head.vtotalMax (q : Head) : Nat := max q.vtotal (min 8192 (wfld q.syncCtl 13 0))

/-- The event of a Bellwire channel reaches a head's sync unit (R283, R444). -/
def State.channelEdge (s : State) (h : Nat) : State :=
  if s.syncSrc h = 4 then s.edge h else s

/-- A reference edge arrives (R283). TE and FLK_IN give the filtered level, an edge where it changes in the POL direction. REF_HEAD's
edge is latched in the clock in which its LINE takes 0, by that boundary (`refEdges`), so that nothing of it is left to arrive. -/
def State.syncEdge (s : State) (h : Nat) (src : EdgeSource) : State :=
  let pol := nbit (s.head h).syncCtl.toNat 28
  match src with
  | .te level =>
    let was := (s.head h).teLevel
    let s := s.setHead h { s.head h with teLevel := level }
    if was != level && level != pol && s.syncSrc h == 1 then s.edge h else s
  | .flkIn level =>
    let was := (s.head h).flkLevel
    let s := s.setHead h { s.head h with flkLevel := level }
    if was != level && level != pol && s.syncSrc h == 2 then s.edge h else s
  | .refHead => s
  | .channel c =>
    let k := kHead h 0x1040
    let q := s.bell c.val
    if (s.plan.bellBench c.val).isSome && s.plan.bellBench c.val == s.plan.headBench h
        && (q.targets.contains (TaskInput.headSync h) || s.routeChan k 0 == some c.val) then
      (s.setBell c.val { q with targets := q.targets.filter fun t => t != TaskInput.headSync h }).channelEdge h
    else s

/-- HEADn_PRESENT.GO written 1 (R304). -/
def State.present (s : State) (h : Nat) : State := if s.syncSrc h = 5 then s.edge h else s

/-- The render beam wraps to line 0 instead of going on to line n (R284). -/
def State.wraps (s : State) (h n : Nat) : Bool :=
  let q := s.head h
  decide (q.vtotal ≤ n)
    && (s.syncSrc h == 0 || s.bit (kSync h) 31 || s.bit (kSync h) 30 || n == q.vtotalMax)

/-- FREE changes (R285). -/
def State.setFree (s : State) (h : Nat) (on : Bool) : State :=
  if s.bit (kSync h) 31 == on then s else (s.setB (kSync h) 31 on).headEvt h 3

/-- What a wrap at line n does to the sync unit (R283 to R285, R304). A frame whose reference does not count misses ends a run of
misses; FREE stands under SRC 0b100 and 0b101, and over a stop and a start, of which R285 says nothing: such a head goes on running free
(DESIGN CHOICE, log 101). -/
def State.syncWrap (s : State) (h n : Nat) : State :=
  let latch := s.bit (kSync h) 30
  let src := s.syncSrc h
  let counted := decide (1 ≤ src) && decide (src ≤ 3)
  let s := s.setF (kSync h) 29 16 n
  let s := s.setB (kSync h) 30 false
  if !counted then s.setHead h { s.head h with missRun := 0 }
  else if latch then (s.setHead h { s.head h with missRun := 0 }).setFree h false
  else if n != (s.head h).vtotalMax then s
  else
    let s := s.incSat (kSync h) 15 8
    let run := (s.head h).missRun + 1
    let s := s.setHead h { s.head h with missRun := run }
    if run < 2 || s.bit (kSync h) 31 then s
    else (s.setFree h true).report 0x05 (0x0400 + h) (scopeOf (s.plan.headBench h)) (s.rdN (kSync h))

/-- FLK_OUT (R287): the lowest-numbered head whose SYNC_CTL in force drives it, while its LINE is 0; low in Standby, Service and
Doze (R578). -/
def State.flkOut (s : State) : Bool :=
  s.mode.mainOn && s.mode != .doze && match (List.range 8).find? fun h => nbit (s.head h).syncCtl.toNat 27 with
  | some h => s.framePulse h
  | none => false

/-- A write of SYNC_CTL: FLK_DRIVE only for a PLANNER bench (R287). -/
def State.syncCtlWrite (s : State) (h : Nat) (v : Word) (be : Nat) : State :=
  let planner := match s.plan.headBench h with
    | some b => (s.plan.bench b).planner
    | none => false
  s.store (kHead h 0x1040) (if planner then v else setBit v 27 false) be

/-! ### Output encoding and CRCs (R289 to R292) -/

/-- The coefficients on R, G and B of Y, Cb and Cr with 16 fraction bits, and oy (R289). -/
def encCoef (matrix : Nat) (full : Bool) : (Int × Int × Int) × (Int × Int × Int) × (Int × Int × Int) × Int :=
  match matrix, full with
  | 0, false => ((16780, 32942, 6398), (-9685, -19015, 28700), (28700, -24033, -4667), 64)
  | 0, true => ((19595, 38470, 7471), (-11058, -21710, 32768), (32768, -27439, -5329), 0)
  | 2, false => ((14742, 38049, 3328), (-8015, -20685, 28700), (28700, -26392, -2308), 64)
  | 2, true => ((17216, 44433, 3886), (-9151, -23617, 32768), (32768, -30133, -2635), 0)
  | _, false => ((11931, 40136, 4052), (-6576, -22124, 28700), (28700, -26068, -2632), 64)
  | _, true => ((13933, 46871, 4732), (-7509, -25259, 32768), (32768, -29763, -3005), 0)

/-- A packed pixel as Y, Cb and Cr (R289). -/
def encYuv (matrix : Nat) (full : Bool) (p : Nat) : Nat × Nat × Nat :=
  let (cy, cb, cr, oy) := encCoef matrix full
  let r := Int.ofNat (nfld p 29 20)
  let g := Int.ofNat (nfld p 19 10)
  let b := Int.ofNat (nfld p 9 0)
  let out (c : Int × Int × Int) (k : Int) : Nat :=
    (clampI 0 1023 ((c.1 * r + c.2.1 * g + c.2.2 * b + k * 65536 + 32768) / 65536)).toNat
  (out cy oy, out cb 512, out cr 512)

/-- A 10-bit component at output depth (R290). -/
def outDepth (bpc10 : Bool) (c : Nat) : Nat := if bpc10 then c else min 255 ((c + 2) / 4)

/-- The components of a line in sending order, at output depth (R289, R290). -/
def encodeLine (out : Word) (px : List Nat) : List Nat :=
  let enc := wfld out 1 0
  let matrix := wfld out 4 3
  let full := nbit out.toNat 5
  let bpc10 := nbit out.toNat 2
  let d := outDepth bpc10
  if enc = 1 then px.flatMap fun p =>
    let (y, cb, cr) := encYuv matrix full p
    [d cr, d y, d cb]
  else if enc = 2 then
    let yuv := px.map (encYuv matrix full)
    let at_ (i : Nat) : Nat × Nat × Nat := yuv.getD i (0, 0, 0)
    (List.range px.length).flatMap fun i =>
      let a := at_ (i / 2 * 2)
      let b := at_ (min (px.length - 1) (i / 2 * 2 + 1))
      let chroma := if i % 2 = 0 then (a.2.1 + b.2.1 + 1) / 2 else (a.2.2 + b.2.2 + 1) / 2
      [d chroma, d (at_ i).1]
  else px.flatMap fun p => [d (nfld p 29 20), d (nfld p 19 10), d (nfld p 9 0)]

/-- The line CRC (R291). -/
def lineCrc (comps : List Nat) : Nat := crc32c (comps.flatMap (leBytes 2))

/-- The packed pixels that scan-out takes for the scan line: black while blanked, the safe card, or what was drawn. -/
def State.scanPixels (s : State) (h : Nat) : List Nat :=
  let q := s.head h
  if q.blank then List.replicate q.hact 0
  else if q.engine = 15 then (List.range q.hact).map fun x => s.cardPix h x (q.scan - q.vactStart)
  else match q.bufs.find? fun b => b.line == q.scan && b.fnum == q.scanFnum with
    | some b => (List.range q.hact).map fun x => b.px.getD x 0
    | none => List.replicate q.hact 0

/-- The drawn group of the scan line enters the running capture (R267); a write that fails abandons it, and the memory system notes
the error as one found in the row's first page (R271, R415; log 92). A head that stops at its next line writes no more (R93). -/
def State.captureRow (s : State) (h : Nat) (fails : Bool) : State :=
  let q := s.head h
  if q.stopAsk = 2 then s else
  let r := q.scan - q.vactStart
  match q.bufs.find? fun b => b.line == q.scan && b.fnum == q.scanFnum && b.active && !b.served with
  | some b =>
    if !s.capturing h then s
    else if fails then (s.abandonCapture h).foundUe (s.surfAddr h r 0)
    else s.surfPut h r b.group
  | none => s

/-- The lines sent in a selective update: Y0 to Y1, widened to the sink's granularity (R301). -/
def State.suSends (s : State) (h : Nat) : Bool :=
  let q := s.head h
  let y := q.scan - q.vactStart
  let g := max 1 q.suLines
  !q.psrSu || (decide (s.fld (kHead h 0x1054) 11 0 / g ≤ y / g) && decide (y / g ≤ s.fld (kHead h 0x1054) 27 16 / g))

/-- The last active pixel of a scan line is encoded (R291, R292, R325): its CRC, its LINE record and, on the last active
line, the frame CRC. -/
def State.scanActiveEnd (s : State) (h : Nat) (captureFails : Bool) : State :=
  let q := s.head h
  if !q.moving then s
  else
    let s := s.setHead h { q with span := q.nspan }
    if !q.activeLine q.scan then s
    else
      let crc := lineCrc (encodeLine (q.timing 6) (s.scanPixels h))
      let s := s.captureRow h captureFails
      let s := s.record h
        [recHead 0x01 2 q.scan q.nspan 1 0, crc + q.scanFnum % 2 ^ 32 * 2 ^ 32]
      let s := if s.sending h && s.suSends h then s.emit (.line h q.scan q.scanFnum crc) else s
      let q := s.head h
      let crcs := (if q.scan = q.vactStart then [] else q.lineCrcs) ++ [crc]
      let s := s.setHead h { q with
        lineCrcs := crcs, bufs := q.bufs.filter fun b => !(b.line == q.scan && b.fnum == q.scanFnum) }
      if q.scan + 1 = q.vactStart + q.vact then
        ((s.wrN (kHead h 0x1060) (crc32c (crcs.flatMap (leBytes 4)))).incWrap (kHead h 0x1064) 31 0).headEvt h 4
      else s

/-! ### The display links (R293 to R301) -/

/-- The head's link is eDP: LINK_CTL.TYPE as the last training took it (R304). -/
def State.isEdp (s : State) (h : Nat) : Bool := nbit (s.head h).linkNow.toNat 0

/-- A rate code as it acts on a TYPE (R304, R306). -/
def rateActs (edp : Bool) (code : Nat) : Nat :=
  if edp then min code 7
  else if code ≤ 5 then 3 else min code 9

/-- The rate code a training may keep where it trained at one: no more than MAX_RATE allows on the TYPE (R293, R295). -/
def Head.rateKept (q : Head) (rate : Nat) : Nat :=
  let edp := nbit q.linkNow.toNat 0
  min (rateActs edp rate) (rateActs edp (wfld q.linkNow 7 4))

/-- The lanes it may keep, as a code: no more than MAX_LANES (R295). -/
def Head.lanesKept (q : Head) (lanes : Nat) : Nat := min lanes (min 2 (wfld q.linkNow 2 1))

/-- A lane's rate in units of 10 Mbit/s (R304). -/
def rateOf (code : Nat) : Nat := [162, 216, 243, 270, 324, 432, 540, 810, 1000, 1350].getD code 1350

/-- The stream fits the trained link (R294). -/
def State.streamFits (s : State) (h : Nat) : Bool :=
  let q := s.head h
  let out := q.timing 6
  let bpc := if nbit out.toNat 2 then 10 else 8
  let bpp := if wfld out 1 0 = 2 then 2 * bpc else 3 * bpc
  let lanes := 2 ^ s.fld (kHead h 0x1034) 19 18
  let (en, ed) := if s.bit (kHead h 0x1034) 17 then (128, 132) else (8, 10)
  decide (3072000000 * 2 ^ 24 * bpp * 100 * ed
    ≤ 97 * lanes * (rateOf (s.fld (kHead h 0x1034) 23 20) * 10000000) * en * q.dotDiv)

/-- What the sink is told of a stream as it is sent, a frame at a time (R276, R288, R290). -/
def State.streamSignals (s : State) (h : Nat) : State :=
  let q := s.head h
  if s.sending h then s.emit (.stream h (s.bit (kHead h 0x1030) 8) q.vtotal (q.copy.take 4) (q.timing 6)) else s

/-- Sending at a scan-beam line 0 (R296, R301). -/
def State.sendCheck (s : State) (h : Nat) : State :=
  let s := if s.sending h || s.linkSt h != 2 then s
    else if s.streamFits h then (s.setB (kHead h 0x1004) 30 true).setLinkSt h 3
    else s.setFail h 3
  let q := s.head h
  let s := if q.psrHeld && q.sentWhole && s.sending h then
      s.setHead h { q with stopAsk := if q.stopAsk = 0 then 3 else q.stopAsk, psrHeld := false }
    else s
  (s.setHead h { s.head h with sentWhole := s.sending h }).streamSignals h

/-- A host AUX request goes out once the module's own transactions leave AUX free (R298), also without a sink. AUX_CTL and AUX_DATA stand
as they are at each issue, retry and reply, where a write came while BUSY is 1 (no rule says: DESIGN CHOICE, log 101). -/
def State.auxIssue (s : State) (h : Nat) : State :=
  let ctl := s.rd (kHead h 0x1080)
  let n := wfld ctl 27 24 + 1
  let data := (List.range 4).flatMap fun i => leBytes 4 (s.rdN (kHead h (0x1090 + 4 * i)))
  let wr := wfld ctl 30 28 % 2 == 0
  s.emit (.auxRequest h ctl (if wr then data.take n else []))

/-- AUX_STAT. -/
def kAux (h : Nat) : Nat := kHead h 0x1084

/-- A host AUX request ends with RESULT (R299). -/
def State.auxEnd (s : State) (h result : Nat) : State :=
  ((s.setB (kAux h) 31 false).setF (kAux h) 2 0 result).headEvt h 5

/-- A write of HEADn_AUX_CTL (R298, R304). -/
def State.auxCtl (s : State) (h : Nat) (v : Word) (be : Nat) : State :=
  let s := s.store (kHead h 0x1080) v be
  if !(nbit be 3 && nbit v.toNat 31) || s.bit (kAux h) 31 then s
  else
    let cmd := s.fld (kHead h 0x1080) 30 28
    if cmd = 2 || cmd = 3 then s.auxEnd h 5
    else
      let s := (s.setB (kAux h) 31 true).setHead h { s.head h with auxTries := 0 }
      if s.linkSt h = 1 then s else s.auxIssue h

/-- A try of the host's AUX request brought no reply, or DEFER: it goes out again, up to 7 times, and then ends (R299). -/
def State.auxRetry (s : State) (h result : Nat) : State :=
  let q := s.head h
  if q.auxTries < 7 then (s.setHead h { q with auxTries := q.auxTries + 1 }).auxIssue h else s.auxEnd h result

/-- A reply to the host's AUX request, or none within its time (R299): it waits while the module's training uses AUX. A malformed
reply is no reply. NO_SINK comes from the reply alone, whatever HPD is (no rule says when a request ends so: DESIGN CHOICE, log 101). -/
def State.auxReply (s : State) (h : Nat) (r : AuxReply) : State :=
  if !s.bit (kAux h) 31 || s.linkSt h = 1 then s
  else match r with
    | .nack => s.auxEnd h 1
    | .defer => s.auxRetry h 2
    | .timeout | .malformed => s.auxRetry h 3
    | .noSink => s.auxEnd h 4
    | .ack bytes =>
      let rd := s.fld (kHead h 0x1080) 30 28 % 2 == 1
      let got := bytes.take (s.fld (kHead h 0x1080) 27 24 + 1)
      let s := if rd then
          let old := (List.range 4).flatMap fun i => leBytes 4 (s.rdN (kHead h (0x1090 + 4 * i)))
          let all := got ++ old.drop got.length
          let s := (List.range 4).foldl (fun t i => t.wrN (kHead h (0x1090 + 4 * i)) (leNat ((all.drop (4 * i)).take 4))) s
          s.setF (kAux h) 11 8 (got.length - 1)
        else s.setF (kAux h) 11 8 0
      s.auxEnd h 0

/-- HEADn_HPD_STAT. -/
def kHpd (h : Nat) : Nat := kHead h 0x1038

/-- An entry to Panel Self Refresh was to end this frame, which is not sent whole now, since the link is down: the request is held, as one
made without a link is; on entry to Doze the head stops at its frame end instead (R301, R302; log 101). -/
def State.psrUnsent (s : State) (h : Nat) : State :=
  let q := s.head h
  if q.stopAsk != 3 || s.linkSt h = 5 then s
  else if s.dozeAsk then s.setHead h { q with stopAsk := 1, psrSu := false, d3 := true }
  else s.setHead h { q with stopAsk := 0, psrSu := false, psrHeld := true }

/-- The head trains, under LINK_CTL as it stands: the link goes down until a training ends (R295, R304). -/
def State.train (s : State) (h : Nat) : State :=
  if (s.head h).plugged then
    ((s.setHead h { s.head h with linkNow := s.rd (kHead h 0x1030), irqLost := false }).setLinkSt h 1).psrUnsent h
  else s

/-- A plug (R299). -/
def State.plug (s : State) (h : Nat) : State :=
  if (s.head h).plugged || !s.mode.mainOn then s
  else
    let s := s.setHead h { s.head h with plugged := true, failTold := false }
    (((s.incSat (kHpd h) 15 8).headEvt h 0).setB (kHead h 0x1034) 16 true).train h

/-- An unplug (R299, R301, R305): the link goes down and the beams run on; it discards an entry to Panel Self Refresh. RATE, LANES and
CODING read 0 without a sink, and FAIL stands (R299 gives STATE and the HPD event alone: DESIGN CHOICE, log 101). -/
def State.unplug (s : State) (h : Nat) : State :=
  if !(s.head h).plugged then s
  else
    let s := s.psrUnsent h
    let s := s.setHead h { s.head h with plugged := false, psrHeld := false, psrSink := false, irqLost := false, d3 := false }
    let s := (s.headEvt h 0).setB (kHead h 0x1034) 16 false
    let s := s.stopSending h
    (s.setF (kHead h 0x1034) 23 17 0).setLinkSt h 0

/-- The trained link is lost (R297): it retrains, and sending stops at the next scan line boundary. -/
def State.linkLost (s : State) (h : Nat) : State :=
  if s.linkSt h = 2 || s.linkSt h = 3 then
    let s := (s.setFail h 4).train h
    s.report 0x04 (0x0400 + h) (scopeOf (s.plan.headBench h)) (s.rdN (kHead h 0x1034))
  else s

/-- An IRQ_HPD pulse (R299): serviced at once, or, where the link is training, when the training ends (R305). -/
def State.irqHpd (s : State) (h : Nat) (lost : Bool) : State :=
  if !(s.head h).plugged then s
  else
    let s := (s.incSat (kHpd h) 7 0).headEvt h 1
    if !lost then s
    else if s.linkSt h = 1 then s.setHead h { s.head h with irqLost := true }
    else s.linkLost h

/-- An ignored HPD pulse (R299). -/
def State.hpdGlitch (s : State) (h : Nat) : State := s.incSat (kHpd h) 31 16

/-- A training ends (R293, R295): the configuration kept lies within the TYPE's rates, MAX_RATE and MAX_LANES, with 128b/132b coding at
10 and 13.5 Gbit/s. An IRQ_HPD that came meanwhile is serviced (R305), and a waiting host AUX request goes out. -/
def State.trained (s : State) (h : Nat) (r : TrainResult) : State :=
  if s.linkSt h != 1 then s
  else
    let failed (t : State) (f : Nat) : State :=
      let t := (t.setFail h f).setLinkSt h 4
      if (t.head h).failTold then t
      else (t.setHead h { t.head h with failTold := true }).report 0x04 (0x0400 + h) (scopeOf (t.plan.headBench h))
        (t.rdN (kHead h 0x1034))
    let s := match r with
      | .failCr => failed s 2
      | .failAux => failed s 1
      | .trained rate lanes psr suLines =>
        let q := s.head h
        let code := q.rateKept rate.val
        let s := ((s.setF (kHead h 0x1034) 23 20 code).setF (kHead h 0x1034) 19 18 (q.lanesKept lanes.val)).setB (kHead h 0x1034) 17
          (decide (8 ≤ code))
        let s := s.setHead h { q with psrSink := psr && s.isEdp h, suLines := suLines.val }
        (s.setFail h 0).setLinkSt h 2
    let s := if (s.head h).irqLost then (s.setHead h { s.head h with irqLost := false }).linkLost h else s
    if s.bit (kAux h) 31 && s.linkSt h != 1 then s.auxIssue h else s

/-- The 1,000 ms retry timer after a failed training (R295). -/
def State.trainRetry (s : State) (h : Nat) : State := if s.linkSt h = 4 then s.train h else s

/-- HEADn_LINK_CTL.RETRAIN (R295, R304): a link in standby, or a head without a sink, has nothing to train. -/
def State.retrain (s : State) (h : Nat) : State :=
  if s.linkSt h = 0 || s.linkSt h = 5 then s else s.train h

/-- A write of HEADn_LINK_CTL. -/
def State.linkCtl (s : State) (h : Nat) (v : Word) (be : Nat) : State :=
  let s := s.store (kHead h 0x1030) v be
  if nbit be 1 && nbit v.toNat 15 then s.retrain h else s

/-! ### Panel Self Refresh (R301) -/

/-- PSR requests apply to this head. -/
def State.psrOk (s : State) (h : Nat) : Bool := s.isEdp h && (s.head h).psrSink

/-- PSR_CTL.ENTER. -/
def State.psrEnter (s : State) (h : Nat) : State :=
  let q := s.head h
  if !s.psrOk h || q.run != 2 || s.inPsr h then s
  else if s.sending h && s.linkSt h == 3 then s.setHead h { q with stopAsk := if q.stopAsk = 0 then 3 else q.stopAsk }
  else s.setHead h { q with psrHeld := true }

/-- A start out of PSR, without the checks of R279. -/
def State.psrWake (s : State) (h : Nat) (su : Bool) : State :=
  let s := (s.psrLeave h).headLinkWake h
  s.setHead h { s.head h with
    copy := s.timingRegs h ++ [s.rd (kHead h 0x1040)], run := 1, stopAsk := if su then 3 else 0, psrSu := su }

/-- PSR_CTL.EXIT. -/
def State.psrExit (s : State) (h : Nat) : State :=
  let s := s.setHead h { s.head h with psrHeld := false }
  if s.psrOk h && s.inPsr h then s.psrWake h false else s

/-- PSR_CTL.SU_GO. -/
def State.psrSuGo (s : State) (h : Nat) : State :=
  if s.psrOk h && s.inPsr h && s.bit (kHead h 0x1050) 28 && decide (s.fld (kHead h 0x1054) 11 0 ≤ s.fld (kHead h 0x1054) 27 16)
  then s.psrWake h true else s

/-- A write of HEADn_PSR_CTL: PSR2 is stored, then the requests act, ENTER, EXIT, SU_GO in that order. -/
def State.psrCtl (s : State) (h : Nat) (v : Word) (be : Nat) : State :=
  let s := s.store (kHead h 0x1050) v be
  if !nbit be 3 then s
  else
    let s := if nbit v.toNat 31 then s.psrEnter h else s
    let s := if nbit v.toNat 30 then s.psrExit h else s
    if nbit v.toNat 29 then s.psrSuGo h else s

/-- HEADn_STAT as it reads (R304). STOPPING is 1 for EN written 0 alone: it reads 0 while an entry to Panel Self Refresh, or the end of a
frame that SU_GO asked for, waits for the frame end (DESIGN CHOICE, log 101). -/
def State.headStat (s : State) (h : Nat) : Word :=
  let q := s.head h
  let w := s.rd (kHead h 0x1004)
  setFld (setBit (setBit w 31 q.moving) 28 (q.run == 2 && q.stopAsk == 1)) 12 0 q.scan

end Sys2Proof.Machine
end

