-- ==== Sys2Proof/Machine/HeadRegs.lean ====
section
/-!
DEFINITION. The registers of a head as its two ports reach them (R168, R172 to R179, R272 to R274, R304, R334): a word write
through either view, the writes that wait at the fabric port, and reads.
-/
namespace Sys2Proof.Machine

/-- An on-write register of a HEADn block, at a line-view offset. -/
def State.headOnWrite (s : State) (h off : Nat) (v : Word) (be : Nat) : State :=
  if off = 0x10 then (if nbit be 0 then s.commit h (wfld v 3 0) else s)
  else if off = 0x20 then (if nbit be 0 && nbit v.toNat 0 then s.setB (kHead h 0x20) 0 true else s)
  else if 0x200 ≤ off ∧ off < 0x300 then s.fenceWrite h ((off - 0x200) / 0x40) v be
  else if off = 0x1000 then s.headCtl h v be
  else if off = 0x1030 then s.linkCtl h v be
  else if off = 0x1040 then s.syncCtlWrite h v be
  else if off = 0x1048 then (if nbit be 0 && nbit v.toNat 0 then s.present h else s)
  else if off = 0x1050 then s.psrCtl h v be
  else if off = 0x1080 then s.auxCtl h v be
  else if off = 0x10010 then
    let s := s.store (kHead h 0x10010) v be
    if nbit be 3 && nbit v.toNat 31 then s.ckptAsk h else s
  else if off = 0x10030 then s.drainCtl h v be
  else s.store (kHead h off) v be

/-- A word write that the head's port takes now, with the route change it makes; none when it is staged and its set is full (R172 to R178,
R325, R450). -/
def State.headTake (s : State) (h : Nat) (e : Pend) : Option State :=
  match effAt e.key with
  | none => some s
  | some .staged => s.stage h e
  | some .stagedLine => s.stage h e
  | some .shadow => some (s.shadowWrite h e)
  | some .status => some (s.store e.key e.val e.be)
  | some _ =>
    if isPal h e.key then some (s.paletteWrite h e)
    else
      let off := e.key - kHead h 0
      let s := if off < 0x1000 then s.recWrite h 2 e else s
      let t := s.headOnWrite h off e.val e.be
      some (if carriesRoute e.key then t.routeWrite e.key s else t)

/-- The writes that wait at a port go on in their order until one finds its set full, which counts once in STALLS (R176,
R185): the state, and those that still wait. -/
def State.portGo (s : State) (h : Nat) : List Pend → State × List Pend
  | [] => (s, [])
  | e :: rest =>
    match s.headTake h e with
    | some t => t.portGo h rest
    | none => (if e.stalled then s else s.stageStall h, { e with stalled := true } :: rest)

/-- The line core whose write waited at the beam port goes on after its instruction; the clocks of the wait are open (R176). A
step ends with the instruction. -/
def State.portDone (s : State) (h : Nat) : State :=
  let c := 32 + h
  if (s.core c).wait != .port || !(s.head h).waitCore.isEmpty then s
  else
    let s := if (s.core c).counting then
        let (v, t) := s.fresh
        t.spend c (v % 2 ^ 24)
      else s
    let q := s.core c
    let s := (s.setPc c q.waitNext).setCore c { q with wait := .none }
    if q.stepArm then s.haltCore c 3 else s

/-- A requester's write to a register that is not staged waits at head h's fabric port: the requester's reads come after it
(R131, R176). -/
def State.fabHolds (s : State) (h : Nat) (r : Requester) : Bool :=
  (s.head h).waitFab.any fun e => e.who == r && effAt e.key != some .staged && effAt e.key != some .stagedLine

/-- The core whose number is n. -/
def coreOf (n : Nat) : CoreId :=
  if n < 32 then .scene (Fin.ofNat 32 n) else if n < 40 then .line (Fin.ofNat 8 (n - 32)) else .clerk

/-- The cores whose reads came behind their own writes at head h's fabric port, where none of those waits any longer. -/
def State.readsGoOn (s : State) (h : Nat) : State :=
  (List.range 41).foldl (fun t n =>
    if (t.core n).wait == .behind h && !t.fabHolds h (.core (coreOf n)) then t.setCore n { t.core n with wait := .none } else t) s

/-- The ports of a head go on after a set has landed, the beam port first (R175, R176). -/
def State.portDrain (s : State) (h : Nat) : State :=
  let (s, rest) := s.portGo h (s.head h).waitCore
  let s := s.setHead h { s.head h with waitCore := rest }
  let (s, rest) := s.portGo h (s.head h).waitFab
  let s := s.setHead h { s.head h with waitFab := rest }
  (s.portDone h).readsGoOn h

/-- A word write through one of a head's ports: it is taken, or waits there, where its set is full or an earlier write of the
port waits (R176). -/
def State.headWrite (s : State) (h key : Nat) (span fabric : Bool) (who : Requester) (v : Word) (be : Nat) : State :=
  let e : Pend := { key := key, val := v, be := be, span := span, fabric := fabric, order := 0, who := who, stalled := false }
  let queue (t : State) (e : Pend) : State :=
    if fabric then t.setHead h { t.head h with waitFab := (t.head h).waitFab ++ [e] }
    else t.setHead h { t.head h with waitCore := (t.head h).waitCore ++ [e] }
  if !(if fabric then (s.head h).waitFab else (s.head h).waitCore).isEmpty then queue s e
  else match s.headTake h e with
    | some t => t
    | none => queue (s.stageStall h) { e with stalled := true }

/-- FLAT_STAT as it reads: VALID for a blanking line, and for an active line where the surface is admitted (R259); SLOT and PRESENT live
(R272). -/
def State.flatStat (s : State) (h : Nat) : Word :=
  let q := s.head h
  let w := setBit (s.rd (kFlat h)) 31 (s.surfValid h && (q.price.surface || !q.activeLine q.line))
  match s.surfSlot h with
  | some m => setBit (setFld w 29 27 m) 26 true
  | none => w

/-- A word of a head's registers as it reads, at a line-view address (R272, R304, R334). -/
def State.headRead (s : State) (h key : Nat) : Word :=
  if isPe h key then
    let off := key - kPe h 0
    if 0x1000 ≤ off ∧ off < 0x1400 ∧ off % 0x100 = 0x40 then setBit (s.rd key) 31 (s.tCfgErr h ((off - 0x1000) / 0x100))
    else s.rd key
  else
    let off := key - kHead h 0
    if off = 0x8 then BitVec.ofNat 32 (256 * maskOf ((List.range 8).filter fun m => s.slotErr h m))
    else if off = 0x20 then 0
    else if off = 0x24 then s.flatStat h
    else if 0x200 ≤ off ∧ off < 0x300 ∧ off % 0x40 = 0x38 then
      setBit (s.rd key) 30 (decide (0xE ≤ (s.mbActive h ((off - 0x200) / 0x40)).format))
    else if off = 0x1004 then s.headStat h
    else if off = 0x10000 then BitVec.ofNat 32 (s.engineReg h)
    else if off = 0x10004 then s.assayReg h
    else if off = 0x10034 || off = 0x10038 then BitVec.ofNat 32 (s.drainIdx h off)
    else if off = 0x10014 then setFld (s.rd key) 15 0 ((s.plan.houseGranules - 2) * 128)
    else s.rd key

/-- A read of a word of a head's registers, with its RC fields cleared. -/
def State.headReadOp (s : State) (h key : Nat) : Word × State := (s.headRead h key, s.readClear key)

end Sys2Proof.Machine
end

