-- ==== Sys2Proof/Machine/Audio.lean ====
section
/-!
DEFINITION. The audio engine (R337 to R371): voices, envelopes, buses, routing, pairs, zero-crossing changes, TDM ports, word
clocks and the audio command port.
-/
namespace Sys2Proof.Machine

/-! ### Pages and values -/

/-- The active page's value of a paged register (R348). -/
def State.act (s : State) (k : Nat) : Word := Sparse.get regReset s.audio.active k

/-- The load page of some registers becomes their active page (R348). -/
def State.swapRegs (s : State) (keys : List Nat) : State :=
  { s with audio := { s.audio with
      active := keys.foldl (fun t k => Sparse.set regReset t k (s.rd k)) s.audio.active } }

/-- The paged registers of an item of a kind (R348). -/
def pagedKeys (kind item : Nat) : List Nat :=
  match kind with
  | 0 => (List.range 14).map fun i => kVoice item (4 * i)
  | 1 => (List.range 14).map fun i => kVoice (1024 + item) (4 * i)
  | 2 => (List.range 20).map fun i => kBus item (4 * i)
  | _ => (List.range 4).map fun i => kPair item (4 * i)

/-- The holder of an item of a kind. -/
def State.itemBench (s : State) (kind item : Nat) : Option Nat :=
  match kind with
  | 0 => if item < 1024 then s.plan.voiceBench item else none
  | 1 => if item < 64 then s.plan.toneBench item else none
  | 2 => if item < 64 then s.plan.busBench item else none
  | _ => if item < 48 then s.outBench (2 * item) else none

/-- The holder of a voice. -/
def State.voiceHolder (s : State) (v : Nat) : Option Nat :=
  if v < 1024 then s.audPlan.voiceBench v else s.audPlan.toneBench (v - 1024)

/-- A write of AUD_SWAP by bench b (R348): held items in range swap at the next boundary. -/
def State.audSwap (s : State) (b : Nat) (v : Word) : State :=
  let kind := wfld v 31 30
  let items := ((List.range (wfld v 29 20 + 1)).map fun i => wfld v 9 0 + i).filter fun i => s.itemBench kind i == some b
  { s with audio := { s.audio with swaps := s.audio.swaps ++ items.map fun i => (kind, i) } }

/-- Clamp to 24 bits. -/
def clamp24 (v : Int) : Int := clampI (-8388608) 8388607 v

/-! ### Voices (R342 to R351) -/

/-- The IMA ADPCM step table. -/
def imaSteps : List Int := [
  7, 8, 9, 10, 11, 12, 13, 14, 16, 17, 19, 21, 23, 25, 28, 31, 34, 37, 41, 45, 50, 55, 60, 66, 73, 80, 88, 97, 107, 118,
  130, 143, 157, 173, 190, 209, 230, 253, 279, 307, 337, 371, 408, 449, 494, 544, 598, 658, 724, 796, 876, 963, 1060, 1166,
  1282, 1411, 1552, 1707, 1878, 2066, 2272, 2499, 2749, 3024, 3327, 3660, 4026, 4428, 4871, 5358, 5894, 6484, 7132, 7845,
  8630, 9493, 10442, 11487, 12635, 13899, 15289, 16818, 18500, 20350, 22385, 24623, 27086, 29794, 32767]

/-- The IMA ADPCM index table, for a nibble's low three bits. -/
def imaIndex : List Int := [-1, -1, -1, -1, 2, 4, 6, 8]

/-- One nibble decoded: the new predictor and index (R344). -/
def imaDecode (pred : Int) (index nib : Nat) : Int × Nat :=
  let step := imaSteps.getD index 32767
  let diff := step / 8 + (if nbit nib 2 then step else 0) + (if nbit nib 1 then step / 2 else 0)
    + (if nbit nib 0 then step / 4 else 0)
  let p := clampI (-32768) 32767 (if nbit nib 3 then pred - diff else pred + diff)
  (p, (clampI 0 88 (Int.ofNat index + imaIndex.getD (nib % 8) 0)).toNat)

/-- A voice's play parameters, from its active page, and the ranges of its data that its fetches brought bad (R367). -/
structure PlayParams where
  bench  : Nat
  bad    : List (Nat × Nat)
  base   : Nat
  fmt    : Nat
  loopOn : Bool
  first  : Nat
  last   : Nat
  stop   : Nat
  pitch  : Nat

/-- n bytes of a voice's data: none in a hole; 0 where they are uncorrectable, or came by a fetch that was (R367). -/
def State.voiceData (s : State) (p : PlayParams) (a n : Nat) : Option Nat :=
  let a := a % 2 ^ 40
  if !s.rangeHeld p.bench a n then none else if s.marked a n || inRanges p.bad a n then some 0 else some (s.loadN a n)

/-- PCM sample i of a voice as a 16-bit value (R342). -/
def State.pcmAt (s : State) (p : PlayParams) (i : Nat) : Option Int :=
  match p.fmt with
  | 0 => (s.voiceData p (p.base + 2 * i) 2).map (sgn 16)
  | 1 => (s.voiceData p (p.base + i) 1).map fun v => sgn 8 v * 256
  | _ => some 0

/-- Nibble i of a voice's ADPCM data. -/
def State.nibbleAt (s : State) (p : PlayParams) (i : Nat) : Option Nat :=
  (s.voiceData p (p.base + i / 2) 1).map fun v => if i % 2 = 0 then v % 16 else v / 16

/-- The play parameters of sample voice v (R342, R343). -/
def State.playParams (s : State) (b v : Nat) : PlayParams :=
  let w := s.act (kVoice v 4)
  let first := (s.act (kVoice v 8)).toNat
  let last := (s.act (kVoice v 0xC)).toNat
  let loop := wfld w 29 28
  { bench := b, bad := (s.voice v).bad, base := wfld w 7 0 * 2 ^ 32 + (s.act (kVoice v 0)).toNat, fmt := wfld w 31 30
    loopOn := decide (first ≤ last) && (loop == 1 || (loop == 2 && !(s.voice v).keyOff))
    first := first, last := last, stop := (s.act (kVoice v 0x10)).toNat
    pitch := min 0x100000 (wfld (s.act (kVoice v 0x14)) 20 0) }

/-- The sample after sample i in playing order. -/
def PlayParams.next (p : PlayParams) (i : Nat) : Nat := if p.loopOn && i = p.last then p.first else i + 1

/-- The decoder moves on to the sample after i (R344): answers the decoder and, past a hole, that data was missing. -/
def State.adpcmNext (s : State) (p : PlayParams) (q : Voice) (i : Nat) : Voice × Bool :=
  let n := p.next i
  let q := if n = p.first && q.saved.isNone then { q with saved := some (q.pred, q.index) } else q
  let (pr, ix) := if p.loopOn && i = p.last then q.saved.getD (q.pred, q.index) else (q.pred, q.index)
  match s.nibbleAt p n with
  | none => (q, true)
  | some nib =>
    let (pr, ix) := imaDecode pr ix nib
    ({ q with pred := pr, index := ix }, false)

/-- The decoder moves on over k samples from sample i. -/
def State.adpcmRun (s : State) (p : PlayParams) : Nat → Voice → Nat → Voice
  | 0, q, _ => q
  | k + 1, q, i => s.adpcmRun p k (s.adpcmNext p q i).1 (p.next i)

/-- s0 and s1 of a sample voice (R343): none where data has not come. -/
def State.twoSamples (s : State) (p : PlayParams) (q : Voice) : Option (Int × Int) :=
  let i := q.pos
  let atEnd := !p.loopOn && i == p.stop
  if p.fmt = 2 then
    if (s.nibbleAt p i).isNone then none
    else if atEnd then some (q.pred, 0)
    else
      let (r, miss) := s.adpcmNext p q i
      if miss then none else some (q.pred, r.pred)
  else
    match s.pcmAt p i, (if atEnd then some 0 else s.pcmAt p (p.next i)) with
    | some a, some b => some (a, b)
    | _, _ => none

/-- One step of a sample voice: x, the moved voice, whether it passed END, and whether its data lies in a hole (R343). Data that is
late leaves the last x (R367); the position goes on. -/
def State.sampleStep (s : State) (p : PlayParams) (q : Voice) (late : Bool) : Int × Voice × Bool × Bool :=
  let (x, miss) := if late then (q.lastX, false) else match s.twoSamples p q with
    | some (s0, s1) => (s0 + (s1 - s0) * Int.ofNat q.frac / 65536, false)
    | none => (q.lastX, true)
  let x := if p.fmt = 3 then 0 else x
  let f := q.frac + p.pitch
  let d := f / 65536
  let i := q.pos + d
  let q := if p.fmt = 2 then s.adpcmRun p d q q.pos else q
  let past := p.loopOn && decide (p.last < i)
  let i' := if past then p.first + (i - p.last - 1) % (p.last - p.first + 1) else i
  let ended := !p.loopOn && decide (p.stop < i) && p.fmt != 3
  (x, { q with pos := i' % 2 ^ 32, frac := f % 65536, lastX := x }, ended, miss)

/-- One step of a tone voice (R345). -/
def State.toneStep (s : State) (v : Nat) (q : Voice) : Int × Voice :=
  let w := s.act (kVoice v 4)
  let freq := (s.act (kVoice v 0)).toNat
  let ph := q.pos
  let x : Int := match wfld w 31 30 with
    | 1 =>
      let p := Int.ofNat (nfld ph 31 16)
      if p < 32768 then 2 * p - 32768 else 98303 - 2 * p
    | 2 => if q.lfsr % 2 = 0 then 32767 else -32768
    | _ => if nfld ph 31 24 < wfld w 7 0 then 32767 else -32768
  let sum := ph + freq
  let fb := (nbit q.lfsr 0) ^^ (if nbit w.toNat 29 then nbit q.lfsr 6 else nbit q.lfsr 1)
  let lfsr := if 2 ^ 32 ≤ sum then q.lfsr / 2 + (if fb then 2 ^ 14 else 0) else q.lfsr
  (x, { q with pos := sum % 2 ^ 32, lfsr := lfsr, lastX := x })

/-- The envelope after a sample; the Bool tells that a release has reached 0 (R346). -/
def State.envStep (s : State) (v : Nat) (q : Voice) : Voice × Bool :=
  let rate (off : Nat) : Nat := wfld (s.act (kVoice v off)) 23 0
  let full := 0x7FFFFFFF
  let sus := wfld (s.act (kVoice v 0x24)) 14 0 * 65536
  match q.st with
  | 1 =>
    let lv := if rate 0x18 = 0 then full else min full (q.lv + rate 0x18)
    ({ q with lv := lv, st := if lv = full then 2 else 1 }, false)
  | 2 =>
    let lv := if rate 0x1C = 0 then sus else max sus (q.lv - rate 0x1C)
    ({ q with lv := lv, st := if lv = sus then 3 else 2 }, false)
  | 4 =>
    let lv := if rate 0x20 = 0 then 0 else q.lv - rate 0x20
    ({ q with lv := lv }, lv == 0)
  | _ => (q, false)

/-- A voice ends (R351): idle with Lv 0, and END_CHAN fires. -/
def State.voiceEnd (s : State) (v : Nat) : State :=
  let s := s.setVoice v { s.voice v with st := 0, lv := 0, kill := 0 }
  s.produce (s.voiceHolder v) (kVoice v 0x44)

/-- Bus sums with one more contribution (R347). -/
def addBus (sums : List (Nat × Int)) (k : Nat) (v : Int) : List (Nat × Int) :=
  Sparse.set (fun _ => (0 : Int)) sums k (Sparse.get (fun _ => (0 : Int)) sums k + v)

/-- A stereo contribution to a bus, if the bench holds it. -/
def State.toBus (s : State) (b bus : Nat) (on : Bool) (l r : Int) (sums : List (Nat × Int)) : List (Nat × Int) :=
  if on && s.audPlan.busBench bus == some b then addBus (addBus sums (2 * bus) l) (2 * bus + 1) r else sums

/-- One voice computes its sample (R343 to R347, R351). Data that has not returned by this sample counts in UNDERRUN. Data in a
hole leaves the last x too, and the kill ramp begins, unless the fetch that found the hole has begun it (R367). -/
def State.voiceSample (s : State) (sums : List (Nat × Int)) (v : Nat) : List (Nat × Int) × State :=
  let q := s.voice v
  match s.voiceHolder v with
  | none => (sums, s)
  | some b =>
    if q.st = 0 then (sums, s)
    else
      let isLate := decide (v < 1024) && q.late
      let (x, q', ended, miss) := if v < 1024 then s.sampleStep (s.playParams b v) q isLate
        else
          let (x, r) := s.toneStep v q
          (x, r, false, false)
      let hole := miss && q.st != 5
      let kill := if hole then 0 else q.kill
      let ramps := miss || q.st == 5
      let mix := s.act (kVoice v 0x28)
      let a := x * Int.ofNat (q.lv / 65536) / 32768
      let vol := a * Int.ofNat (wfld mix 31 16) / 32768
      let vol := if ramps then vol * (32 - Int.ofNat kill) / 32 else vol
      let pan := min 256 (wfld mix 8 0)
      let l := vol * Int.ofNat (min 256 (2 * (256 - pan))) / 256
      let r := vol * Int.ofNat (min 256 (2 * pan)) / 256
      let bus := s.act (kVoice v 0x2C)
      let send := s.act (kVoice v 0x30)
      let lev (hi lo : Nat) (c : Int) : Int := c * Int.ofNat (wfld send hi lo) / 32768
      let sums := s.toBus b (wfld bus 5 0) (nbit bus.toNat 7) l r sums
      let sums := s.toBus b (wfld bus 13 8) (nbit bus.toNat 15) (lev 15 0 l) (lev 15 0 r) sums
      let sums := s.toBus b (wfld bus 21 16) (nbit bus.toNat 23) (lev 31 16 l) (lev 31 16 r) sums
      let q' := { q' with late := false }
      let (q', released) := if ramps then ({ q' with st := 5, kill := kill + 1 }, false) else s.envStep v q'
      let s := s.setVoice v q'
      let s := if hole then (s.hole b).setB (kVoice v 0x4C) 25 true else s
      let s := if isLate then s.incSat (kVoice v 0x4C) 15 0 else s
      (sums, if ended || released || (ramps && kill == 31) then s.voiceEnd v else s)

/-- A key-on (R343 to R346): the attack starts from the current level. -/
def State.voiceStart (s : State) (b v : Nat) : State :=
  let q := s.voice v
  let q := { q with st := 1, pos := 0, frac := 0, kill := 0, keyOff := false, saved := none, bad := [], late := false }
  if 1024 ≤ v then s.setVoice v { q with lfsr := 1 }
  else
    let w := s.act (kVoice v 0x34)
    let pred := sgn 16 (wfld w 15 0)
    let index := min 88 (wfld w 22 16)
    let p := { s.playParams b v with bad := [] }
    let q := { q with pred := pred, index := index, saved := if p.first = 0 then some (pred, index) else none }
    if p.fmt = 2 then
      match s.nibbleAt p 0 with
      | none => s.setVoice v q
      | some nib =>
        let (pr, ix) := imaDecode pred index nib
        s.setVoice v { q with pred := pr, index := ix }
    else s.setVoice v q

/-- A kill ramp starts unless the voice is idle or already ramps (R351). -/
def State.voiceKill (s : State) (v : Nat) : State :=
  let q := s.voice v
  if q.st = 0 || q.st = 5 then s else s.setVoice v { q with st := 5, kill := 0 }

/-- A voice applies the requests of a boundary: KILL, the swap, ON, OFF (R349, R350). While a kill ramp runs an OFF is discarded,
whatever brought it. -/
def State.voiceKeys (s : State) (v : Nat) : State :=
  let q := s.voice v
  let s := if q.reqKill then s.voiceKill v else s
  let q := s.voice v
  if q.st = 5 then s.setVoice v { q with reqKill := false, reqOff := false, inOff := false, memOff := false }
  else
    let on := q.reqOn || q.inOn || q.memOn
    let off := q.reqOff || q.inOff || q.memOff
    let s := s.setVoice v { q with
      reqKill := false, reqOn := false, reqOff := false, inOn := q.inOn && q.memOn, memOn := false,
      inOff := q.inOff && q.memOff, memOff := false }
    let s := if on then
        let s := if s.bit (kVoice v 0x44) 0 then s.swapRegs (if v < 1024 then pagedKeys 0 v else pagedKeys 1 (v - 1024)) else s
        match s.voiceHolder v with
        | some b => s.voiceStart b v
        | none => s
      else s
    let q := s.voice v
    if off && q.st != 0 then s.setVoice v { q with st := 4, keyOff := true } else s

/-- An event reaches a voice's key-on or key-off task input (R350). -/
def State.voiceEvent (s : State) (v : Nat) (on : Bool) : State :=
  let q := s.voice v
  let busy := q.st == 5 || (if on then q.inOn else q.inOff)
  let mem := if on then q.memOn else q.memOff
  if !busy then s.setVoice v (if on then { q with inOn := true } else { q with inOff := true })
  else if mem then s.setB (kVoice v 0x4C) 27 true
  else s.setVoice v (if on then { q with memOn := true } else { q with memOff := true })

/-- A write of VOICEv_KEY (R349). -/
def State.voiceKey (s : State) (v : Nat) (w : Word) : State :=
  let q := s.voice v
  s.setVoice v { q with
    reqOn := q.reqOn || nbit w.toNat 0, reqOff := q.reqOff || nbit w.toNat 1, reqKill := q.reqKill || nbit w.toNat 2 }

/-- VOICEv_STAT as it reads (R369). -/
def State.voiceStat (s : State) (v : Nat) : Word :=
  let q := s.voice v
  setBit (setFld (s.rd (kVoice v 0x4C)) 31 29 q.st) 28 (q.reqOn || q.reqOff || q.reqKill || q.inOn || q.inOff || q.memOn || q.memOff)

/-- A voice fetch returns, having found an error or none (R367, R411): the samples of a bad one read as 0. -/
def State.voiceFetch (s : State) (v a n : Nat) (found : Option (Addr × EccFound)) : State :=
  match s.audPlan.voiceBench v with
  | none => s
  | some b =>
    if (s.voice v).st = 0 || n = 0 then s
    else if !s.rangeHeld b a n then ((s.hole b).setB (kVoice v 0x4C) 25 true).voiceKill v
    else
      let s := (s.upset found).mends a n
      let q := s.voice v
      let old := q.bad.filter fun r => !inRanges [r] a n
      if s.marked a n
      then ((s.readUe a n).setB (kVoice v 0x4C) 26 true).setVoice v { q with bad := old ++ [(a, n)], late := false }
      else s.setVoice v { q with bad := old, late := false }

/-- The data that a voice needs for its next sample has not returned by then (R367). -/
def State.voiceLate (s : State) (v : Nat) : State :=
  if (s.voice v).st = 0 then s else s.setVoice v { s.voice v with late := true }

/-! ### Zero crossings (R358 to R360) -/

/-- A zero crossing at a sample. -/
def zeroCross (before now : Int) : Bool :=
  now == 0 || (decide (before < 0) && decide (0 < now)) || (decide (0 < before) && decide (now < 0))

/-- Samples before a waiting value applies without a crossing: ceil(TMO · rate / 1,000) with TMO as it acts. -/
def waitLimit (w : Word) (rate : Nat) : Nat := ceilDiv (max 1 (min 40 (wfld w 21 16)) * rate) 1000

/-- The value that waits, given the register: a new write replaces it and keeps its count. -/
def ZcVal.waiting (z : ZcVal) (target : Word) : Option (Word × Nat) :=
  match z.wait with
  | some (w, c) => some (if w = target then w else target, c)
  | none => if target = z.now then none else some (target, 0)

/-- A gain at a sample of its signal x. -/
def ZcVal.gainStep (z : ZcVal) (target : Word) (x : Int) (rate : Nat) : ZcVal :=
  match z.waiting target with
  | none => { z with wait := none, last := x }
  | some (w, c) =>
    if zeroCross z.last x || decide (waitLimit w rate ≤ c) then { z with now := w, wait := none, last := x }
    else { z with wait := some (w, c + 1), last := x }

/-- The level of a routed source (R354). -/
def routeLevel (w : Word) (src : Int) : Int := clamp24 ((src * Int.ofNat (wfld w 15 0) + 16384) / 32768)

/-- One sample of a route: its output, and the route after it (R354, R358 to R360). -/
def ZcVal.routeStep (z : ZcVal) (target : Word) (src : Word → Int) : Int × ZcVal :=
  let x := src z.now
  let now := routeLevel z.now x
  let plain (z : ZcVal) : Int × ZcVal :=
    let o := routeLevel z.now (src z.now)
    (o, { z with last := src z.now, lastO := o })
  let fadeAt (z : ZcVal) (i : Nat) (old : Word) : Int × ZcVal :=
    let o := (routeLevel old (src old) * Int.ofNat (64 - i) + routeLevel z.now (src z.now) * Int.ofNat i) / 64
    (o, { z with fade := some (i + 1, old), last := src z.now, lastO := o })
  let rest (z : ZcVal) : Int × ZcVal :=
    match z.waiting target with
    | none => plain { z with wait := none }
    | some (w, c) =>
      let late := decide (waitLimit w 96000 ≤ c)
      if wfld w 31 24 = wfld z.now 31 24 then
        if zeroCross z.last x || late then plain { z with now := w, wait := none }
        else plain { z with wait := some (w, c + 1) }
      else if zeroCross z.lastO now || late then fadeAt { z with now := w, wait := none } 0 z.now
      else plain { z with wait := some (w, c + 1) }
  match z.fade with
  | some (i, old) =>
    if i < 64 then fadeAt { z with wait := if target = z.now then none else some (target, 0) } i old
    else rest { z with fade := none }
  | none => rest z

/-- A value at rest at its register's reset value. -/
def ZcVal.rest (k : Nat) : ZcVal := { now := regReset k, wait := none, last := 0, lastO := 0, fade := none }

/-- A bus gain, of channel 2 · bus + side. -/
def State.busGain (s : State) (n : Nat) : ZcVal := Sparse.get (fun n => ZcVal.rest (kBus (n / 2) 0x50)) s.audio.gains n
def State.setBusGain (s : State) (n : Nat) (z : ZcVal) : State :=
  { s with audio := { s.audio with gains := Sparse.set (fun n => ZcVal.rest (kBus (n / 2) 0x50)) s.audio.gains n z } }
/-- A route of output channel c. -/
def State.route (s : State) (c : Nat) : ZcVal := Sparse.get (fun c => ZcVal.rest (kOut c)) s.audio.routes c
def State.setRoute (s : State) (c : Nat) (z : ZcVal) : State :=
  { s with audio := { s.audio with routes := Sparse.set (fun c => ZcVal.rest (kOut c)) s.audio.routes c z } }
/-- A side-tone of output slot t. -/
def State.side (s : State) (t : Nat) : ZcVal := Sparse.get (fun t => ZcVal.rest (kSide t)) s.audio.sides t
def State.setSide (s : State) (t : Nat) (z : ZcVal) : State :=
  { s with audio := { s.audio with sides := Sparse.set (fun t => ZcVal.rest (kSide t)) s.audio.sides t z } }

/-- The rate in hertz of a PORT domain (R337, R55). -/
def State.domRate (s : State) (d : Nat) : Nat :=
  match (if d = 0 then s.plan.portASrc else s.plan.portBSrc) % 4 with
  | 0 => 44100
  | 1 => 48000
  | _ => 96000
/-- The plan slaves a domain to its word clock. -/
def State.domWclk (s : State) (d : Nat) : Bool := nbit (if d = 0 then s.plan.portASrc else s.plan.portBSrc) 7
def State.dom (s : State) (d : Nat) : Domain := if d = 0 then s.audio.domA else s.audio.domB
def State.setDom (s : State) (d : Nat) (x : Domain) : State :=
  { s with audio := if d = 0 then { s.audio with domA := x } else { s.audio with domB := x } }
def State.setTdmPort (s : State) (p : Nat) (x : TdmPort) : State :=
  { s with audio := { s.audio with tdm := Sparse.set (fun _ => TdmPort.reset) s.audio.tdm p x } }
/-- The domain of a TDM port: DOMAIN as it took effect at its last frame boundary while it sends frames, else as it stands (R361). -/
def State.tdmDom (s : State) (p : Nat) : Nat :=
  wfld (if (s.tdmPort p).running then (s.tdmPort p).ctl else s.rd (kTdm p)) 30 30

/-- A waiting gain or route whose TMO count has run out applies, with the value last written (R358, R360). -/
def ZcVal.timeout (z : ZcVal) (target : Word) (rate : Nat) (route : Bool) : ZcVal :=
  match z.wait.bind fun _ => z.waiting target with
  | some (w, c) =>
    if c < waitLimit w rate || (match z.fade with
        | some (i, _) => decide (i < 64)
        | none => false) then z
    else if route && wfld w 31 24 != wfld z.now 31 24 then { z with now := w, wait := none, fade := some (0, z.now) }
    else { z with now := w, wait := none }
  | none => z

/-- GAIN_TIMEOUT for a unit (R358). -/
def State.gainTimeout (s : State) : ZcUnit → State
  | .bus b =>
    let w := s.rd (kBus b.val 0x50)
    let s := s.setBusGain (2 * b.val) ((s.busGain (2 * b.val)).timeout w 96000 false)
    s.setBusGain (2 * b.val + 1) ((s.busGain (2 * b.val + 1)).timeout w 96000 false)
  | .out c => if c.val < 96 then s.setRoute c.val ((s.route c.val).timeout (s.rd (kOut c.val)) 96000 true) else s
  | .sidetone t =>
    if t.val < 32 then
      s.setSide t.val ((s.side t.val).timeout (s.rd (kSide t.val)) (s.domRate (s.tdmDom (t.val / 8))) false)
    else s

/-- CROSSFADE_END for a unit (R359): only routes fade. -/
def State.crossfadeEnd (s : State) : ZcUnit → State
  | .out c =>
    let z := s.route c.val
    match z.fade with
    | some (i, _) => if 64 ≤ i && c.val < 96 then s.setRoute c.val { z with fade := none } else s
    | none => s
  | _ => s

/-! ### Buses, routing and pairs (R353 to R356) -/

/-- One equaliser band on a sample: the output, and the band's history after it (R353). -/
def bandStep (c : Nat → Int) (x : Int) (h : Int × Int × Int × Int) : Int × (Int × Int × Int × Int) :=
  let w := c 0 * x + c 1 * h.1 + c 2 * h.2.1 - c 3 * h.2.2.1 - c 4 * h.2.2.2
  let y := clampI (-2147483648) 2147483647 ((w + 8388608) / 16777216)
  (y, (x, h.1, y, h.2.2.1))

/-- The equaliser of bus channel n = 2 · bus + side. -/
def State.eqRun (s : State) (n : Nat) (acc : Int) : Int × State :=
  (List.range 4).foldl (fun (a : Int × State) i =>
    let c (j : Nat) : Int := sgn 32 (a.2.act (kBus (n / 2) (0x14 * i + 4 * j))).toNat
    let h := Sparse.get (fun _ => ((0, 0, 0, 0) : Int × Int × Int × Int)) a.2.audio.eq (4 * n + i)
    let (y, h') := bandStep c a.1 h
    (y, { a.2 with audio := { a.2.audio with
      eq := Sparse.set (fun _ => ((0, 0, 0, 0) : Int × Int × Int × Int)) a.2.audio.eq (4 * n + i) h' } })) (acc, s)

/-- One channel of a bus computes its sample (R353, R358). -/
def State.busSample (s : State) (n : Nat) : Int × State :=
  let acc := Sparse.get (fun _ => (0 : Int)) s.audio.sums n
  let (acc, s) := s.eqRun n acc
  let z := (s.busGain n).gainStep (s.rd (kBus (n / 2) 0x50)) acc 96000
  let s := s.setBusGain n z
  let raw := (acc * Int.ofNat (wfld z.now 15 0) + 8) / 16
  let out := clamp24 raw
  (out, if out = raw then s else s.incSat (kBus (n / 2) 0x54) 15 0)

/-- Every bus computes its sample; a bus no bench holds is silent. -/
def State.busStage (s : State) : State :=
  let (outs, s) := (List.range 128).foldl (fun (a : List (Nat × Int) × State) n =>
    if (a.2.audPlan.busBench (n / 2)).isNone then a
    else
      let (o, t) := a.2.busSample n
      (Sparse.set (fun _ => (0 : Int)) a.1 n o, t)) ([], s)
  { s with audio := { s.audio with busOut := outs } }

/-- The converters of a domain pass samples unchanged: a root domain at 96 kHz (R340). -/
def State.domDirect (s : State) (d : Nat) : Bool := !s.domWclk d && s.domRate d == 96000

/-- The bridge of a domain is silent towards its ports: in the path and not locked or ramped down (R341). -/
def State.domSilent (s : State) (d : Nat) : Bool := s.domWclk d && (s.dom d).ramp == 0

/-- The bridge of a domain is silent towards VOICE (R341). -/
def State.voiceSilent (s : State) (d : Nat) : Bool := s.domWclk d && (s.dom d).vramp == 0

/-- The value that a converter gives for an input slot at a sample boundary, where its filter is not given (R340): one for each slot, at
the count of free values that the boundary began with. -/
def slotConv (n slot : Nat) : Int := sgn 24 (Config.freeValue (n + slot)).toNat

/-- The source that a route word names for an output channel of bench b (R354). -/
def State.routeSource (s : State) (b n : Nat) (busOut : List (Nat × Int)) (w : Word) : Int :=
  let src := wfld w 31 24
  if src < 0x80 then
    if s.audPlan.busBench (src / 2) == some b then Sparse.get (fun _ => (0 : Int)) busOut src else 0
  else if src < 0xA0 then
    let p := (src - 0x80) / 8
    let d := s.tdmDom p
    if s.audPlan.tdmBench p != some b || !(s.tdmPort p).running || s.voiceSilent d then 0
    else if s.domDirect d then (s.tdmPort p).ins.getD ((src - 0x80) % 8) 0
    else slotConv n (src - 0x80)
  else 0

/-- The delay line of an output channel with a sample added. -/
def pushLine (t : List (Nat × List Int)) (c : Nat) (v : Int) : List (Nat × List Int) :=
  let old := Sparse.get (fun _ => ([] : List Int)) t c
  if old.isEmpty && v == 0 then t else Sparse.set (fun _ => ([] : List Int)) t c ((v :: old).take 8192)

/-- The delay of a pair on one channel: y, and the line after it (R355). -/
def State.delayStep (s : State) (c : Nat) (x : Int) : Int × State :=
  let k := c / 2
  let delay := wfld (s.act (kPair k 0)) 12 0
  let echo := s.act (kPair k 4)
  let line := Sparse.get (fun _ => ([] : List Int)) s.audio.lines c
  let d := if delay = 0 then x else line.getD (delay - 1) 0
  let fb := sgn 16 (wfld echo 31 16)
  let new := clamp24 (x + (d * fb + 16384) / 32768)
  let y := clamp24 ((x * Int.ofNat (wfld (s.act (kPair k 8)) 15 0) + d * Int.ofNat (wfld echo 15 0) + 16384) / 32768)
  (y, { s with audio := { s.audio with lines := pushLine s.audio.lines c new } })

/-- The limiter of pair k on its two channels (R356). -/
def State.limitStep (s : State) (k : Nat) (yl yr : Int) : Int × Int × State :=
  let lim := s.act (kPair k 0xC)
  let t := wfld lim 22 0
  let g := Sparse.get (fun _ => 0x800000) s.audio.limits k
  let pk := max yl.natAbs yr.natAbs
  let hit := nbit lim.toNat 31 && decide (t * 0x800000 < pk * g)
  let g := if hit then t * 0x800000 / pk else g
  let s := if hit then s.incSat (kPair k 0x10) 15 0 else s
  let out (y : Int) : Int := (y * Int.ofNat g + 4194304) / 8388608
  let g' := g + (0x800000 - g) / 8192
  (out yl, out yr, { s with audio := { s.audio with limits := Sparse.set (fun _ => 0x800000) s.audio.limits k g' } })

/-- A sample under the ramps of its channel and of all outputs (R368, R531, R535, R536). -/
def State.ramped (s : State) (c : Nat) (v : Int) : Int :=
  let v := v * Int.ofNat (32 - min 32 (Sparse.get (fun _ => 0) s.audio.ramps c)) / 32
  v * Int.ofNat (32 - min 32 s.audio.mute) / 32

/-- One output channel before its pair (R354, R359); `n` as for `slotConv`. -/
def State.outSample (s : State) (b c n : Nat) (busOut : List (Nat × Int)) : Int × State :=
  let (o, z) := (s.route c).routeStep (s.rd (kOut c)) (s.routeSource b n busOut)
  (o, s.setRoute c z)

/-- Every pair computes its two channels (R354 to R356). -/
def State.pairStage (s : State) (busOut : List (Nat × Int)) : State :=
  let n := s.free
  let s := { s with free := n + 32 }
  let (outs, s) := (List.range 48).foldl (fun (a : List (Nat × Int) × State) k =>
    match a.2.audPlan.outBench (2 * k) with
    | none => a
    | some b =>
      let (xl, t) := a.2.outSample b (2 * k) n busOut
      let (xr, t) := t.outSample b (2 * k + 1) n busOut
      let (yl, t) := t.delayStep (2 * k) xl
      let (yr, t) := t.delayStep (2 * k + 1) xr
      let (ol, or_, t) := t.limitStep k yl yr
      let set (m : List (Nat × Int)) (c : Nat) (v : Int) : List (Nat × Int) := Sparse.set (fun _ => (0 : Int)) m c (t.ramped c v)
      (set (set a.1 (2 * k) ol) (2 * k + 1) or_, t)) ([], s)
  { s with audio := { s.audio with
      outs := outs
      ramps := s.audio.ramps.map fun e => (e.1, min 32 (e.2 + 1))
      mute := if s.audio.muting then min 32 (s.audio.mute + 1) else s.audio.mute - 1 } }

/-- The handed samples go into the audio stream of a head that is sent (R300, R340, R357); its InfoFrame tells the sink the format as
the stream starts and whenever the format changes. -/
def State.dpAudio (s : State) (h : Nat) : State :=
  let told (t : State) (l : List (Nat × Word)) : State := { t with audio := { t.audio with infos := l } }
  if !(s.sending h && s.bit (kHead h 0x1030) 9 && !s.isEdp h) then told s (Sparse.del s.audio.infos h)
  else
    let ctl := s.rd (kDp h)
    let s := if s.audio.infos.contains (h, ctl) then s
      else told (s.emit (.audioInfo h ctl)) (Sparse.put s.audio.infos h ctl)
    let chans := s.fld (kDp h) 2 0 + 1
    if s.bit (kDp h) 8 then
      s.emit (.dpAudio h ((List.range chans).map fun n => Sparse.get (fun _ => (0 : Int)) s.audio.handed (8 * h + n)))
    else if s.audio.odd then s
    else
      let (vals, s) := (List.range chans).foldl (fun (a : List Int × State) _ =>
        let (f, t) := a.2.fresh
        (a.1 ++ [sgn 24 f], t)) ([], s)
      s.emit (.dpAudio h vals)

/-- VOICE runs: the root is on (R431, R519). -/
def Mode.voiceOn (m : Mode) : Bool := m.mainOn && m != .doze

/-- The voices that may sound: those that are not idle or have a request. -/
def State.liveVoices (s : State) : List Nat := s.audio.voices.map (·.1)

/-- The TASK registers as written take effect, each a route change where its subscriptions differ (R338, R369, R450). -/
def State.taskLand (s : State) : State :=
  let keys := (((s.regs ++ s.audio.active).map (·.1)).filter isTask).eraseDups
  keys.foldl (fun t k =>
    if t.act k = t.rd k then t
    else
      (t.swapRegs [k]).routeWrite k t) s

/-- The bridges' ramps towards VOICE step (R341). -/
def State.voiceRamps (s : State) : State :=
  (List.range 2).foldl (fun t d =>
    let q := t.dom d
    t.setDom d { q with vramp := if q.locked then min 32 (q.vramp + 1) else q.vramp - 1 }) s

/-- A VOICE sample boundary (R338, R339, R348 to R351): the samples of k − 3 are handed over; requests, swaps and writes take effect;
and the three stages each process one sample by them. Voices are frozen in Hold, with their swaps (R535). -/
def State.sampleBoundary (s : State) : State :=
  if !s.mode.voiceOn then s
  else
    let hold := s.mode == .hold
    let s := { s with audio := { s.audio with handed := s.audio.outs, odd := !s.audio.odd } }
    let s := (List.range 8).foldl (fun t h => t.dpAudio h) s
    let swaps := s.audio.swaps.eraseDups
    let waits (e : Nat × Nat) : Bool := hold && decide (e.1 < 2)
    let s := { s with audio := { s.audio with swaps := swaps.filter waits } }
    let live := if hold then [] else s.liveVoices
    let s := live.foldl (fun t v => if (t.voice v).reqKill then t.voiceKill v else t) s
    let s := (swaps.filter fun e => !waits e).foldl (fun t e => t.swapRegs (pagedKeys e.1 e.2)) s
    let s := live.foldl (fun t v => t.voiceKeys v) s
    let s := s.taskLand.voiceRamps
    let s := (s.pairStage s.audio.busOut).busStage
    (s.oneClock [] fun s =>
      let (sums, s) := live.foldl (fun (a : List (Nat × Int) × State) v => a.2.voiceSample a.1 v) ([], s)
      { s with audio := { s.audio with sums := sums } }).1

/-- All outputs ramp to silence, or back (R531, R535, R536, R539). -/
def State.audioMute (s : State) (on : Bool) : State := { s with audio := { s.audio with muting := on } }

/-! ### TDM ports and word clocks (R341, R361 to R364) -/

/-- A change of LOCKED or FALLBACK sets CHANGED for every bench with a port of the domain (R364). -/
def State.domChanged (s : State) (d : Nat) : State :=
  (List.range 4).foldl (fun t b =>
    if (List.range 4).any fun p => t.plan.tdmBench p == some b && t.tdmDom p == d
    then t.setB (bankKey (b + 1) (kDomain d)) 26 true else t) s

/-- A side-tone's input: its source slot, or none where it is unusable (R362). -/
def State.sideSource (s : State) (t : Nat) (w : Word) : Option Int :=
  let slot := wfld w 28 24
  let p := slot / 8
  if s.tdmDom p != s.tdmDom (t / 8) || !s.bit (kTdm p) 31 || s.audPlan.tdmBench p != s.audPlan.tdmBench (t / 8) then none
  else some ((s.tdmPort p).ins.getD (slot % 8) 0)

/-- One output slot of a running port (R361, R362). -/
def State.tdmSlot (s : State) (d t : Nat) : Int × State :=
  let (f, s) := if s.domDirect d || s.domSilent d then (0, s) else s.fresh
  let main := if s.domSilent d then 0
    else if s.domDirect d then Sparse.get (fun _ => (0 : Int)) s.audio.handed (64 + t) else sgn 24 f
  let main := if s.audio.mute = 32 then 0 else main
  let reg := s.rd (kSide t)
  let inp := (s.sideSource t reg).getD 0
  let z := (s.side t).gainStep reg inp (s.domRate d)
  let s := s.setSide t z
  let tone := if nbit reg.toNat 31 then (inp * Int.ofNat (wfld z.now 15 0) + 16384) / 32768 else 0
  (if s.mode == .limp && s.audio.mute == 32 then 0 else clamp24 (main + tone), s)

/-- Slot n of port p among the slots of an input frame. -/
def slotIn (slots : List (Fin 4 × Fin 16 × BitVec 24)) (p n : Nat) : Int :=
  match slots.find? (fun e => e.1.val == p && e.2.1.val == n) with
  | some e => sgn 24 e.2.2.toNat
  | none => 0

/-- A TDM frame boundary of a domain (R361, R364): a return to the word clock takes effect, the bridge ramps, TDMp_CTL takes effect and
ports start or stop, also for Doze (R531), and each running port sends a frame; side-tones take the input frame before the one that
ends here. A port that stops drives its output pins low. -/
def State.tdmFrame (s : State) (d : Nat) (slots : List (Fin 4 × Fin 16 × BitVec 24)) : State :=
  if !s.mode.voiceOn then s
  else
    let q := s.dom d
    let s := if q.back then (s.setDom d { q with back := false, fallback := false, locked := false }).domChanged d else s
    let q := s.dom d
    let s := s.setDom d { q with ramp := if q.locked then min 32 (q.ramp + 1) else q.ramp - 1 }
    let ports := (List.range 4).filter fun p => s.tdmDom p == d && ((s.audPlan.tdmBench p).isSome || (s.tdmPort p).running)
    let s := ports.foldl (fun t p =>
      let ctl := t.rd (kTdm p)
      let q := t.tdmPort p
      if !(nbit ctl.toNat 31 && wfld ctl 30 30 == d && (t.audPlan.tdmBench p).isSome && !t.dozeAsk) then
        (if q.running then t.emit (.tdmLow p) else t).setTdmPort p TdmPort.reset
      else
        let t := t.setTdmPort p { q with running := true, ctl := ctl }
        let (vals, t) := (List.range 8).foldl (fun (a : List (Option Int) × State) n =>
          let (v, u) := a.2.tdmSlot d (8 * p + n)
          (a.1 ++ [some v], u)) ([], t)
        t.emit (.tdm p ctl vals)) s
    ports.foldl (fun t p =>
      if (t.tdmPort p).running then t.setTdmPort p { t.tdmPort p with ins := (List.range 8).map (slotIn slots p) } else t) s

/-- A word-clock edge (R363): a domain that the plan takes from the root ignores it. -/
def State.wclkEdge (s : State) (d : Nat) (inRange : Bool) : State :=
  if s.domWclk d then s.setDom d { s.dom d with good := inRange } else s

/-- The word clock is lost (R363, R364). -/
def State.wclkLoss (s : State) (d : Nat) : State :=
  let q := s.dom d
  if !s.domWclk d || (q.fallback && !q.back) then s
  else
    let s := s.setDom d { q with fallback := true, locked := false, back := false, good := false }
    let s := if q.fallback && !q.locked then s else s.domChanged d
    let s := s.incWrap (kDomain d) 15 0
    s.report 0x06 (0x0B00 + d) 7 (s.rdN (kDomain d))

/-- 500 ms of valid edges after a loss: the switch back waits for the next frame boundary (R363, R364). -/
def State.wclkReturn (s : State) (d : Nat) : State :=
  let q := s.dom d
  if s.domWclk d && q.fallback && q.good then s.setDom d { q with back := true } else s

/-- The bridge of a domain locks (R341). -/
def State.bridgeLock (s : State) (d : Nat) : State :=
  let q := s.dom d
  if s.domWclk d && !q.locked then (s.setDom d { q with locked := true }).domChanged d else s

/-- AUD_DOMAIN_A or AUD_DOMAIN_B as bench b reads it (R369). -/
def State.domainReg (s : State) (b : Option Nat) (d : Nat) : Word :=
  let q := s.dom d
  let rate := match s.domRate d with
    | 44100 => 0
    | 48000 => 1
    | _ => 2
  let w := setBit (setBit (setBit (s.rd (kDomain d)) 31 (s.domWclk d)) 30 q.fallback) 29 q.locked
  let w := setFld w 28 27 rate
  match b with
  | some b => setBit w 26 (s.bit (bankKey (b + 1) (kDomain d)) 26)
  | none => w

/-! ### Registers (R369) -/

/-- A word written to an audio register by a requester of bench b; the Clerk carries none. -/
def State.audioWrite (s : State) (b : Option Nat) (k : Nat) (v : Word) (be : Nat) : State :=
  let key (n : Nat) : State := if nbit be 0 then s.voiceKey n v else s
  if k < 0x3003020000 && k % 0x80 = 0x40 then key ((k - 0x3003000000) / 0x80)
  else if 0x3003020000 ≤ k && k < 0x3003022000 && k % 0x80 = 0x40 then key (1024 + (k - 0x3003020000) / 0x80)
  else if 0x3003060000 ≤ k && k < 0x3003060100 && k % 0x40 = 0 then
    if s.bit k 31 then s.store k (setBit v 30 (s.bit k 30)) be else s.store k v be
  else if 0x3003070000 ≤ k && k < 0x3003070008 then
    match b with
    | some b =>
      let d := (k - 0x3003070000) / 4
      if nbit be 3 && nbit v.toNat 26 then s.setB (bankKey (b + 1) (kDomain d)) 26 false else s
    | none => s
  else if k = 0x3003071000 then
    match b with
    | some b => if be % 16 = 15 then s.audSwap b v else s.audSwap b (storeWord 0 v be 0xFFFFFFFF 0)
    | none => s
  else s.store k v be

/-- An audio register as a requester of bench b reads it. -/
def State.audioRead (s : State) (b : Option Nat) (k : Nat) : Word :=
  let voice (n off : Nat) : Word :=
    let q := s.voice n
    if off = 0x40 then 0 else if off = 0x4C then s.voiceStat n
    else if off = 0x50 then BitVec.ofNat 32 q.pos else if off = 0x54 then BitVec.ofNat 32 q.lv else s.rd k
  if k < 0x3003020000 then voice ((k - 0x3003000000) / 0x80) (k % 0x80)
  else if k < 0x3003022000 then voice (1024 + (k - 0x3003020000) / 0x80) (k % 0x80)
  else if 0x3003051000 ≤ k && k < 0x3003051080 then
    let t := (k - 0x3003051000) / 4
    setBit (s.rd k) 30 (s.sideSource t (s.rd k)).isNone
  else if 0x3003060000 ≤ k && k < 0x3003060100 && k % 0x40 = 0 then setBit (s.rd k) 26 (s.tdmPort ((k - 0x3003060000) / 0x40)).running
  else if 0x3003070000 ≤ k && k < 0x3003070008 then s.domainReg b ((k - 0x3003070000) / 4)
  else if k = 0x3003071000 then 0
  else s.rd k

/-! ### The audio command port (R365, R366) -/

/-- The next entry at the audio command port, if its OP passes a test: bench, ring and entry. -/
def State.audioNext (s : State) (p : Nat → Bool) : Option (Nat × Nat × List Byte) :=
  match s.portNext 1 with
  | some (b, g, e) => if p (entryOp e) && s.mode.ringsRun && s.mode != .hold && s.mode != .limp then some (b, g, e) else none
  | none => none

/-- The words of a WRITE entry are applied as writes of bench b, each with the route change it makes (R450); answers whether one was
blocked (R366). -/
def State.audioWords (s : State) (b : Nat) : Nat → Nat → List Byte → Bool × State
  | 0, _, _ => (false, s)
  | n + 1, a, bytes =>
    let (s, bad) := match s.devAt b a with
      | .held =>
        let t := s.audioWrite (some b) a (BitVec.ofNat 32 (leNat (bytes.take 4))) 15
        (if carriesRoute a then t.routeWrite a s else t, false)
      | .reserved => (s, false)
      | .hole => (s.hole b, true)
    let (rest, t) := s.audioWords b n (a + 4) (bytes.drop 4)
    (bad || rest, t)

/-- A WRITE entry (R365, R366). -/
def State.audioCmdWrite (s : State) : State :=
  match s.audioNext (· == 1) with
  | none => s
  | some (b, g, e) =>
    let s := s.portTake 1 b g
    let n := min 14 (nfld (entryArg e) 31 28 + 1)
    let (bad, s) := s.audioWords b n (0x3003000000 + 4 * nfld (entryArg e) 21 2) (e.drop 8)
    s.completeEntry g e (if bad then 2 else 0) (List.replicate 48 0)

/-- A MARK entry (R365). -/
def State.audioCmdMark (s : State) : State :=
  match s.audioNext (· == 2) with
  | none => s
  | some (b, g, e) => (s.portTake 1 b g).completeEntry g e 0 (List.replicate 48 0)

/-- An entry with another OP (R365). -/
def State.audioCmdUnknown (s : State) : State :=
  match s.audioNext (fun op => op != 1 && op != 2) with
  | none => s
  | some (b, g, e) => (s.portTake 1 b g).completeEntry g e 1 (List.replicate 48 0)

/-! ### The commands -/

/-- SAMPLE_BOUNDARY (R338). -/
def execSampleBoundary (s : State) : Host.Outcome State Fault Refusal := .next s.sampleBoundary

/-- GAIN_TIMEOUT (R358). -/
def execGainTimeout (unit : ZcUnit) (s : State) : Host.Outcome State Fault Refusal := .next (s.gainTimeout unit)

/-- CROSSFADE_END (R359). -/
def execCrossfadeEnd (unit : ZcUnit) (s : State) : Host.Outcome State Fault Refusal := .next (s.crossfadeEnd unit)

/-- VOICE_FETCH_RETURN (R367). -/
def execVoiceFetchReturn (v : Fin 1024) (addr : Addr) (data : VoiceData) (s : State) : Host.Outcome State Fault Refusal :=
  .next (match data with
    | .back d => s.voiceFetch v.val addr.toNat d.bytes.val d.found
    | .late => s.voiceLate v.val)

/-- AUDIO_CMD_WRITE (R366). -/
def execAudioCmdWrite (s : State) : Host.Outcome State Fault Refusal := .next s.audioCmdWrite

/-- AUDIO_CMD_MARK (R365). -/
def execAudioCmdMark (s : State) : Host.Outcome State Fault Refusal := .next s.audioCmdMark

/-- AUDIO_CMD_UNKNOWN (R365). -/
def execAudioCmdUnknown (s : State) : Host.Outcome State Fault Refusal := .next s.audioCmdUnknown

/-- TDM_FRAME (R361). -/
def execTdmFrame (portB : Bool) (slotsIn : List (Fin 4 × Fin 16 × BitVec 24)) (s : State)
    : Host.Outcome State Fault Refusal := .next (s.tdmFrame portB.toNat slotsIn)

/-- WCLK_EDGE (R363). -/
def execWclkEdge (portB inRange : Bool) (s : State) : Host.Outcome State Fault Refusal :=
  .next (s.wclkEdge portB.toNat inRange)

/-- WCLK_LOSS (R364). -/
def execWclkLoss (portB : Bool) (s : State) : Host.Outcome State Fault Refusal := .next (s.wclkLoss portB.toNat)

/-- WCLK_RETURN (R364). -/
def execWclkReturn (portB : Bool) (s : State) : Host.Outcome State Fault Refusal := .next (s.wclkReturn portB.toNat)

/-- BRIDGE_LOCK (R341). -/
def execBridgeLock (portB : Bool) (s : State) : Host.Outcome State Fault Refusal := .next (s.bridgeLock portB.toNat)

end Sys2Proof.Machine
end

