-- ==== Sys2Proof/Machine/Checkpoint.lean ====
section
/-!
DEFINITION. The checkpoints of the daybook (R328 to R330).
-/
namespace Sys2Proof.Machine

/-- A checkpoint item: its ITEM word, its 64 bytes as eight doubles, and a mask of its 32-bit words that hold uncorrectable data
(R310, R328). -/
abbrev CkptItem := Nat × List Nat × Nat

/-- An item of sixteen words, some of them marked. A marked word is written as 0. -/
def ckptItem (item : Nat) (words : List (Nat × Bool)) : CkptItem :=
  let v (i : Nat) : Nat := match words.getD i (0, false) with
    | (w, bad) => if bad then 0 else w
  (item, (List.range 8).map (fun i => v (2 * i) + v (2 * i + 1) * 2 ^ 32),
    (List.range 16).foldl (fun n i => if (words.getD i (0, false)).2 then n + 2 ^ i else n) 0)

/-- The body of a STATE record: ITEM in [31:0], the 64 bytes right after it, and the mask of marked words in the four bytes that are left
(R324 gives the mark no place: DESIGN CHOICE, log 77). -/
def CkptItem.body (e : CkptItem) : List Nat := bodyWords (leBytes 4 e.1 ++ e.2.1.flatMap (leBytes 8) ++ leBytes 4 e.2.2)

/-- A 64-byte item of a head's registers from a line-view address, as they read. -/
def State.regItem (s : State) (h item k : Nat) : CkptItem :=
  ckptItem item ((List.range 16).map fun i => ((s.headRead h (k + 4 * i)).toNat, s.marked (k + 4 * i) 4))

/-- The items of a sprite store: two descriptors each, only the entries in use. -/
def storeItems (kind : Nat) (store : List Sprite) : List CkptItem :=
  let half (n : Nat) : List (Nat × Bool) := match store.find? fun p => p.idx == n with
    | some p => (List.range 8).map fun i => ((p.words.getD i 0).toNat, p.bad)
    | none => List.replicate 8 (0, false)
  ((store.map fun p => p.idx / 2).eraseDups).map fun i => ckptItem (kind * 2 ^ 28 + i) (half (2 * i) ++ half (2 * i + 1))

/-- The STATE items of a checkpoint (R328). -/
def State.ckptItems (s : State) (h : Nat) : List CkptItem :=
  let q := s.head h
  let mbItem (p : Nat) : List Nat :=
    let m := s.mbActive h p
    [m.fmt.toNat + m.pitch.toNat * 2 ^ 32, m.addr0, m.addr1, m.addr2, 0, 0, 0, 0]
  let origin := q.origins.flatMap fun o => [o.1, o.2]
  let pass := [if q.sort.outcome = 1 then 1 else 0, q.sort.next, q.sort.base, q.sort.count, s.rdN (kPe h 0x18),
    q.front.length, q.back.length, 0]
  let fences := (List.range 4).foldl (fun n p => if s.bit (kMb h p 0x38) 31 then n + 2 ^ p else n) 0
  let flips := [s.rdN (kCommit h), fences, (s.headRead h (kFlat h)).toNat, 0, 0, 0, 0, 0]
  let reported (i : Nat) : List Nat := (List.range 8).map fun w =>
    (q.reported.filter fun k => k / 64 == 8 * i + w).foldl (fun n k => n + 2 ^ (k % 64)) 0
  ((List.range 80).map fun i => s.regItem h (0x10000000 + i) (kPe h (64 * i)))
    ++ ((List.range 1024).map fun i => s.regItem h (0x20000000 + i) (kPe h (0x10000 + 64 * i)))
    ++ storeItems 3 q.front ++ storeItems 4 q.back
    ++ ((List.range 64).map fun i => s.regItem h (0x50000000 + i) (kHead h (64 * i)))
    ++ ((List.range 4).map fun p => (0x60000000 + p, mbItem p, 0))
    ++ [(0x70000000, origin, 0), (0x70000001, pass, 0), (0x70000002, flips, 0)]
    ++ ((List.range 128).map fun i => (0x80000000 + i, reported i, 0))

/-- The ranges that the WATCH registers name: first page and length in pages (R334). -/
def State.watchRanges (s : State) (h : Nat) : List (Nat × Nat) :=
  ((List.range 16).filter fun k => s.bit (kHead h (0x10044 + 8 * k)) 31).map fun k =>
    let v := s.rd64 (kHead h (0x10040 + 8 * k))
    (nfld v 39 12, max 1 (nfld v 59 40))

/-- The watched pages that a checkpoint saves: those of the bench (R328, R336). -/
def State.savedPages (s : State) (h : Nat) (watch : List (Nat × Nat)) : List Nat :=
  match s.plan.headBench h with
  | none => []
  | some b => watch.flatMap fun w => ((List.range w.2).map (w.1 + ·)).filter fun p => s.assetHeld b (p * 4096)

/-- A checkpoint starts at a line-0 boundary: its start record, the watch ranges and the state as it stands; one whose
records would exceed a quarter of the journal is not taken (R328 to R330). -/
def State.ckptStart (s : State) (h : Nat) : State :=
  let j := s.journal h
  let watch := s.watchRanges h
  let items := s.ckptItems h
  let size := 16 + 80 * items.length + 5120 * (s.savedPages h watch).length + 16
  let s := s.setJournal h { j with ckptReq := false }
  if s.journalCap * 4096 < 4 * size then s.setB (kHead h 0x10014) 30 true
  else
    let q := s.head h
    let s := s.recordCkpt h [recHead 0x0A 2 q.line q.recSpan 0 0, j.ckptNo]
    let j := s.journal h
    (s.setJournal h { j with
      ckptNo := j.ckptNo + 1, ckptRun := true
      ckptSeq := if j.open_.length ≤ 508 then j.seq else (j.seq + 1) % 2 ^ 32, watch := watch, snap := items }).setB
      (kHead h 0x10014) 31 true

/-- The MEM records of one watched page: 64 bytes each, marked words as 0 (R328, R427). -/
def State.snapPage (s : State) (h page : Nat) : State :=
  (List.range 64).foldl (fun t i =>
    let a := page * 4096 + 64 * i
    let q := t.head h
    (t.meets a 64).recordCkpt h
      (recHead 0x07 10 q.line q.recSpan 0 (64 + 63) :: memBody a ((List.range 8).flatMap fun k => leBytes 8 (t.goodWord (a + 8 * k))))) s

/-- A checkpoint ends: its STATE and MEM records stand in the journal, the end record follows, and DB_CKPT names its start
block (R328, R329). The caller enters it in the event log. -/
def State.ckptEnd (s : State) (h : Nat) : State :=
  let j := s.journal h
  if !j.ckptRun then s
  else
    let s := j.snap.foldl (fun t e =>
      let q := t.head h
      t.recordCkpt h (recHead 0x0B 10 q.line q.recSpan 0 0 :: CkptItem.body e)) s
    let s := (s.savedPages h j.watch).foldl (fun t p => t.snapPage h p) s
    let q := s.head h
    let s := s.recordCkpt h [recHead 0x0A 2 q.line q.recSpan 0 1, j.ckptNo - 1]
    let s := s.setJournal h { s.journal h with ckptRun := false, snap := [] }
    (s.setB (kHead h 0x10014) 31 false).wrN (kHead h 0x1001C) j.ckptSeq

/-- A checkpoint due at a line-0 boundary starts, unless one is running (R328). -/
def State.ckptDue (s : State) (h : Nat) : State :=
  let j := s.journal h
  let every := s.fld (kHead h 0x10010) 15 0
  let due := j.ckptReq || (every != 0 && (s.head h).fnum % every == 0)
  if due && !j.ckptRun then s.ckptStart h else s

end Sys2Proof.Machine
end

