-- ==== Sys2Proof/Machine/Beam.lean ====
section
/-!
DEFINITION. The beams (R162 to R170, R280 to R285, R303): the start of the beams, render line and span boundaries, and scan
line boundaries. The two beams of a head cross each line boundary in one clock; the model takes the render beam's command and
the scan beam's command one after the other, and whichever comes first brings the stops and the commit line of that clock.
-/
namespace Sys2Proof.Machine

/-- The beam-event producers of a beam fire at a boundary of span `sp` (R303). -/
def State.beamEvents (s : State) (h : Nat) (scan : Bool) (sp line : Nat) : State :=
  (List.range 2).foldl (fun t k =>
    let w := t.rd (kHead h (0x1070 + 4 * k))
    if nbit w.toNat 30 == scan && wfld w 29 24 == sp && wfld w 12 0 == line && decide (sp < (t.head h).nspan)
    then t.produce (t.plan.headBench h) (kHead h (0x1070 + 4 * k)) else t) s

/-- Both beams stop in this clock, and writes that waited at the ports land too (R281, R305). The sprites that met on the render line
that ends are reported during the next line (R233), which does not come: they are not reported (DESIGN CHOICE, log 100). -/
def State.beamsStopAll (s : State) (h : Nat) : State :=
  let q := s.head h
  let scanNext := match q.ahead.head? with
    | some e => e.1
    | none => q.scan
  let s := s.beamEvents h false 0 (if s.wraps h (q.line + 1) then 0 else q.line + 1)
  let s := s.beamEvents h true 0 scanNext
  (s.beamsStop h).portDrain h

/-- What f does is of the clock of a boundary of head h, whose two beams' commands come one after the other: events that reach one
channel in it are one event (R446). -/
def State.beamClock (s : State) (h : Nat) (f : State → State) : State :=
  let q := s.head h
  let (t, l) := s.oneClock (if q.ahead.length == q.rlead then [] else q.fired) f
  let p := t.head h
  t.setHead h { p with fired := if p.ahead.length == p.rlead then [] else l }

/-- A stop falls due at the line boundary under way (R281). -/
def Head.stopDue (q : Head) : Bool :=
  q.stopAsk == 2
    || ((q.stopAsk == 1 || q.stopAsk == 3) && (match q.ahead.head? with
        | some e => e.1 == 0
        | none => false))

/-- Both beams stand on the same pair of lines. -/
def Head.synced (q : Head) : Bool := q.ahead.length == q.rlead

/-- The swap boundary at line VACT_START: an enabled sprite plane in the group invalidates the surface (R226, R268). -/
def State.swapBoundary (s : State) (h : Nat) : State :=
  let inv := (List.range 2).any fun n => s.groupHolds h (5 + n) && s.bit (kSpr h n 0) 31
  let s := s.sprSwap h
  if inv then s.markInval h else s

/-- A write to FLAT_INVAL counts as landing at this line boundary (R268). -/
def State.flatInvalLand (s : State) (h : Nat) : State :=
  if s.bit (kHead h 0x20) 0 then (s.setB (kHead h 0x20) 0 false).markInval h else s

/-- What a render line boundary does once LINE has its value: landings, journal records, latching, the swap, the surface,
the sort pass, admission, pricing and the first span (R165, R174, R263, R267, R326), then the writes that waited for room in a set:
what they do follows the boundary (R176, R178, R262). `latch`: the scan beam reaches its line
in this clock and has not been seen yet. `jm`: what the journeyman did on the line that has ended (R311). -/
def State.lineActions (s : State) (h ended : Nat) (latch : Bool) (jm : Bool × Option Word) : State :=
  let c := s.core (32 + h)
  let s := if c.frozen && s.mode != .hold then s.setCore (32 + h) { c with frozen := false } else s
  let s := (s.lineChange h).landLine h
  let q := s.head h
  let s := if q.line = 0 then
      s.recRender h 0x06 (if s.bit (kSync h) 31 then 1 else 0) [q.frameLen % 2 ^ 14 * 2 ^ 32 + q.fnum % 2 ^ 32]
    else s
  let s := s.assayBoundary h ended jm
  let s := if q.line = 0 then s.ckptDue h else s
  let s := if latch && q.atCommit then s.commitLineStart h else s
  let top := q.line == q.vactStart
  let s := if top then s.swapBoundary h else s
  let s := ((s.flatInvalLand h).surfaceGone h).applyInval h true
  let s := if top then s.surfaceAtTop h else s
  let s := s.sortAtLine h
  let s := (s.prepareLine h).drawSpan h 0
  (s.beamEvents h false 0 q.line).portDrain h

/-- The byte budget of a head that starts (R417). -/
def State.setByteBudget (s : State) (h : Nat) : State :=
  let q := s.head h
  let bw := match s.plan.headBench h with
    | some b => (s.plan.bench b).headBw.getD h 0
    | none => 0
  s.wrN (kPe h 0x208) (32 * (bw * (q.htotal * q.dotDiv / 2 ^ 25) / 49152))

/-- SYNC_CTL as written comes into force (R304). -/
def State.syncApply (s : State) (h : Nat) : State :=
  let k := kHead h 0x1040
  let q := s.head h
  (s.setHead h { q with copy := q.copy.take 7 ++ [s.rd k] }).routeWrite k s

/-- The scan beam takes line 0 (R296, R301, R318). -/
def State.scanTop (s : State) (h : Nat) : State :=
  let q := s.head h
  let s := if q.safeNext then
      let s := s.recEngine h 5 q.engine 15
      s.setHead h { s.head h with engine := 15, safeNext := false, blank := false, blankNext := false }
    else s
  s.sendCheck h

/-- The beams start (R167, R268, R280): render line RLEAD, scan line 0. -/
def State.beamsStart (s : State) (h : Nat) : State :=
  let q := s.head h
  if q.run != 1 then s
  else
    let fnum := (q.fnum + 1) % 2 ^ 32
    let changed := q.lastCopy.take 6 != q.copy.take 6
    let s := s.setHead h { q with
      run := 2, scan := 0, scanFnum := fnum, line := q.rlead, span := 0, fnum := fnum
      ahead := (List.range q.rlead).map fun k => (k + 1, fnum)
      bufs := [], bm := [], exts := [], withheldSeen := false, lastCopy := q.copy, lineCrcs := [], sentWhole := false, missRun := 0, refAt := none
      invalHere := q.invalHere || changed }
    let s := ((s.syncApply h).setB (kSync h) 30 false).setByteBudget h
    let s := s.recStart h
    let s := s.jmHeadStarts
    s.beamClock h fun s => ((s.lineActions h q.line true (false, none)).scanTop h).beamEvents h true 0 0

/-- REF_HEAD's edge reaches head k (R283); an extra one is kept with the EXTRA that it found. -/
def State.refEdge (s : State) (k : Nat) : State :=
  let t := s.edge k
  t.setHead k { t.head k with refAt := some (t.tb, if s.bit (kSync k) 30 then some (s.fld (kSync k) 7 0) else none) }

/-- LINE of head h takes 0: an edge for every head whose acting reference it is (R283, R286). -/
def State.refEdges (s : State) (h : Nat) : State :=
  (List.range 8).foldl (fun t k => if t.syncSrc k == 3 && t.refHead k == some h && (t.head k).moving then t.refEdge k else t) s

/-- An edge that arrives in the clock of a render-beam line boundary of head h counts from the next one (R283). No command says
whether an edge of REF_HEAD that came in this tick of TB came in this very clock: that is free (log 61). Such an edge is taken out
of the latch for this boundary; the first component says that there is one, and what EXTRA it found where it was an extra one. -/
def State.refHold (s : State) (h : Nat) : Option (Option Nat) × State :=
  match (s.head h).refAt with
  | some (at_, extra) =>
    if at_ == s.tb then
      let (v, s) := s.fresh
      if v % 2 = 0 then (some extra, if extra.isSome then s else s.setB (kSync h) 30 false) else (none, s)
    else (none, s)
  | none => (none, s)

/-- The edge that was held back counts after the boundary: it latches, and where the wrap has cleared the latch that it found, it is
no extra one (R283). -/
def State.refBack (s : State) (h : Nat) (held : Option (Option Nat)) (wrap : Bool) : State :=
  match held with
  | none => s
  | some none => s.setB (kSync h) 30 true
  | some (some extra) => if wrap then (s.setB (kSync h) 30 true).setF (kSync h) 7 0 extra else s

/-- A render-beam line boundary (R165, R284). -/
def State.renderBoundary (s : State) (h : Nat) (jm : Bool × Option Word) : State :=
  let q := s.head h
  if !q.moving || q.rlead < q.ahead.length then s
  else s.beamClock h fun s =>
    if q.synced && q.stopDue then s.beamsStopAll h else
    let first := q.synced
    let (held, s) := ((s.collisionReport h).syncApply h).refHold h
    let q := s.head h
    let n := q.line + 1
    let wrap := s.wraps h n
    let s := if wrap then (s.syncWrap h n).refEdges h else s
    let s := s.refBack h held wrap
    let q := s.head h
    let line := if wrap then 0 else n
    let fnum := if wrap then (q.fnum + 1) % 2 ^ 32 else q.fnum
    let s := s.setHead h { q with
      line := line, span := 0, fnum := fnum, ahead := q.ahead ++ [(line, fnum)]
      frameLen := if wrap then n else q.frameLen, withheldSeen := q.withheldSeen && !wrap, refAt := none }
    s.lineActions h (n - 1) first jm

/-- The next span of the render beam (R163, R165): the span set lands, and the span is drawn; past the last span SPAN takes
NSPAN, which is no boundary. A head that stops at its next line draws no more, since it issues no further fetch (R92). -/
def State.spanBoundary (s : State) (h : Nat) : State :=
  let q := s.head h
  if !q.moving || q.nspan ≤ q.span then s
  else
    let s := s.setHead h { q with span := q.span + 1 }
    if q.span + 1 = q.nspan then s
    else s.beamClock h fun s =>
      let s := s.landSpan h
      let s := (s.surfaceGone h).applyInval h false
      let s := if q.stopAsk = 2 then s else s.drawSpan h (q.span + 1)
      let s := s.beamEvents h false (q.span + 1) q.line
      (s.beamEvents h true (q.span + 1) q.scan).portDrain h

/-- A scan-beam line boundary (R263, R281, R296, R297, R536). -/
def State.scanBoundary (s : State) (h : Nat) : State :=
  let q := s.head h
  if !q.moving || q.ahead.length < q.rlead then s
  else s.beamClock h fun s =>
    if q.synced && q.stopDue then s.beamsStopAll h else
    match q.ahead with
    | [] => s
    | (l, f) :: rest =>
      let ends := (s.syncApply h).wraps h (q.line + 1)
      let s := s.setHead h { q with scan := l, scanFnum := f, ahead := rest, blank := q.blank || q.blankNext, blankNext := false }
      let s := if s.sending h && s.linkSt h != 3 then s.stopSending h else s
      let s := if q.synced && { s.head h with
          fnum := if ends then (q.fnum + 1) % 2 ^ 32 else q.fnum, frameLen := if ends then q.line + 1 else q.frameLen
        }.commitLine f == some l then s.commitLineStart h else s
      let s := if l = 0 then s.scanTop h else s
      s.beamEvents h true 0 l

/-- A fetch of a head's engine or compositor returns n bytes from an address, having found an error or none: what it meets is counted
in the field [hi:lo] of a status register, and `spoil` makes the pixels it supplies transparent (R212 to R214, R231, R260). -/
def State.fetchReturn (s : State) (h stat hi lo a n : Nat) (blockedCounts : Bool) (found : Option (Addr × EccFound))
    (spoil : State → State) : State :=
  let s := s.upset found
  match s.plan.headBench h with
  | none => s
  | some b =>
    if !(s.head h).moving || n = 0 then s
    else if !s.rangeHeld b a n then
      let s := spoil (s.hole b)
      if blockedCounts then s.incSat stat hi lo else s
    else
      let s := s.mends a n
      if s.marked a n then (spoil (s.readUe a n)).incSat stat hi lo else s

/-- Head h's palette RAM is read with an error found in entry e (R198, R212): a corrected one is mended and recorded, an uncorrectable
one marks the entry until it is next written. The syndrome, the entry number, is the model's choice for the corrected one
(log 89). -/
def State.paletteFinds (s : State) (h e : Nat) (found : Option (Addr × EccFound)) : State :=
  let scope := scopeOf (s.plan.headBench h)
  let k := kPe h (0x10000 + 4 * e)
  match found with
  | none => s
  | some (_, .corrected) => if s.marked k 4 then s else s.report 0x09 (0x0400 + h) scope e
  | some (_, .uncorrectable) => if s.marked k 4 then s else (s.mark k).report 0x0A (0x0400 + h) scope e

/-- Head h's engine reads an entry of a sprite store with an error found in it (R225, R310, R316): an uncorrectable one makes the
entry act as a skipped descriptor, and fails the engine's internal check of its state. -/
def State.storeFinds (s : State) (h : Nat) (back : Bool) (idx : Nat) (found : Option (Addr × EccFound)) : State :=
  match found with
  | some (_, .uncorrectable) =>
    let q := s.head h
    let spoil (l : List Sprite) : List Sprite := l.map fun p => if p.idx == idx then { p with bad := true } else p
    if !(if back then q.back else q.front).any (fun p => p.idx == idx && !p.bad) then s
    else
      let s := s.setHead h (if back then { q with back := spoil q.back } else { q with front := spoil q.front })
      (s.incSat (kPe h 0x10) 15 8).internalCheck q.engine
  | _ => s

/-! ### The commands -/

/-- SPAN_BOUNDARY (R163). -/
def execSpanBoundary (h : HeadId) (s : State) : Host.Outcome State Fault Refusal := .next (s.spanBoundary h.val)

/-- SORT_DESCRIPTOR_READ (R223). -/
def execSortDescriptorRead (h : HeadId) (s : State) : Host.Outcome State Fault Refusal := .next (s.sortRead h.val)

/-- PE_FETCH_RETURN (R198, R212 to R214, R231, R310). -/
def execPeFetchReturn (h : HeadId) (what : PeFetch) (addr : Addr) (data : Fetched) (s : State)
    : Host.Outcome State Fault Refusal :=
  let bytes := data.bytes
  let found := data.found
  .next (match what with
    | .tile t => s.fetchReturn h.val (kTile h.val t.val 0x40) 23 16 addr.toNat bytes.val false found
        (State.peSpoil h.val addr.toNat bytes.val)
    | .sprite => s.fetchReturn h.val (kPe h.val 0x10) 15 8 addr.toNat bytes.val true found
        (State.peSpoil h.val addr.toNat bytes.val)
    | .palette e => s.paletteFinds h.val e.val found
    | .store back idx => s.storeFinds h.val back idx.val found)

/-- BITMAP_FETCH_RETURN (R260). -/
def execBitmapFetchReturn (h : HeadId) (p : Fin 4) (addr : Addr) (data : Fetched) (s : State)
    : Host.Outcome State Fault Refusal :=
  .next (s.fetchReturn h.val (kMb h.val p.val 0x38) 23 16 addr.toNat data.bytes.val false data.found
    fun t => t.bmSpoil h.val p.val addr.toNat data.bytes.val)

/-- SURFACE_READ_RETURN (R271). -/
def execSurfaceReadReturn (h : HeadId) (firstCol lastCol : Fin 4096) (uncorrectable : Bool) (s : State)
    : Host.Outcome State Fault Refusal :=
  .next (s.surfaceReturn h.val firstCol.val lastCol.val uncorrectable)

/-- BEAMS_START (R280). -/
def execBeamsStart (h : HeadId) (s : State) : Host.Outcome State Fault Refusal := .next (s.beamsStart h.val)

/-- SYNC_EDGE (R283). -/
def execSyncEdge (h : HeadId) (src : EdgeSource) (s : State) : Host.Outcome State Fault Refusal :=
  .next (s.syncEdge h.val src)

/-- SCAN_LINE_ACTIVE_END (R291, R292). -/
def execScanLineActiveEnd (at_ : ScanEnd) (s : State) : Host.Outcome State Fault Refusal :=
  .next (s.scanActiveEnd at_.head.val at_.captureFails)

/-- HPD_PLUG (R299). -/
def execHpdPlug (h : HeadId) (s : State) : Host.Outcome State Fault Refusal := .next (s.plug h.val)

/-- HPD_UNPLUG (R299). -/
def execHpdUnplug (h : HeadId) (s : State) : Host.Outcome State Fault Refusal := .next (s.unplug h.val)

/-- IRQ_HPD (R299). -/
def execIrqHpd (h : HeadId) (lockLost : Bool) (s : State) : Host.Outcome State Fault Refusal :=
  .next (s.irqHpd h.val lockLost)

/-- HPD_GLITCH (R299). -/
def execHpdGlitch (h : HeadId) (s : State) : Host.Outcome State Fault Refusal := .next (s.hpdGlitch h.val)

/-- LINK_TRAINING_DONE (R295). -/
def execLinkTrainingDone (h : HeadId) (result : TrainResult) (s : State) : Host.Outcome State Fault Refusal :=
  .next (s.trained h.val result)

/-- LINK_RETRY_TIMER (R295). -/
def execLinkRetryTimer (h : HeadId) (s : State) : Host.Outcome State Fault Refusal := .next (s.trainRetry h.val)

/-- LINK_LOST (R297). -/
def execLinkLost (h : HeadId) (s : State) : Host.Outcome State Fault Refusal := .next (s.linkLost h.val)

/-- AUX_REPLY (R299). -/
def execAuxReply (h : HeadId) (reply : AuxReply) (s : State) : Host.Outcome State Fault Refusal :=
  .next (s.auxReply h.val reply)

/-- MIRROR_COPY_DONE (R309). -/
def execMirrorCopyDone (h : HeadId) (s : State) : Host.Outcome State Fault Refusal := .next (s.mirrorDone h.val)

/-- A UNIT_STATE report of a unit that bench b holds, with the unit's status word as its syndrome (R502, R507); a unit that no bench holds
makes none. -/
def State.unitState (s : State) (b : Option Nat) (source syn : Nat) : State :=
  match b with
  | some b => s.report 0x14 source b syn
  | none => s

/-- The internal check of a unit fails: an engine's (R316), or an uncorrectable error in a unit's internal state (R502). The segment of a
bench's share of the ring-head cache is open, and so is its syndrome, since it has no status word (log 104). -/
def State.checkFails (s : State) (unit : CheckUnit) : State :=
  match unit with
  | .engine e => s.internalCheck e.val
  | .carter c => s.unitState (s.plan.carterBench c.val) (0x0600 + c.val) (s.rdN (kCar c.val 0x18))
  | .block e => s.unitState (s.blk e.val).owner (0x0700 + e.val) (s.rdN (kBlk e.val 0x40))
  | .cache b =>
    let (v, s) := s.fresh
    s.unitState (if (s.plan.bench b.val).present then some b.val else none) (0x1000 + Config.cacheSegment b.val % 256) v
  | .core (.scene c) => s.unitState (s.plan.coreBench c.val) (0x0100 + c.val) (s.coreStat c.val).toNat
  | .core (.line h) => s.unitState (s.plan.headBench h.val) (0x0200 + h.val) (s.coreStat (32 + h.val)).toNat
  | .core .clerk => s

/-- ENGINE_INTERNAL_CHECK_FAIL (R316). -/
def execEngineInternalCheckFail (unit : CheckUnit) (s : State) : Host.Outcome State Fault Refusal := .next (s.checkFails unit)

/-- JOURNAL_BLOCK_SEAL (R321). -/
def execJournalBlockSeal (h : HeadId) (s : State) : Host.Outcome State Fault Refusal := .next (s.sealBlock h.val)

/-- GAP_RECORD (R327). -/
def execGapRecord (h : HeadId) (s : State) : Host.Outcome State Fault Refusal := .next (s.gapRecord h.val)

/-- DRAIN_BLOCK (R331). -/
def execDrainBlock (h : HeadId) (s : State) : Host.Outcome State Fault Refusal := .next (s.drainBlock h.val)

end Sys2Proof.Machine
end

