-- ==== Sys2Proof/Machine/Cio.lean ====
section
/-!
DEFINITION. Cabinet I/O (R473 to R491): pin functions, filtered levels, hand-overs, serial units, quadrature units, button
matrices and meters.
-/
namespace Sys2Proof.Machine

/-- CIOp_CFG. -/
def kPin (p : Nat) : Nat := kCio (4 * p)
/-- The function field as written. -/
def State.pinFunc (s : State) (p : Nat) : Nat := s.fld (kPin p) 31 28

/-- A role may sit at position i (R474). -/
def roleAt (f i : Nat) : Bool :=
  match f with
  | 5 => decide (i < 4)
  | 6 => decide (i < 2)
  | 7 => decide (i < 4)
  | 8 => i == 4 || i == 5
  | 9 => true
  | 10 => decide (6 ≤ i)
  | _ => true

/-- The anchor pin of the unit that a function joins (R475). -/
def anchorOf (f p : Nat) : Nat :=
  match f with
  | 8 => p / 8 * 8 + 4
  | 10 => p
  | _ => p / 8 * 8

/-- The pin acts as FUNC 0x0 and sets its CIO_ERR bit (R475). -/
def State.pinErr (s : State) (p : Nat) : Bool :=
  let f := s.pinFunc p
  let unit := decide (5 ≤ f) && decide (f ≤ 10)
  f == 15 || !roleAt f (p % 8)
    || (unit && !(s.plan.cioBench (anchorOf f p) == s.plan.cioBench p))
    || (decide (5 ≤ f) && decide (f ≤ 7) && s.pinFunc (p / 8 * 8) != f)

/-- The function a pin acts as. -/
def State.pinRole (s : State) (p : Nat) : Nat := if s.pinErr p then 0 else s.pinFunc p

/-- The filtered level after INV: CIO_IN (R477, R479). -/
def State.pinIn (s : State) (p : Nat) : Bool := (s.pin p).level != s.bit (kPin p) 17

/-- The mode of serial unit g: the function on its group's i0 (R475). -/
def State.serMode (s : State) (g : Nat) : Nat := s.pinFunc (8 * g)

/-- The unit condition of a pin's role (R484 to R487). -/
def State.unitCond (s : State) (p : Nat) : Bool :=
  let g := p / 8
  match s.pinRole p with
  | 5 | 6 | 7 => if p % 8 = 0 then (s.ser g).tx.isEmpty else !(s.ser g).rx.isEmpty
  | 8 => (s.qd g).cond
  | 9 => (s.mx g).cond
  | 10 => (s.mtr (2 * g + p % 8 - 6)).left == 0
  | _ => false

/-- The level of a pin's interrupt source (R479). -/
def State.pinSource (s : State) (p : Nat) : Bool :=
  match s.fld (kPin p) 14 12 with
  | 1 => s.pinIn p
  | 2 => !s.pinIn p
  | 3 | 4 | 5 => s.bit (kCio (0x230 + 4 * (p / 32))) (p % 32)
  | 6 => s.unitCond p
  | _ => false

/-- The pins sleep: Doze or Standby (R488). -/
def State.asleep (s : State) : Bool := s.mode == .doze || s.mode == .standby || s.mode == .noPower

/-- A pin sleeps: with the others, and a lamp's whenever TB runs at low frequency, in Hold too (R482, R488). -/
def State.pinSleeps (s : State) (p : Nat) : Bool := s.asleep || (s.tbLf && s.pinRole p == 11)

/-- The pin's function goes on in the present mode: outside Doze and Standby always, in them only with SLEEP 0b00 for
GPIO, compare, capture and the event functions (R488, R452). -/
def State.pinWorks (s : State) (p : Nat) : Bool :=
  !s.asleep || (s.fld (kPin p) 16 15 == 0 && decide (s.pinRole p ≤ 4))

/-- The level that function f sees at pin p: the pin's while it is joined to it, else the level at which its last hand-over froze it (R478);
a function that the pin never had sees 0 there: DESIGN CHOICE (log 96). -/
def State.funcLevel (s : State) (f p : Nat) : Bool :=
  if s.pinRole p == f && s.pinWorks p then s.pinIn p else Sparse.get (fun _ => false) (s.pin p).frozen f

/-- CTS of serial unit g is high (R478, R484). -/
def State.ctsHigh (s : State) (g : Nat) : Bool := s.funcLevel 5 (8 * g + 3)

/-- The first TX byte of serial unit g may be shifted: the unit has a mode, and a UART's CTS is not high (R484). -/
def State.serMay (s : State) (g : Nat) : Bool :=
  s.pinWorks (8 * g) && !(s.ser g).tx.isEmpty && (s.serMode g == 6 || s.serMode g == 7 || (s.serMode g == 5 && !s.ctsHigh g))

/-- A byte is being shifted (R491): one that may be shifted is, and one begun before CTS went high is finished. -/
def State.serBusy (s : State) (g : Nat) : Bool := (s.ser g).begun || s.serMay g

/-- A byte that serial unit g has begun goes on before its CTS pin changes (R484). -/
def State.serKeep (s : State) (p : Nat) : State :=
  let g := p / 8
  if p % 8 == 3 && s.serMode g == 5 then s.setSer g { s.ser g with begun := s.serBusy g } else s

/-- The edge latch takes an edge when IRQ asks for it (R479). -/
def State.pinEdge (s : State) (p : Nat) (rise : Bool) : State :=
  let take := match s.fld (kPin p) 14 12 with
    | 3 => rise
    | 4 => !rise
    | 5 => true
    | _ => false
  if take then s.setB (kCio (0x230 + 4 * (p / 32))) (p % 32) true else s

/-- A pin level passes the filter: CIO_IN follows, the edge latch sets, and a capture or event-in function acts (R476,
R479, R481, R442). -/
def State.pinLevel (s : State) (p : Nat) (level : Bool) : State :=
  let q := s.pin p
  if q.level == level then s
  else
    let t := (s.serKeep p).setPin p { q with level := level }
    let rise := t.pinIn p
    let t := t.pinEdge p rise
    if !t.pinWorks p then t
    else
      match t.pinRole p with
      | 2 =>
        let n := t.fld (kPin p) 3 0
        if (t.plan.capBench n).isSome && t.plan.capBench n == t.plan.cioBench p then t.captureEdge n rise else t
      | 3 => if rise then t.produce (t.plan.cioBench p) (kPin p) else t
      | _ => t

/-! ### What a pin drives -/

/-- CS of an SPI unit, or an I²C bus, is held from a START byte to a STOP byte (R484). -/
def State.serOpen (s : State) (g : Nat) : Bool :=
  (s.ser g).opened || (s.serBusy g && nbit ((s.ser g).tx.headD 0).toNat 8)

/-- A signal whose course in time another unit gives: a line of serial unit g, with its levels as the byte under way shifts; BCLK, FSYNC or
data out of a TDM port that sends frames; and the square wave at a domain's frame rate, rising at each frame start
(R483, R484). -/
inductive Wave where
  | serial (g line : Nat) (course : List Bool)
  | tdm (port signal : Nat)
  | wordClock (d : Nat)
deriving DecidableEq, Repr

/-- What a pad does: released to PULL, driven to a level, held at a level by the keeper, or driven with a signal, which INV
may invert and OD drive low only (R477, R478). -/
inductive PinOut where
  | released
  | level (l : Bool)
  | kept (l : Bool)
  | wave (w : Wave) (inv od : Bool)
deriving DecidableEq, Repr

/-- The low eight bits of a DATA word, least significant first. -/
def bitsOf (w : Word) : List Bool := (List.range 8).map fun i => nbit w.toNat i

/-- A UART's frame under SERg_CFG: a start bit, eight data bits LSB first, PARITY, one or two stop bits, each for DIV + 1 FABRIC cycles
(R484, R491). -/
def uartFrame (cfg w : Word) : List Bool :=
  let odd := ((bitsOf w).filter id).length % 2 == 1
  let parity := match wfld cfg 11 10 with
    | 1 => [odd]
    | 2 => [!odd]
    | _ => []
  [false] ++ bitsOf w ++ parity ++ (if nbit cfg.toNat 9 then [true, true] else [true])

/-- The data bits of an SPI byte in their order (R484, R491). -/
def spiBits (cfg w : Word) : List Bool := if nbit cfg.toNat 6 then bitsOf w else (bitsOf w).reverse

/-- SCK while an SPI byte shifts, by half periods: with CPHA the first edge begins the byte, and the second samples (R484, R491). -/
def spiClock (cfg : Word) : List Bool :=
  let idle := nbit cfg.toNat 8
  (List.range 8).flatMap fun _ => if nbit cfg.toNat 7 then [!idle, idle] else [idle, !idle]

/-- What an I²C byte puts on SDA, a released line reading high: the byte, MSB first, and the slot of the device's acknowledge; for a READ
the released line, and the master's ACK or NACK (R484, R491). -/
def i2cBits (w : Word) : List Bool :=
  if nbit w.toNat 10 then List.replicate 8 true ++ [nbit w.toNat 11] else (bitsOf w).reverse ++ [true]

/-- The course of the data line of a byte that serial unit g sends in its mode (R484). -/
def State.serCourse (s : State) (g : Nat) (w : Word) : List Bool :=
  let cfg := s.rd (kCio (0x1000 + 0x10 * g))
  match s.serMode g with
  | 5 => uartFrame cfg w
  | 6 => i2cBits w
  | 7 => spiBits cfg w
  | _ => []

/-- A line of serial unit g on position i: its level at rest, and the byte's course while one is shifted (R484). -/
def State.serLine (s : State) (g f i : Nat) : PinOut :=
  let w := (s.ser g).tx.headD 0
  let clock := if f = 7 then spiClock (s.rd (kCio (0x1000 + 0x10 * g))) else (List.range 9).flatMap fun _ => [false, true]
  let busy : PinOut := .wave (.serial g i (if i = 0 && f != 5 then clock else s.serCourse g w)) false false
  match f, i with
  | 5, 0 => if s.serBusy g then busy else .level true
  | 5, 2 => .level (decide (12 < (s.ser g).rx.length))
  | 6, 0 | 6, 1 => if s.serOpen g || s.serBusy g then busy else .level true
  | 7, 0 => if s.serBusy g then busy else .level (s.bit (kCio (0x1000 + 0x10 * g)) 8)
  | 7, 1 => busy
  | 7, 3 => .level (!s.serOpen g)
  | _, _ => .released

/-- What the pin's function drives, before INV and OD: GPIO under CIO_OE; the pin latch; a serial line; the matrix row being
driven; a meter pulse; lamp PWM; a copy of a held TDM port's signal, low where the port is not the pin's bench's or is
stopped; the word clock of a domain; the frame pulse of a held head; an input function drives nothing (R479 to R487). -/
def State.pinGives (s : State) (p : Nat) : PinOut :=
  let owner := s.plan.cioBench p
  match s.pinRole p with
  | 0 =>
    if s.bit (kCio (0x220 + 4 * (p / 32))) (p % 32) then .level (s.bit (kCio (0x210 + 4 * (p / 32))) (p % 32)) else .released
  | 1 | 4 => .level (s.pin p).latch
  | 5 => s.serLine (p / 8) 5 (p % 8)
  | 6 => s.serLine (p / 8) 6 (p % 8)
  | 7 => s.serLine (p / 8) 7 (p % 8)
  | 9 => if p % 8 < 4 then .level ((s.mx (p / 8)).row != p % 8) else .released
  | 10 => .level ((s.mtr (2 * (p / 8) + p % 8 - 6)).phase == 1)
  | 11 => .level (decide (s.tb.toNat % 65536 < s.fld (kPin p) 7 0 * 256))
  | 12 =>
    let port := s.fld (kPin p) 3 2
    if s.fld (kPin p) 1 0 = 3 || owner.isNone || s.plan.tdmBench port != owner || !(s.tdmPort port).running then .level false
    else .wave (.tdm port (s.fld (kPin p) 1 0)) false false
  | 13 => .wave (.wordClock (s.fld (kPin p) 0 0)) false false
  | 14 =>
    let h := s.fld (kPin p) 2 0
    .level (owner.isSome && s.plan.headBench h == owner && s.framePulse h)
  | _ => .released

/-- A level through a pad: INV inverts, OD drives low only (R477). -/
def padLevel (inv od l : Bool) : PinOut := if od && l != inv then .released else .level (l != inv)

/-- The pad of pin p: OD is always on for the I²C roles and matrix rows (R477). A meter pulse that had begun before a reset of the pin goes
on through the pad as it was (R487, R489). -/
def State.pinPad (s : State) (p : Nat) : PinOut :=
  let m := s.mtr (2 * (p / 8) + p % 8 - 6)
  let inv := s.bit (kPin p) 17
  let od := s.bit (kPin p) 18 || s.pinRole p == 6 || s.pinRole p == 9
  match (if 6 ≤ p % 8 then m.through else none) with
  | some (i, o) => padLevel i o (m.phase == 1)
  | none => match s.pinGives p with
    | .level l => padLevel inv od l
    | .wave w _ _ => .wave w inv od
    | x => x

/-- What pin p drives: its function through the pad, and while it sleeps its sleep state (R477 to R488). -/
def State.pinDrive (s : State) (p : Nat) : PinOut :=
  if !s.pinSleeps p then s.pinPad p
  else match s.fld (kPin p) 16 15 with
    | 0 => if s.pinRole p ≤ 4 then s.pinPad p else .kept (s.pin p).kept
    | 1 => .level false
    | 2 => .level true
    | _ => .released

/-! ### Hand-overs -/

/-- The level the keeper takes over: the driven one, the pin's own where nothing drives it, and a free one of a signal whose
course only time gives (R478, R488). -/
def State.lastLevel (s : State) (p : Nat) : Bool × State :=
  match s.pinDrive p with
  | .level l | .kept l => (l, s)
  | .released => ((s.pin p).level, s)
  | .wave _ _ _ =>
    let (v, t) := s.fresh
    (v % 2 == 1, t)

/-- The filter of pin p is preset to the pin's present level (R476, R478): the level that passed last where there is no filter; else no
command gives the unfiltered level, and it is free (log 96). -/
def State.filterPreset (s : State) (p : Nat) : State :=
  if s.fld (kPin p) 25 24 = 0 then s
  else
    let (v, t) := s.fresh
    t.setPin p { t.pin p with level := v % 2 == 1 }

/-- A hand-over of pin p (R478, R480, R481): the latch of the new function is 0, the old function keeps its last filtered
level, the keeper holds the last level, and the new function's filter is preset. -/
def State.handOver (s : State) (p : Nat) : State :=
  let (l, s) := s.lastLevel p
  let q := s.pin p
  let frozen := if s.pinWorks p then Sparse.set (fun _ => false) q.frozen (s.pinRole p) (s.pinIn p) else q.frozen
  (s.setPin p { q with latch := false, frozen := frozen, kept := l }).filterPreset p

/-- A function is joined to pin p: a quadrature unit takes the pin's level without an edge (R478). -/
def State.joinPin (s : State) (p : Nat) : State :=
  let q := s.qd (p / 8)
  if s.pinRole p != 8 then s
  else if p % 8 = 4 then s.setQd (p / 8) { q with a := s.pinIn p } else s.setQd (p / 8) { q with b := s.pinIn p }

/-- A write of CIOp_CFG: a change of FUNC or SEL runs a hand-over, one of FILT or DEB presets the filter, and the pad settings act at once
(R476 to R478). The byte that a serial unit is shifting when its mode changes stays first in TX, to be shifted again: DESIGN CHOICE (log
96). -/
def State.pinCfg (s : State) (p : Nat) (v : Word) (be : Nat) : State :=
  let old := s.rd (kPin p)
  let t := s.store (kPin p) v be
  let new := t.rd (kPin p)
  if wfld old 31 28 == wfld new 31 28 && wfld old 11 0 == wfld new 11 0 then
    let t := s.serKeep p
    if wfld old 25 21 == wfld new 25 21 then t.store (kPin p) v be else ((t.filterPreset p).store (kPin p) v be).joinPin p
  else
    let t := (((s.serKeep p).handOver p).store (kPin p) v be).joinPin p
    if p % 8 == 0 && wfld old 31 28 != wfld new 31 28 then t.setSer (p / 8) { t.ser (p / 8) with begun := false } else t

/-- The bits of one word of a pin array that bench b holds (R473). -/
def State.pinMask (s : State) (b w : Nat) : Nat :=
  if (s.plan.bench b).present then nfld (s.plan.bench b).cio (32 * w + 31) (32 * w) else 0

/-- A word of pin bits from a test. -/
def pinBits (w : Nat) (p : Nat → Bool) : Nat :=
  (List.range 32).foldl (fun n i => if p (32 * w + i) then n + 2 ^ i else n) 0

/-! ### Serial units -/

/-- Room in the RX FIFO, or OVR (R484, R490). -/
def State.serRx (s : State) (g : Nat) (b : Byte) (err : Bool) : State :=
  let q := s.ser g
  if 16 ≤ q.rx.length then s.setB (kCio (0x1008 + 0x10 * g)) 30 true
  else s.setSer g { q with rx := q.rx ++ [(b, err)] }

/-- A write of SERg_DATA queues one byte with its bits, or is dropped with OVR (R491). -/
def State.serWrite (s : State) (g : Nat) (v : Word) : State :=
  let q := s.ser g
  if 16 ≤ q.tx.length then s.setB (kCio (0x1008 + 0x10 * g)) 30 true
  else s.setSer g { q with tx := q.tx ++ [v &&& 0xFFF] }

/-- A read of SERg_DATA pops one RX byte (R491). -/
def State.serRead (s : State) (g : Nat) : Nat × State :=
  let q := s.ser g
  match q.rx with
  | [] => (0, s)
  | (b, e) :: rest => (2 ^ 31 + (if e then 2 ^ 10 else 0) + b.toNat, s.setSer g { q with rx := rest })

/-- SERg_STAT as it reads: BUSY, RXCOUNT and TXFREE are live (R491). The byte being shifted keeps its place in TX until it is
sent: DESIGN CHOICE (log 96). -/
def State.serStat (s : State) (g : Nat) : Word :=
  let q := s.ser g
  setFld (setFld (setBit (s.rd (kCio (0x1008 + 0x10 * g))) 31 (s.serBusy g)) 12 8 q.rx.length) 4 0 (16 - q.tx.length)

/-- The first TX byte w has been sent: START opens a transfer, STOP ends it (R484). -/
def Ser.sentByte (q : Ser) (w : Word) (rest : List Word) : Ser :=
  { q with tx := rest, begun := false, opened := !nbit w.toNat 9 && (q.opened || nbit w.toNat 8) }

/-- A byte finishes shifting (R484, R490). The result is of the unit's mode; any other leaves the unit as it is, and so does the
end of a byte that CTS holds back. A UART receives while RX is joined to its pin; an SPI unit whose MISO is not joined reads the level at
which it is frozen (R478). -/
def State.serDone (s : State) (g : Nat) (rx : SerResult) : State :=
  let q := s.ser g
  match rx, (if s.pinWorks (8 * g) then s.serMode g else 0) with
  | .received b err, 5 => if s.pinRole (8 * g + 1) == 5 && s.pinWorks (8 * g + 1) then s.serRx g b err else s
  | .sent, 5 =>
    match q.tx with
    | [] => s
    | w :: rest => if s.serBusy g then (s.setSer g (q.sentByte w rest)).emit (.serial g w (s.serCourse g w)) else s
  | .exchanged b, 7 =>
    match q.tx with
    | [] => s
    | w :: rest =>
      let b := if s.pinRole (8 * g + 2) == 7 && s.pinWorks (8 * g + 2) then b else if s.funcLevel 7 (8 * g + 2) then 0xFF else 0
      ((s.setSer g (q.sentByte w rest)).emit (.serial g w (s.serCourse g w))).serRx g b false
  | .i2c acked b, 6 =>
    match q.tx with
    | [] => s
    | w :: rest =>
      let t := (s.setSer g (q.sentByte w rest)).emit (.serial g w (s.serCourse g w))
      if nbit w.toNat 10 then t.serRx g b false
      else if acked then t else t.setB (kCio (0x1008 + 0x10 * g)) 29 true
  | _, _ => s

/-- SCL held low for 25 ms: the transfer under way ends, the unit sends 9 clocks and a STOP, and BUSTO sets (R490). The byte
under way leaves TX; the bytes behind it stay: DESIGN CHOICE (log 96). -/
def State.serTimeout (s : State) (g : Nat) : State :=
  let q := s.ser g
  if s.serMode g != 6 || !s.pinWorks (8 * g) || (q.tx.isEmpty && !q.opened) then s
  else ((s.setSer g { q with tx := q.tx.tail, begun := false, opened := false }).setB (kCio (0x1008 + 0x10 * g)) 28 true).emit
    (.i2cRecovery g)

/-! ### Quadrature, matrix and meter units -/

/-- The count change of a quadrature sample: 1 when A leads B, −1 when B leads A, 0 when nothing or both change (R485). -/
def quadStep (a0 b0 a1 b1 : Bool) : Int :=
  if a0 != a1 && b0 != b1 then 0
  else if a0 != a1 then (if a1 == b1 then -1 else 1)
  else if b0 != b1 then (if a1 == b1 then 1 else -1)
  else 0

/-- A sample of the inputs of QDg, the filtered levels of its pins (R478, R485). -/
def State.qdSample (s : State) (g : Nat) : State :=
  let q := s.qd g
  let a := s.funcLevel 8 (8 * g + 4)
  let b := s.funcLevel 8 (8 * g + 5)
  let d := quadStep q.a q.b a b
  if s.pinRole (8 * g + 4) != 8 || !s.pinWorks (8 * g + 4) then s else
  let s := s.setQd g { q with a := a, b := b, cond := q.cond || d != 0 }
  if d = 0 then s
  else s.wrN (kCio (0x2000 + 4 * g)) (narrow 32 (Int.ofNat (s.rdN (kCio (0x2000 + 4 * g))) + d))

/-- The end of a matrix row's dwell: the row's four keys follow its columns, the filtered levels of i4 to i7, which are active low, and the
next row is driven (R478, R486). -/
def State.mxDwell (s : State) (g : Nat) : State :=
  if s.pinRole (8 * g) != 9 || !s.pinWorks (8 * g) then s
  else
    let q := s.mx g
    let keys := maskOf ((List.range 4).filter fun c => !s.funcLevel 9 (8 * g + 4 + c))
    let old := s.fld (kCio (0x2100 + 4 * g)) (4 * q.row + 3) (4 * q.row)
    let s := s.setF (kCio (0x2100 + 4 * g)) (4 * q.row + 3) (4 * q.row) keys
    s.setMx g { q with cond := q.cond || keys != old, row := (q.row + 1) % 4 }

/-- A write of MTRm_CTL: ON and OFF, and pulses added to the count, which stops at 65,535; a meter at rest begins (R487).
Bytes that the write does not enable add nothing. -/
def State.mtrAdd (s : State) (m : Nat) (v : Word) (be : Nat) : State :=
  let s := s.store (kCio (0x2200 + 4 * m)) v be
  let q := s.mtr m
  let left := min 65535 (q.left + wfld (storeWord 0 v be 0xFFFF 0) 15 0)
  s.setMtr m { q with left := left, phase := if q.phase = 0 && left != 0 then 1 else q.phase }

/-- A meter's ON or OFF time expires (R487): high then low, and a pulse counts as sent when its OFF time ends. -/
def State.mtrTimer (s : State) (m : Nat) : State :=
  let q := s.mtr m
  match q.phase with
  | 1 => s.setMtr m { q with phase := 2 }
  | 2 =>
    let left := q.left - 1
    s.setMtr m { left := left, phase := if left = 0 then 0 else 1, through := none }
  | _ => s

/-! ### Lamps and the time base (R482) -/

/-- TB_STEP, with the hand-overs of the lamps' pins to or from their sleep state as TB changes its mode outside Doze and Standby
(R432, R433, R482). -/
def State.tbEdge (s : State) : State :=
  let t := s.tbStep
  if s.asleep || t.tbLf == s.tbLf then t
  else
    let u := ((List.range 96).filter fun p => s.pinRole p == 11).foldl State.handOver { t with tbLf := s.tbLf }
    { u with tbLf := t.tbLf }

end Sys2Proof.Machine
end

