-- ==== Sys2Proof/Machine/IntCtl.lean ====
section
/-!
DEFINITION. The interrupt controller and MSI-X (R63, R456 to R470): source levels and owners, offers, claims, completions,
and messages to the hosts.
-/
namespace Sys2Proof.Machine

/-! ### Sources -/

/-- The bench a source belongs to (R32, R457). -/
def State.srcBench (s : State) (n : Nat) : Option Nat :=
  let here (b : Nat) : Option Nat := if (s.plan.bench b).present then some b else none
  if n < 32 then s.plan.coreBench n
  else if n < 64 then s.plan.coreBench (n - 32)
  else if n < 72 then s.plan.headBench (n - 64)
  else if n < 80 then s.plan.headBench (n - 72)
  else if n < 88 then s.plan.headBench (n - 80)
  else if n < 96 then s.plan.headBench (n - 88)
  else if n < 160 then s.plan.carterBench (n - 96)
  else if n < 224 then s.plan.cmpBench (n - 160)
  else if n < 240 then s.plan.capBench (n - 224)
  else if n < 248 then here ((n - 240) % 4)
  else if n < 250 then (s.blk (n - 248)).owner
  else if n < 256 then none
  else if n < 512 then here ((n - 256) / 64)
  else if n < 528 then here ((n - 512) % 4)
  else if n < 624 then s.plan.cioBench (n - 528)
  else if n < 628 then here (n - 624)
  else none

/-- A module-written ring drives its level (R87). -/
def State.ringLevel (s : State) (g : Nat) : Bool := s.ringOut g && s.bit (kRing g 8) 2 && s.ringWaiting g != 0

/-- The raw level of a source (R457); a source of a unit that no bench holds is low. -/
def State.srcLevel (s : State) (n : Nat) : Bool :=
  (s.srcBench n).isSome && (
    if n < 32 then s.bit (kWin n 0x170) 31
    else if n < 72 then
      let c := n - 32
      s.bit (kCore c 4) 0 && s.fld (kCore c 4) 15 8 != 0
    else if n < 80 then (s.rdN (kHead (n - 72) 0x1008) &&& s.rdN (kHead (n - 72) 0x100C)) != 0
    else if n < 88 then s.bit (kHead (n - 80) 0x14) 8
    else if n < 96 then s.drainIdx (n - 88) 0x10034 != s.drainIdx (n - 88) 0x10038
    else if n < 160 then (s.fld (kCar (n - 96) 0x18) 28 26 &&& s.fld (kCar (n - 96) 8) 2 0) != 0
    else if n < 224 then s.bit (kCmp (n - 160) 0x10) 31 && s.bit (kCmp (n - 160) 8) 27
    else if n < 240 then !(s.cap (n - 224)).isEmpty && s.bit (kCap (n - 224) 0) 27
    else if n < 248 then nbit (s.blk ((n - 240) / 4)).granted ((n - 240) % 4)
    else if n < 250 then
      (s.bit (kBlk (n - 248) 0x40) 30 || s.bit (kBlk (n - 248) 0x40) 29) && s.bit (kBlk (n - 248) 8) 20
    else if n < 512 then
      let b := (n - 256) / 64
      let j := (n - 256) % 64
      (List.range 64).any fun k => match s.ringOf b (64 * k + j) with
        | some g => s.ringLevel g
        | none => false
    else if n < 516 then s.bit (kBench (n - 512) 0x14) 30
    else if n < 520 then s.bit (kStop (n - 516) 0x20) 25
    else if n < 524 then (List.range (s.plan.bench (n - 520)).rings).any fun d =>
      s.ringErr (s.plan.ringFirst (n - 520) + d)
    else if n < 528 then
      s.bit (bankKey (n - 523) (kDomain 0)) 26 || s.bit (bankKey (n - 523) (kDomain 1)) 26
    else if n < 624 then s.pinSource (n - 528)
    else if n < 628 then (s.rdN (kChm (n - 624) 4) &&& s.rdN (kChm (n - 624) 8)) != 0
    else false)

/-- IC_EN of a source. -/
def State.srcEn (s : State) (n : Nat) : Bool := s.bit (kIc (0x2000 + 4 * (n / 32))) (n % 32)

/-- The route set of a source names a target (R458). -/
def State.routed (s : State) (n t : Nat) : Bool :=
  if t < 32 then s.bit (kIc (8 * n)) t
  else s.bit (kIc (8 * n + 4)) (t - 32)

/-- Another source is offered to a core's slot. -/
def State.slotTaken (s : State) (n t : Nat) : Bool :=
  s.srcs.any fun e => e.1 != n && e.2.st == .offered t

/-- A target is eligible for a source (R459). The benches of a link stay in reset until it is up (R68). -/
def State.eligible (s : State) (n t : Nat) : Bool :=
  s.routed n t &&
    (if t < 32 then
      (s.srcBench n).isSome && s.plan.coreBench t == s.srcBench n && !s.halted t && !s.slotTaken n t
        && (s.mode == .run || s.mode == .opening || s.mode == .limp || s.mode == .closing)
    else if t = 32 then !s.slotTaken n t
    else (s.plan.bench (t - 33)).present && (s.link (s.plan.bench (t - 33)).link).up && !(s.fn (t - 33)).d3 && !(s.fn (t - 33)).resetting)

/-- The target an offer goes to: the first eligible one at or after the source's pointer, wrapping from 36 to 0 (R461). -/
def State.offerTarget (s : State) (n : Nat) : Option Nat :=
  ((List.range 37).map fun k => ((s.src n).ptr + k) % 37).find? fun t => s.eligible n t

/-! ### MSI-X (R63) -/

/-- A vector may be sent now: MSI-X enabled, no mask, Bus Master Enable set. -/
def State.msixOpen (s : State) (b v : Nat) : Bool :=
  (s.fn b).msixOn && !(s.fn b).fnMask && (s.fn b).busMaster && !s.bit (kBench b (0x800C + 16 * v)) 0

/-- The PBA bit of a vector. -/
def State.setPba (s : State) (b v : Nat) (x : Bool) : State := s.setB (kBench b (0x9000 + 4 * (v / 32))) (v % 32) x

/-- The message of a vector leaves. -/
def State.msixEmit (s : State) (b v : Nat) : State :=
  s.emit (.msix b v (s.rd64 (kBench b (0x8000 + 16 * v))) (s.rdN (kBench b (0x8008 + 16 * v))))

/-- A message for a vector is sent, or stays pending in the PBA. -/
def State.msixSend (s : State) (b v : Nat) : State :=
  if s.msixOpen b v then s.msixEmit b v else s.setPba b v true

/-- Messages left pending whose vector may now be sent leave, lowest vector first. -/
def State.msixFlush (s : State) (b : Nat) : State :=
  (List.range 256).foldl (fun t v =>
    if t.bit (kBench b (0x9000 + 4 * (v / 32))) (v % 32) && t.msixOpen b v
    then (t.setPba b v false).msixEmit b v else t) s

/-! ### The state machine (R460) -/

/-- A hold-off is running. -/
def Source.holding (q : Source) : Bool := q.holdoff.isSome

/-- A source's level is looked at: Idle goes Pending, Pending and Offered go Idle (R460). -/
def State.srcEval (s : State) (n : Nat) : State :=
  let q := s.src n
  let high := s.srcLevel n
  match q.st with
  | .idle => if high && !q.holding then s.setSrc n { q with st := .pending } else s
  | .pending => if high then s else s.setSrc n { q with st := .idle }
  | .offered _ => if high then s else s.setSrc n { q with st := .idle }
  | .active => s

/-- Offers whose source is no longer enabled, or whose target has left the route set or is no longer eligible, are
withdrawn (R460, R463). -/
def State.icWithdraw (s : State) : State :=
  s.srcs.foldl (fun t e =>
    match e.2.st with
    | .offered x => if t.srcEn e.1 && t.eligible e.1 x then t else t.setSrc e.1 { t.src e.1 with st := .pending }
    | _ => t) s

/-- A lower-numbered source competes for the same core slot (R461). -/
def State.outbid (s : State) (n t : Nat) : Bool :=
  decide (t < 33) && s.srcs.any fun e =>
    decide (e.1 < n) && e.2.st == .pending && s.srcEn e.1 && s.offerTarget e.1 == some t

/-- A Pending, enabled source is offered; an MSI-X target claims at once and its message is sent (R461, R462). -/
def State.icOffer (s : State) (n : Nat) : State :=
  let s := s.icWithdraw
  let q := s.src n
  if !(q.st == .pending && s.srcEn n) then s
  else match s.offerTarget n with
    | none => s
    | some t =>
      if s.outbid n t then s
      else if t < 33 then s.setSrc n { q with st := .offered t, ptr := (t + 1) % 37 }
      else (s.setSrc n { q with st := .active, ptr := (t + 1) % 37 }).msixSend (t - 33)
        (s.fld (kIc (8 * n + 4)) 23 16)

/-- The source offered to a core, if any (R113, R136). Target 32 is the Clerk. -/
def State.offerFor (s : State) (t : Nat) : Option Nat :=
  (s.srcs.find? fun e => e.2.st == .offered t).map (·.1)

/-- The interrupt target number of a core; line cores have none (R458). -/
def targetOf : CoreId → Option Nat
  | .scene c => some c.val
  | .clerk => some 32
  | .line _ => none

/-- A read of IC_CLAIM (R462, R463): the offer to the reading core becomes Active; any other requester reads 0. -/
def State.icClaim (s : State) (r : Requester) : Nat × State :=
  match r with
  | .core c =>
    match targetOf c with
    | none => (0, s)
    | some t =>
      let s := s.icWithdraw
      match s.offerFor t with
      | none => (0, s)
      | some n => (2 ^ 31 + n, s.setSrc n { s.src n with st := .active })
  | _ => (0, s)

/-- A completion of source n by a requester of bench b, or by the Clerk (R464, R465). An ignored one counts for the writer's bench,
one that finds the level low for the source's: DEDUCED, since IC_STAT answers for the bench that reads it (R470); an ignored one
of the Clerk, which has no IC_STAT, counts nowhere. -/
def State.icComplete (s : State) (b : Option Nat) (n : Nat) : State :=
  let mine := b.isNone || s.srcBench n == b
  let q := s.src n
  let stat (t : State) (o : Option Nat) (hi lo : Nat) : State := match o with
    | some b => t.incSat (bankKey (b + 1) (kIc 0x2308)) hi lo
    | none => t
  if !mine || q.st != .active then stat s b 15 0
  else if s.srcLevel n then
    s.setSrc n { q with st := .idle, holdoff := some (s.tb.toNat + s.fld (kIc (0x2200 + 4 * (n / 16))) 15 0) }
  else
    stat (s.setSrc n { q with st := .idle }) (s.srcBench n) 31 16

/-- A hold-off that has run out ends: the source goes Pending if its level is high (R460, R465). -/
def State.holdoffEnd (s : State) (n : Nat) : State :=
  let q := s.src n
  match q.holdoff with
  | none => s
  | some t => if s.tb.toNat < t then s else (s.setSrc n { q with holdoff := none }).srcEval n

/-- Bit i of a word written to IC_PEND, for a held source (R466). -/
def State.pendBit (s : State) (n : Nat) (one : Bool) : State :=
  let q := s.src n
  match q.st with
  | .pending => if one then s else s.setSrc n { q with st := .idle }
  | .offered _ => if one then s else s.setSrc n { q with st := .idle }
  | .idle => if one && q.holding && s.srcLevel n then s.setSrc n { q with st := .pending, holdoff := none } else s
  | .active => s

/-- A source whose bits a requester sees: its bench's, or any for the Clerk (R466). -/
def State.srcSeen (s : State) (b : Option Nat) (n : Nat) : Bool := b.isNone || s.srcBench n == b

/-- A write of a word to IC_PEND acts on every held bit at once (R466). -/
def State.pendWrite (s : State) (b : Option Nat) (w : Nat) (v : Word) : State :=
  (List.range 32).foldl (fun t i =>
    if s.srcSeen b (32 * w + i) then t.pendBit (32 * w + i) (nbit v.toNat i) else t) s

/-- A word of source bits from a test, masked to the sources a requester sees. -/
def State.srcBits (s : State) (b : Option Nat) (w : Nat) (p : Nat → Bool) : Nat :=
  (List.range 32).foldl (fun n i => if s.srcSeen b (32 * w + i) && p (32 * w + i) then n + 2 ^ i else n) 0

/-- The word mask of the sources a requester sees. -/
def State.srcMask (s : State) (b : Option Nat) (w : Nat) : Nat := s.srcBits b w fun _ => true

/-- A write of IC_ENw changes the held sources' bits, and offers of disabled sources are withdrawn (R466, R463). -/
def State.icEnWrite (s : State) (b : Option Nat) (w : Nat) (v : Word) (be : Nat) : State :=
  let k := kIc (0x2000 + 4 * w)
  (s.wr k (storeWord (s.rd k) v be (s.srcMask b w) 0)).icWithdraw

/-- A write of a half of IC_ROUTEn (R458, R470): a bench writes VECTOR, its held cores and its own MSI-X bit of a source it
holds; the Clerk writes everything. -/
def State.icRouteWrite (s : State) (b : Option Nat) (n : Nat) (high : Bool) (v : Word) (be : Nat) : State :=
  let k := kIc (8 * n + (if high then 4 else 0))
  match b with
  | none => (s.store k v be).icWithdraw
  | some b' =>
    if s.srcBench n != b then s
    else
      let mask := if high then 0x00FF0000 + 2 ^ (b' + 1)
        else if (s.plan.bench b').present then (s.plan.bench b').sceneCores else 0
      (s.wr k (storeWord (s.rd k) v be mask 0)).icWithdraw

/-- A bench may write GRPg_HOLDOFF: no source of the group belongs to another present bench (R465). -/
def State.groupMine (s : State) (b : Option Nat) (g : Nat) : Bool :=
  b.isNone || (List.range 16).all fun i =>
    match s.srcBench (16 * g + i) with
    | none => true
    | some o => some o == b

/-- A watch slot that a requester may write, naming a source it holds (R468, R470). -/
def State.watchWrite (s : State) (b : Option Nat) (k : Nat) (v : Word) (be : Nat) : State :=
  let key := kIc (0x2400 + 4 * k)
  let ok := match b with
    | none => true
    | some b' => k / 16 == b' && s.srcBench (wfld (storeWord (s.rd key) v be 0x3FF 0) 9 0) == b
  if ok then s.store key v be else s

/-- IC_ROUTEn's high half as a requester reads it: CLERK reads 0 to benches, and a source not held reads 0 (R466, R470). -/
def State.icRouteRead (s : State) (b : Option Nat) (n : Nat) (high : Bool) : Nat :=
  let v := s.rdN (kIc (8 * n + (if high then 4 else 0)))
  match b with
  | none => v
  | some _ => if s.srcBench n != b then 0 else if high then v - v % 2 else v

end Sys2Proof.Machine
end

