-- ==== Sys2Proof/Machine/Block.lean ====
section
/-!
DEFINITION. The block engines (R372 to R389): lending, FILL, COPY and STRETCH piece by piece, and how an operation ends.
-/
namespace Sys2Proof.Machine

/-- BLKe_STAT. -/
def kBs (e : Nat) : Nat := kBlk e 0x40

/-- An operation runs. -/
def State.blkBusy (s : State) (e : Nat) : Bool := s.bit (kBs e) 31

/-! ### Lending (R373, R374) -/

/-- The engine is freed: a STOP latch on it is cleared, and the next waiting bench takes it (R373). -/
def State.blkFree (s : State) (e : Nat) : State :=
  let q := s.blk e
  let s := s.setB (kBs e) 28 false
  let from_ := match q.owner with
    | some b => b
    | none => 3
  match ([1, 2, 3, 4].map fun k => (from_ + k) % 4).find? fun b => nbit q.want b with
  | some b => s.setBlk e { q with owner := some b, want := q.want - 2 ^ b, granted := q.granted ||| 2 ^ b, giving := false }
  | none => s.setBlk e { q with owner := none, giving := false }

/-- BLKe_LEND.TAKE by bench b (R373). -/
def State.blkTake (s : State) (b e : Nat) : State :=
  let q := s.blk e
  match q.owner with
  | none => s.setBlk e { q with owner := some b }
  | some o => if o = b then s else s.setBlk e { q with want := q.want ||| 2 ^ b }

/-- BLKe_LEND.GIVE by bench b (R373). -/
def State.blkGive (s : State) (b e : Nat) : State :=
  let q := s.blk e
  if q.owner = some b then (if s.blkBusy e then s.setBlk e { q with giving := true } else s.blkFree e)
  else if nbit q.want b then s.setBlk e { q with want := q.want - 2 ^ b }
  else s

/-- A write of BLKe_LEND by bench b (R387). -/
def State.blkLend (s : State) (b e : Nat) (v : Word) (be : Nat) : State :=
  if !nbit be 3 then s
  else
    let q := s.blk e
    let s := if nbit v.toNat 26 && nbit q.granted b then s.setBlk e { q with granted := q.granted - 2 ^ b } else s
    let s := if nbit v.toNat 31 then s.blkTake b e else s
    if nbit v.toNat 30 then s.blkGive b e else s

/-- BLKe_LEND as bench b reads it (R373, R387). -/
def State.blkLendReg (s : State) (b : Option Nat) (e : Nat) : Word :=
  let q := s.blk e
  let has (m : Nat) : Bool := match b with
    | some b => nbit m b
    | none => false
  let w : Word := setBit (setBit (setBit (setBit 0 29 (has q.want)) 28 (b.isSome && q.owner == b)) 27 q.owner.isNone) 26
    (has q.granted)
  match q.owner with
  | some o => setFld w 1 0 o
  | none => w

/-! ### The operation under way -/

/-- An operation's fields as its registers give them (R376 to R379). -/
structure BlkOp where
  op    : Nat
  fmt   : Nat
  auto  : Bool
  xneg  : Bool
  yneg  : Bool
  bilin : Bool
  src   : Nat
  dst   : Nat
  sp    : Nat
  dp    : Nat
  sw    : Nat
  sh    : Nat
  dw    : Nat
  dh    : Nat
  fill  : Nat

/-- The operation of engine e. -/
def State.blkOp (s : State) (e : Nat) : BlkOp :=
  let w := s.rd (kBlk e 8)
  { op := wfld w 31 30, fmt := wfld w 29 26, auto := nbit w.toNat 25, xneg := nbit w.toNat 24, yneg := nbit w.toNat 23
    bilin := nbit w.toNat 22
    src := s.rd64 (kBlk e 0x10) % 2 ^ 40 / 4 * 4, dst := s.rd64 (kBlk e 0x18) % 2 ^ 40 / 4 * 4
    sp := s.fld (kBlk e 0x20) 19 0 / 4 * 4, dp := s.fld (kBlk e 0x24) 19 0 / 4 * 4
    sw := s.fld (kBlk e 0x28) 13 0 + 1, sh := s.fld (kBlk e 0x28) 29 16 + 1
    dw := s.fld (kBlk e 0x2C) 13 0 + 1, dh := s.fld (kBlk e 0x2C) 29 16 + 1
    fill := s.rdN (kBlk e 0x30) }

/-- Bits per pixel (R376). -/
def blkBpp (fmt : Nat) : Nat :=
  match fmt with
  | 0 => 2
  | 1 => 4
  | 2 => 8
  | 8 => 8
  | 3 | 4 | 5 | 9 | 0xA => 16
  | _ => 32

def BlkOp.bpp (o : BlkOp) : Nat := blkBpp o.fmt
/-- The bytes of a destination row (R377). -/
def BlkOp.rb (o : BlkOp) : Nat := ceilDiv (o.dw * o.bpp) 8
/-- The step of each axis of a STRETCH (R379). -/
def BlkOp.stepX (o : BlkOp) : Nat := o.sw * 65536 / o.dw
def BlkOp.stepY (o : BlkOp) : Nat := o.sh * 65536 / o.dh
/-- Δ is positive: COPY with AUTO runs Y− X− (R382). -/
def BlkOp.down (o : BlkOp) : Bool := decide (o.src < o.dst)
/-- Rows run from the last to the first. -/
def BlkOp.up (o : BlkOp) : Bool := o.op == 1 && (if o.auto then o.down else o.yneg)
/-- Pieces of a row run in descending address order. -/
def BlkOp.left (o : BlkOp) : Bool := o.op == 1 && (if o.auto then o.down else o.xneg)
/-- A STRETCH that is refused (R380). -/
def BlkOp.refused (o : BlkOp) : Bool :=
  decide (16 * o.sw < o.dw) || decide (16 * o.dw < o.sw) || decide (16 * o.sh < o.dh) || decide (16 * o.dh < o.sh)
    || decide (8192 < o.sw)
/-- The operation ends at once with BADCFG (R376, R378, R380). -/
def BlkOp.badCfg (o : BlkOp) : Bool := o.op == 3 || decide (0xC ≤ o.fmt) || (o.op == 2 && o.refused)
/-- The row at place r in processing order. -/
def BlkOp.rowAt (o : BlkOp) (r : Nat) : Nat := if o.up then o.dh - 1 - r else r
/-- The address of a destination row. -/
def BlkOp.dstRow (o : BlkOp) (y : Nat) : Nat := (o.dst + y * o.dp) % 2 ^ 40
/-- The address of a source row. -/
def BlkOp.srcRow (o : BlkOp) (y : Nat) : Nat := (o.src + y * o.sp) % 2 ^ 40
/-- How many pieces a destination row has (R381). -/
def BlkOp.pieces (o : BlkOp) (y : Nat) : Nat := ceilDiv (o.dstRow y % 256 + o.rb) 256
/-- The bytes [first, end) of its row that the piece at place j covers. -/
def BlkOp.span (o : BlkOp) (y j : Nat) : Nat × Nat :=
  let k := if o.left then o.pieces y - 1 - j else j
  let lead := o.dstRow y % 256
  (256 * k - lead, min o.rb (256 * (k + 1) - lead))
/-- The bytes of a row not yet written from the piece at place j on (R385). -/
def BlkOp.rest (o : BlkOp) (y j : Nat) : Nat :=
  let (a, b) := o.span y j
  if o.left then b else o.rb - a
/-- A byte's place in processing order: row place, then piece place (R381). -/
def BlkOp.rank (o : BlkOp) (y x : Nat) : Nat × Nat :=
  let k := (o.dstRow y % 256 + x) / 256
  (if o.up then o.dh - 1 - y else y, if o.left then o.pieces y - 1 - k else k)
/-- An address lies in the destination rectangle. -/
def BlkOp.inDst (o : BlkOp) (a : Nat) : Bool := (List.range o.dh).any fun y => decide ((a + 2 ^ 40 - o.dstRow y) % 2 ^ 40 < o.rb)
/-- The rectangles lie apart: no byte between their ends is in both. -/
def BlkOp.apart (o : BlkOp) (srcRows srcBytes : Nat) : Bool :=
  let se := o.src + (srcRows - 1) * o.sp + srcBytes
  let de := o.dst + (o.dh - 1) * o.dp + o.rb
  decide (se ≤ 2 ^ 40) && decide (de ≤ 2 ^ 40) && (decide (se ≤ o.dst) || decide (de ≤ o.src))
/-- Some piece of a COPY writes a byte that a later piece still reads (R383). -/
def BlkOp.clobbers (o : BlkOp) : Bool :=
  (List.range o.dh).any fun y => (List.range o.rb).any fun x =>
    let a := (o.srcRow y + x) % 2 ^ 40
    (List.range o.dh).any fun y' =>
      let x' := (a + 2 ^ 40 - o.dstRow y') % 2 ^ 40
      decide (x' < o.rb) &&
        (let p := o.rank y' x'
         let q := o.rank y x
         decide (p.1 < q.1) || (p.1 == q.1 && decide (p.2 < q.2)))
/-- The overlap region of a COPY is exact (R382, R383). -/
def BlkOp.copyExact (o : BlkOp) : Bool :=
  if o.apart o.dh o.rb then true
  else if o.sp != o.dp then false
  else if o.auto then decide (o.rb ≤ o.dp)
  else !o.clobbers

/-- The fields that bilinear STRETCH filters: low bit and width (R376). -/
def blkFields (fmt : Nat) : List (Nat × Nat) :=
  match fmt with
  | 3 => [(11, 5), (5, 6), (0, 5)]
  | 4 => [(15, 1), (10, 5), (5, 5), (0, 5)]
  | 5 => [(12, 4), (8, 4), (4, 4), (0, 4)]
  | 6 | 7 => [(24, 8), (16, 8), (8, 8), (0, 8)]
  | 8 => [(0, 8)]
  | 9 => [(6, 10)]
  | 0xA => [(8, 8), (0, 8)]
  | 0xB => [(22, 10), (6, 10)]
  | _ => []

/-- Two pixels weighted, field by field (R255, R379). -/
def mixRaw (fmt w p q : Nat) : Nat :=
  (blkFields fmt).foldl (fun n f =>
    let a := nfld p (f.1 + f.2 - 1) f.1
    let b := nfld q (f.1 + f.2 - 1) f.1
    n + (a * (256 - w) + b * w + 128) / 256 * 2 ^ f.1) 0

/-- The address of the first byte of source pixel (c, r), and how many bytes it spans. -/
def BlkOp.pixAt (o : BlkOp) (c r : Nat) : Nat × Nat := ((o.srcRow r + c * o.bpp / 8) % 2 ^ 40, max 1 (o.bpp / 8))

/-- The source pixels that output pixel (i, j) uses (R255, R379): c0, c1, wx, r0, r1, wy. -/
def BlkOp.taps (o : BlkOp) (i j : Nat) : Nat × Nat × Nat × Nat × Nat × Nat :=
  let bil := o.bilin && decide (3 ≤ o.fmt)
  let (c0, c1, wx) := sampleAt o.sw o.stepX i bil
  let (r0, r1, wy) := sampleAt o.sh o.stepY j bil
  (c0, c1, wx, r0, r1, wy)

/-- The source byte ranges that output pixel (i, j) needs. -/
def BlkOp.needs (o : BlkOp) (i j : Nat) : List (Nat × Nat) :=
  let (c0, c1, _, r0, r1, _) := o.taps i j
  ([o.pixAt c0 r0, o.pixAt c1 r0, o.pixAt c0 r1, o.pixAt c1 r1]).eraseDups

/-- The raw value of source pixel (c, r). -/
def State.blkPix (s : State) (o : BlkOp) (c r : Nat) : Nat :=
  let (a, n) := o.pixAt c r
  let v := s.loadN a n
  if o.bpp < 8 then nfld v (c * o.bpp % 8 + o.bpp - 1) (c * o.bpp % 8) else v

/-- Output pixel (i, j) of a STRETCH (R379). -/
def State.stretchPix (s : State) (o : BlkOp) (i j : Nat) : Nat :=
  let (c0, c1, wx, r0, r1, wy) := o.taps i j
  if o.bilin && 3 ≤ o.fmt && o.fmt != 2 then
    mixRaw o.fmt wy (mixRaw o.fmt wx (s.blkPix o c0 r0) (s.blkPix o c1 r0)) (mixRaw o.fmt wx (s.blkPix o c0 r1) (s.blkPix o c1 r1))
  else s.blkPix o c0 r0

/-- The output pixels whose bits byte x of a row holds. -/
def BlkOp.pixelsOf (o : BlkOp) (x : Nat) : List Nat :=
  if o.bpp < 8 then (List.range (8 / o.bpp)).map fun k => x * (8 / o.bpp) + k else [x / (o.bpp / 8)]

/-- Byte x of row y as an operation computes it. -/
def State.blkByte (s : State) (o : BlkOp) (y x : Nat) : Byte :=
  let n := max 1 (o.bpp / 8)
  let pick (v : Nat) : Byte := BitVec.ofNat 8 (v >>> (8 * (x % n)))
  match o.op with
  | 0 =>
    if o.bpp < 8 then BitVec.ofNat 8 ((List.range (8 / o.bpp)).foldl (fun v k => v + o.fill % 2 ^ o.bpp * 2 ^ (k * o.bpp)) 0)
    else pick o.fill
  | 1 => s.byte ((o.srcRow y + x) % 2 ^ 40)
  | _ =>
    if o.bpp < 8 then
      BitVec.ofNat 8 ((o.pixelsOf x).foldr (fun i v => v * 2 ^ o.bpp + s.stretchPix o i y) 0)
    else pick (s.stretchPix o (x / n) y)

/-- Byte x of row y is unpredictable: it lies in an overlap region that is not exact (R383). -/
def BlkOp.byteOpen (o : BlkOp) (exact : Bool) (y x : Nat) : Bool :=
  if o.op = 0 || exact then false
  else if o.op = 1 then o.inDst ((o.srcRow y + x) % 2 ^ 40)
  else (o.pixelsOf x).any fun i => (o.needs i y).any fun r => (List.range r.2).any fun k => o.inDst ((r.1 + k) % 2 ^ 40)

/-- The bytes of a piece, each as computed or, where R383 leaves it open, free. -/
def State.blkBytes (s : State) (o : BlkOp) (exact : Bool) (y x : Nat) : Nat → List Byte × State
  | 0 => ([], s)
  | n + 1 =>
    if o.byteOpen exact y x then
      let (v, t) := s.fresh
      let (bs, u) := t.blkBytes o exact y (x + 1) n
      (BitVec.ofNat 8 v :: bs, u)
    else
      let (bs, u) := s.blkBytes o exact y (x + 1) n
      (s.blkByte o y x :: bs, u)

/-- The source byte ranges that bytes [a, b) of row y need. -/
def BlkOp.sources (o : BlkOp) (y a b : Nat) : List (Nat × Nat) :=
  match o.op with
  | 0 => []
  | 1 => [((o.srcRow y + a) % 2 ^ 40, b - a)]
  | _ => (((List.range (b - a)).flatMap fun k => o.pixelsOf (a + k)).eraseDups).flatMap fun i => o.needs i y

/-! ### Ends (R385) -/

/-- BLKe_PROG names the next piece not written (R385). -/
def State.blkProg (s : State) (e : Nat) : State :=
  let o := s.blkOp e
  let q := s.blk e
  let y := o.rowAt q.row
  s.wrN (kBlk e 0x44) (y % 2 ^ 14 * 2 ^ 18 + o.rest y q.piece % 2 ^ 18)

/-- The operation ends with a STATUS (R385): EVT_CHAN fires, in Hold once Hold has ended (R452); a reset then returns the registers to reset
(R374), and a GIVE that waits takes place (R373). -/
def State.blkEnd (s : State) (e status : Nat) : State :=
  let s := ((s.setB (kBs e) 31 false).setB (kBs e) (if status = 0 then 30 else 29) true).setF (kBs e) 3 0 status
  let q := s.blk e
  let s := s.setBlk e { q with ending := 0, dead := false }
  let s := if s.mode == .hold then s.setBlk e { s.blk e with due := q.due ++ (s.producer (kBlk e 8)).map fun c => (q.owner, c) }
    else s.produce q.owner (kBlk e 8)
  let s := if status = 6 ∨ q.ending = 6 then s.clearRegs (kBlk e 4) 0xFFFC else s
  if q.giving then s.blkFree e else s

/-- BLKe_CTL.GO (R378, R380, R386, R387): refused and counted for the holder while the engine is latched, also while its last
burst runs. A reserved FMT has no row length: BYTES is then open. In Hold the first piece waits (R535). An engine that no bench
holds runs nothing, though the Clerk reaches its registers (DESIGN CHOICE, log 95), and nor does a retired one (R501; log 106). -/
def State.blkGo (s : State) (e : Nat) : State :=
  match (s.blk e).owner with
  | none => s
  | some b =>
  if s.bit (kBs e) 28 then s.ignoredStart b
  else if s.blkBusy e || s.badUnits.contains (7, e) then s
  else
    let s := ((s.setB (kBs e) 30 false).setB (kBs e) 29 false).setF (kBs e) 3 0 0
    let s := s.setBlk e { s.blk e with piece := 0, row := 0, ending := 0, dead := s.mode == .hold }
    let o := s.blkOp e
    if o.badCfg then
      let s := if 0xC ≤ o.fmt then
          let (v, t) := s.fresh
          t.wrN (kBlk e 0x44) (o.rowAt 0 % 2 ^ 14 * 2 ^ 18 + v % 2 ^ 18)
        else s.blkProg e
      s.blkEnd e 5
    else (s.setB (kBs e) 31 true).blkProg e

/-- An abort, a STOP or a reset (R385): the piece in flight completes, and nothing more is issued. -/
def State.blkHalt (s : State) (e status : Nat) : State :=
  if !s.blkBusy e then s
  else if (s.blk e).dead then s.blkEnd e status
  else s.setBlk e { s.blk e with ending := if (s.blk e).ending = 0 ∨ status = 6 then status else (s.blk e).ending }

/-- A write of BLKe_CTL (R387, R388). -/
def State.blkCtl (s : State) (e : Nat) (v : Word) (be : Nat) : State :=
  if !nbit be 3 then s
  else match nbit v.toNat 31, nbit v.toNat 30 with
    | true, false => s.blkGo e
    | _, true => s.blkHalt e 1
    | _, _ => s

/-- Bench b's engine reaches every byte of a range: its asset granules and its scratchpad pages, and not the workspace pages of its
scene cores (R30, R377). -/
def State.blkReach (s : State) (b a n : Nat) : Bool :=
  let work (x : Nat) : Bool := decide (0x2000000000 ≤ x % 2 ^ 40) && decide (x % 2 ^ 40 < 0x2000200000)
  s.rangeHeld b a n && !work a && !work (a + n - 1)

/-- The piece in flight completes, or fails (R381, R385). Throttling sets a least dead-time (R585). -/
def State.blkPiece (s : State) (e : Nat) : State :=
  let q := s.blk e
  match q.owner with
  | none => s
  | some b =>
    if !s.blkBusy e || q.dead then s
    else
      let o := s.blkOp e
      let y := o.rowAt q.row
      let (x0, x1) := o.span y q.piece
      let dst := (o.dstRow y + x0) % 2 ^ 40
      let srcs := o.sources y x0 x1
      if !(s.blkReach b dst (x1 - x0)) || srcs.any fun r => !s.blkReach b r.1 r.2 then (s.hole b).blkEnd e 3
      else match srcs.find? fun r => s.marked r.1 r.2 with
        | some r => (s.meets r.1 r.2).blkEnd e 4
        | none =>
          let exact := if o.op = 1 then o.copyExact else if o.op = 2 then o.apart o.sh (ceilDiv (o.sw * o.bpp) 8) else true
          let s := srcs.foldl (fun t r => t.mends r.1 r.2) s
          let (bs, s) := s.blkBytes o exact y x0 (x1 - x0)
          let s := s.memStore dst bs
          let last := q.piece + 1 = o.pieces y
          if last && q.row + 1 = o.dh then
            let (v, s) := s.fresh
            (s.wrN (kBlk e 0x44) (v % 2 ^ 14 * 2 ^ 18)).blkEnd e 0
          else
            let wait := s.fld (kBlk e 0x34) 11 0 != 0 || s.mode == .hold || s.sense.throttle != 0
            let s := s.setBlk e { s.blk e with
              piece := if last then 0 else q.piece + 1, row := if last then q.row + 1 else q.row, dead := wait }
            let s := s.blkProg e
            if q.ending != 0 then s.blkEnd e q.ending else s

/-- Hold ends for an engine (R452, R535): an event that came in Hold fires, and a piece that waits for Hold alone goes on. -/
def State.blkThaw (s : State) (e : Nat) : State :=
  let q := s.blk e
  let s := q.due.foldl (fun t f => t.fire f.1 f.2) (s.setBlk e { q with due := [] })
  let goes := (q.piece == 0 && q.row == 0) || (s.fld (kBlk e 0x34) 11 0 == 0 && s.sense.throttle == 0)
  if s.blkBusy e && goes then s.setBlk e { s.blk e with dead := false } else s

/-- The dead-time ends and the next piece's first request issues (R384); in Hold nothing issues (R535). -/
def State.blkDeadEnd (s : State) (e : Nat) : State :=
  if s.mode == .hold then s else s.setBlk e { s.blk e with dead := false }

/-- A write of a word of a block engine's registers by a requester of bench b, who holds it or may borrow it, or by the Clerk, who
borrows nothing (R372, R387). -/
def State.blkWrite (s : State) (b : Option Nat) (e off : Nat) (v : Word) (be : Nat) : State :=
  if off = 0 then (match b with
    | some b => s.blkLend b e v be
    | none => s)
  else if off = 4 then s.blkCtl e v be
  else if 8 ≤ off && off < 0x38 && s.blkBusy e then s
  else s.store (kBlk e off) v be

/-- BLK_PIECE_DONE (R381). -/
def execBlkPieceDone (e : BlkId) (s : State) : Host.Outcome State Fault Refusal := .next (s.blkPiece e.val)

/-- BLK_DEAD_TIME_END (R384). -/
def execBlkDeadTimeEnd (e : BlkId) (s : State) : Host.Outcome State Fault Refusal := .next (s.blkDeadEnd e.val)

end Sys2Proof.Machine
end

