-- ==== Sys2Proof/Machine/Carter.lean ====
section
/-!
DEFINITION. Carter (R390 to R408): descriptors, transfers, pause, disable and bus errors of the 64 channels. A channel reads a
descriptor once the one before is complete, which every rule of order permits, and keeps up to 64 reads of a descriptor's source
outstanding, which return in their order (log 56).
-/
namespace Sys2Proof.Machine

/-- CHc_STAT. -/
def kCs (c : Nat) : Nat := kCar c 0x18

/-- A channel's STATE (R401). -/
def State.carState (s : State) (c : Nat) : Nat := s.fld (kCs c) 31 29

/-- A channel's STATE, CODE and WHERE set (R406). -/
def State.setCarState (s : State) (c st code whr : Nat) : State :=
  ((s.setF (kCs c) 31 29 st).setF (kCs c) 23 20 code).setF (kCs c) 25 24 whr

/-- CHc_CUR_CTL. -/
def State.carCtlWord (s : State) (c : Nat) : Nat := s.rdN (kCar c 0x40)

/-- The bytes of the current descriptor that have issued are complete: SRC, DST, REMAIN and, at half, HALF (R397, R402). -/
def State.carSettle (s : State) (c : Nat) : State :=
  let q := s.chan c
  let n := q.issued
  let s := (s.wr64 (kCar c 0x28) (q.src0 + n)).wr64 (kCar c 0x30) (q.dst0 + n)
  let s := s.wrN (kCar c 0x38) (q.len - n)
  let halfNow := !q.half && decide (ceilDiv q.len 2 ≤ n)
  let s := if halfNow && nbit (s.carCtlWord c) 28 then s.setB (kCs c) 26 true else s
  s.setChan c { q with done := n, half := q.half || halfNow }

/-- The current descriptor is complete: FULL, EVT, and its ranges are remembered until a barrier (R396, R397, R408). In Hold Carter fires
nothing (R452). -/
def State.carFull (s : State) (c : Nat) : State :=
  let ctl := s.carCtlWord c
  let s := if nbit ctl 27 then s.setB (kCs c) 27 true else s
  let s := if nbit ctl 26 && s.mode != .hold then s.produce (s.plan.carterBench c) (kCar c 4) else s
  let q := s.chan c
  let prior := if q.len = 0 then q.prior
    else { host := nbit ctl 31, dst := false, base := q.src0, len := q.len }
      :: { host := nbit ctl 30, dst := true, base := q.dst0, len := q.len } :: q.prior
  s.setChan c { q with past := true, prior := prior }

/-- The channel ends in DONE, HALTED or ABORTED, and END sets (R398, R405, R406). -/
def State.carEnd (s : State) (c st code whr : Nat) : State :=
  let s := (s.setCarState c st code whr).setB (kCs c) 28 true
  s.setChan c { s.chan c with await := 0, ending := 0, reads := 0, held := [] }

/-! ### Reads on their way (R394) -/

/-- The bytes of the current descriptor whose reads have returned. -/
def Chan.got (q : Chan) : Nat := q.issued + q.held.length

/-- The largest host read a channel issues (R40, R394). -/
def State.carMaxRead (s : State) (c : Nat) : Nat :=
  match s.plan.carterBench c with
  | some b => s.maxRead b
  | none => 512

/-- How many bytes the oldest outstanding source read covers (R394). -/
def State.carChunk (s : State) (c : Nat) : Nat :=
  let q := s.chan c
  min (q.len - q.got) (if nbit (s.carCtlWord c) 31 then s.carMaxRead c else 256 - (q.src0 + q.got) % 256)

/-- The source reads that the current descriptor still needs, outstanding ones among them (R394). -/
def State.carReadsLeft (s : State) (c : Nat) : Nat :=
  let q := s.chan c
  let n := q.len - q.got
  if n = 0 then 0
  else if nbit (s.carCtlWord c) 31 then ceilDiv n (s.carMaxRead c) else ceilDiv ((q.src0 + q.got) % 256 + n) 256

/-- The read that the channel issues next goes to the host (R393, R395). -/
def State.carFromHost (s : State) (c : Nat) : Bool :=
  if (s.chan c).await = 1 then nbit (s.rd64 (kCar c 0x20)) 0 else nbit (s.carCtlWord c) 31

/-- A channel in RUN has one more read to issue, of at most 64: in Hold none, nor once it drains towards a halt (R394, R402, R405, R535). -/
def State.carWants (s : State) (c : Nat) : Bool :=
  let q := s.chan c
  s.carState c == 1 && s.mode != .hold && q.ending == 0
    && (if q.await = 1 then q.reads == 0 else q.await == 2 && decide (q.reads < min 64 (s.carReadsLeft c)))

/-- It may issue it: a host read needs Bus Master Enable (R71, R405). -/
def State.carMayIssue (s : State) (c : Nat) : Bool :=
  s.carWants c && (!s.carFromHost c || (match s.plan.carterBench c with
    | some b => (s.fn b).busMaster
    | none => false))

/-- The reads that have issued by now: a descriptor fetch at once; how many source reads, up to 64, is a matter of time and free
(log 56). -/
def State.carIssue (s : State) (c : Nat) : State :=
  if !s.carMayIssue c then s
  else
    let q := s.chan c
    if q.await = 1 then s.setChan c { q with reads := 1 }
    else
      let (v, t) := s.fresh
      t.setChan c { q with reads := q.reads + v % (min 64 (s.carReadsLeft c) - q.reads + 1) }

/-- The reads of every channel of bench b that have issued by now. -/
def State.carsIssue (s : State) (b : Nat) : State :=
  (List.range 64).foldl (fun t c => if t.plan.carterBench c == some b then t.carIssue c else t) s

/-- A read that returns has issued. -/
def State.carOut (s : State) (c : Nat) : State :=
  if (s.chan c).reads = 0 && s.carMayIssue c then s.setChan c { s.chan c with reads := 1 } else s

/-- With no read outstanding, no data at hand and every write complete, a pause ends in PAUSED, and a bus error whose retries are used
up in HALTED (R402, R405). -/
def State.carRest (s : State) (c : Nat) : State :=
  let q := s.chan c
  if 0 < q.reads || !q.held.isEmpty || decide (q.done < q.issued) then s
  else if q.ending ≠ 0 then s.carEnd c 4 q.ending q.where_
  else if s.carState c = 2 then s.setCarState c 3 0 0
  else s

/-- HOPS has reached the hop limit (R399). -/
def State.carHopped (s : State) (c : Nat) : Bool :=
  let limit := s.fld (kCar c 4) 31 16
  limit != 0 && s.rdN (kCar c 0x3C) == limit

/-- The channel is about to read the descriptor at CUR: the hop limit halts it instead (R399). -/
def State.carNext (s : State) (c : Nat) : State :=
  if s.carHopped c then (s.wrN (kCar c 0x38) 0).carEnd c 4 2 0
  else (s.setChan c { s.chan c with await := 1, reads := 0, retries := 0, past := false, where_ := 0 }).carIssue c

/-- The address word of the next descriptor: its address and its host flag (R393, R406). -/
def carNextAddr (next : Nat) : Nat := next / 32 * 32 + next % 2

/-- What follows a completed descriptor: a hop halt comes before a pause (R398, R402, R407). -/
def State.carAfter (s : State) (c : Nat) : State :=
  let next := s.rd64 (kCar c 0x48)
  if nbit next 1 then s.carEnd c 5 1 0
  else if s.carState c = 2 && !s.carHopped c then s.setCarState c 3 0 0
  else (s.wr64 (kCar c 0x20) (carNextAddr next)).carNext c

/-- All bytes of the current descriptor are written and complete (R397). In Hold the channel is frozen there, and its flags, its event and
what follows come when Hold ends (R452, R535). -/
def State.carFinish (s : State) (c : Nat) : State :=
  if s.mode == .hold then s.carRest c else (s.carFull c).carAfter c

/-- A descriptor is written whose completion is still to come. -/
def Chan.unfinished (q : Chan) : Bool :=
  q.await == 0 && !q.past && q.done == q.len && q.issued == q.len && q.ending == 0

/-- Hold ends for channel c (R535). -/
def State.carThaw (s : State) (c : Nat) : State :=
  if s.carState c != 1 then s
  else if (s.chan c).unfinished then s.carFinish c
  else s.carIssue c

/-- A START or RESUME of a latched channel, by any requester, counts for the bench that holds the channel (R94). -/
def State.carRefused (s : State) (c : Nat) : State :=
  match s.plan.carterBench c with
  | some b => s.ignoredStart b
  | none => s

/-- START in a state that accepts it: the channel runs from HEAD (R401, R403). A retired channel is out of use and takes none (R501; log
106). -/
def State.carStart (s : State) (c : Nat) : State :=
  if (s.chan c).latched then s.carRefused c
  else if s.badUnits.contains (6, c) then s
  else if s.carState c = 1 || s.carState c = 2 then s
  else
    let s := (s.setCarState c 1 0 0).wrN (kCar c 0x3C) 0
    let s := s.wr64 (kCar c 0x20) (carNextAddr (s.rd64 (kCar c 0x10)))
    (s.setChan c Chan.reset).carNext c

/-- PAUSE in RUN: no new request issues; with none outstanding the channel is PAUSED at once (R402). -/
def State.carPause (s : State) (c : Nat) : State :=
  if s.carState c = 1 then ((s.carIssue c).setCarState c 2 0 0).carRest c else s

/-- RESUME in PAUSED or HALTED (R403). -/
def State.carResume (s : State) (c : Nat) : State :=
  let q := s.chan c
  let st := s.carState c
  if q.latched then s.carRefused c
  else if s.badUnits.contains (6, c) then s
  else if st ≠ 3 ∧ st ≠ 4 then s
  else
    let whr := if st = 4 then s.fld (kCs c) 25 24 else 1
    let s := (s.setCarState c 1 0 0).wrN (kCar c 0x3C) 0
    let s := s.setChan c { q with retries := 0, putRetries := 0 }
    if whr = 0 || q.await = 1 then s.carNext c
    else if q.past then (s.wr64 (kCar c 0x20) (carNextAddr (s.rd64 (kCar c 0x48)))).carNext c
    else if q.unfinished then s.carFinish c
    else s.setChan c { s.chan c with await := 2 }

/-- DISABLE, a STOP or a reset of a channel that is not at rest: writes already issued complete, and the channel is
ABORTED with its CODE (R404). -/
def State.carAbort (s : State) (c code : Nat) : State :=
  let st := s.carState c
  if st = 0 ∨ 5 ≤ st then s
  else
    let q := s.chan c
    let s := if q.done < q.issued then s.carSettle c else s
    let s := if (q.done < q.issued ∧ q.issued = q.len) ∨ q.unfinished then s.carFull c else s
    s.carEnd c 6 code 0

/-- A write of CHc_CTL by the channel's bench or the Clerk (R401, R407). -/
def State.carCtl (s : State) (c : Nat) (v : Word) (be : Nat) : State :=
  if !nbit be 3 then s
  else
    let n := v.toNat
    let s := if nbit n 31 then s.carStart c else s
    let s := if nbit n 30 && !nbit n 31 then s.carPause c else s
    let s := if nbit n 29 then s.carResume c else s
    if nbit n 28 then s.carAbort c 8 else s

/-- A write of a word of a channel's registers (R406). -/
def State.carWrite (s : State) (c off : Nat) (v : Word) (be : Nat) : State :=
  let busy := s.carState c = 1 || s.carState c = 2
  if off = 0 then s.carCtl c v be
  else if (off = 4 || off = 8 || off = 0x10 || off = 0x14) && busy then s
  else s.store (kCar c off) v be

/-! ### Requests -/

/-- The last retry of a request has failed: the channel stops issuing, and halts once what it has issued has ended (R405). -/
def State.carHalt (s : State) (c code whr : Nat) : State :=
  let s := s.carIssue c
  let q := s.chan c
  let q := if whr = 2 then { q with held := [] } else { q with reads := if code = 7 then q.reads else q.reads - 1 }
  (s.setChan c (if q.ending = 0 then { q with ending := code, where_ := whr } else q)).carRest c

/-- A request ended in a bus error: it counts and is issued again, or the channel halts after the last retry (R405). -/
def State.carFail (s : State) (c code whr : Nat) : State :=
  let s := s.incSat (kCs c) 15 0
  let q := s.chan c
  let most := s.fld (kCar c 4) 15 13
  if whr = 2 ∧ q.putRetries < most then s.setChan c { q with putRetries := q.putRetries + 1 }
  else if whr ≠ 2 ∧ q.retries < most then s.setChan c { q with retries := q.retries + 1 }
  else s.carHalt c code whr

/-- A failing access to a hole counts for the bench (R29, R405). -/
def State.carHole (s : State) (b c whr : Nat) : State := (s.hole b).carFail c 5 whr

/-- A read of this kind is outstanding. -/
def State.carAwaits (s : State) (c kind : Nat) : Bool :=
  (s.carState c == 1 || s.carState c == 2) && (s.chan c).await == kind && decide (0 < (s.chan c).reads)

/-- A descriptor's 32 bytes are held and its transfer begins (R393, R395, R399). -/
def State.carLoad (s : State) (c : Nat) (d : List Byte) : State :=
  let w (i n : Nat) : Nat := leNat ((d.drop i).take n)
  let s := s.wrN (kCar c 0x3C) (s.rdN (kCar c 0x3C) + 1)
  let s := ((s.wr64 (kCar c 0x28) (w 0 8)).wr64 (kCar c 0x30) (w 8 8)).wrN (kCar c 0x40) (w 16 4)
  let s := (s.wrN (kCar c 0x38) (w 20 4)).wr64 (kCar c 0x48) (w 24 8)
  let prior := if nbit (w 16 4) 29 then [] else (s.chan c).prior
  let s := s.setChan c { s.chan c with
    await := 2, len := w 20 4, issued := 0, done := 0, src0 := w 0 8, dst0 := w 8 8, retries := 0, half := false,
    past := false, prior := prior, where_ := 1, reads := 0, held := [], putRetries := 0 }
  if w 20 4 = 0 then
    let s := s.setChan c { s.chan c with await := 0 }
    (s.carSettle c).carFinish c
  else s.carRest c

/-- The answer to a host read as a channel takes it: the data, or the CODE of a bus error (R405). -/
def hostAnswer : HostRead → Option (List Byte ⊕ Nat)
  | .notHost => none
  | .data d => some (.inl d)
  | .poisoned => some (.inr 6)
  | .refused => some (.inr 4)

/-- A descriptor read returns (R395, R405). -/
def State.carDescriptor (s : State) (c : Nat) (host : HostRead) : State :=
  let s := s.carOut c
  if !s.carAwaits c 1 then s
  else
    let cur := s.rd64 (kCar c 0x20)
    match s.plan.carterBench c with
    | none => s
    | some b =>
      if nbit cur 0 then
        match hostAnswer host with
        | none => s
        | some (.inl d) => if d.length = 32 then s.carLoad c d else s
        | some (.inr code) => s.carFail c code 0
      else
        let a := cur % 2 ^ 40 / 32 * 32
        if !s.plainHeld b a then s.carHole b c 0
        else if s.marked a 32 then (s.meets a 32).carFail c 6 0
        else (s.mends a 32).carLoad c (s.bytes a 32)

/-- A byte's address, taken in a range's space, lies in the range. -/
def CarRange.has (r : CarRange) (host : Bool) (a : Nat) : Bool :=
  let m := if host then 2 ^ 64 else 2 ^ 40
  r.host == host && decide ((a + m - r.base % m) % m < r.len)

/-- The byte at offset i of the transfer is unpredictable: its source lies in the destination of this descriptor or of an earlier one
not behind a barrier, or its destination in their source (R408). -/
def Chan.byteOpen (q : Chan) (ctl i : Nat) : Bool :=
  let own : List CarRange := [{ host := nbit ctl 31, dst := false, base := q.src0, len := q.len },
    { host := nbit ctl 30, dst := true, base := q.dst0, len := q.len }]
  (own ++ q.prior).any fun r => if r.dst then r.has (nbit ctl 31) (q.src0 + i) else r.has (nbit ctl 30) (q.dst0 + i)

/-- The bytes to write from offset i on, an unpredictable one being free (R408). -/
def State.carBytes (s : State) (q : Chan) (ctl i : Nat) : List Byte → List Byte × State
  | [] => ([], s)
  | x :: t =>
    if q.byteOpen ctl i then
      let (v, u) := s.fresh
      let (bs, w) := u.carBytes q ctl (i + 1) t
      (BitVec.ofNat 8 v :: bs, w)
    else
      let (bs, w) := s.carBytes q ctl (i + 1) t
      (x :: bs, w)

/-- Data at hand is written to the destination in ascending order: host writes split at 4 KiB boundaries and at Max_Payload_Size, device
writes at 256-byte boundaries. A piece that fails stays at hand, to be issued again (R394, R405). The number of pieces bounds the
recursion. -/
def State.carPut (s : State) (b c : Nat) : Nat → State
  | 0 => s
  | fuel + 1 =>
    let q := s.chan c
    if q.held.isEmpty then s
    else
      let toHost := nbit (s.carCtlWord c) 30
      let dst := if toHost then (q.dst0 + q.issued) % 2 ^ 64 else (q.dst0 + q.issued) % 2 ^ 40
      let n := min q.held.length (if toHost then min (s.maxPayload b) (4096 - dst % 4096) else 256 - dst % 256)
      if toHost && !(s.fn b).busMaster then s.carFail c 7 2
      else if !toHost && !s.plainHeld b dst then s.carHole b c 2
      else
        let bs := q.held.take n
        let s := if toHost then s.emit (.hostWrite b dst bs) else s.memStore dst bs
        let s := s.setChan c { q with issued := q.issued + n, held := q.held.drop n, putRetries := 0 }
        s.carPut b c fuel

/-- A source read has returned data: it is written, or discarded where the channel drains towards a halt; with the last byte at hand
nothing more is read (R394, R402, R405). -/
def State.carData (s : State) (b c : Nat) (d : List Byte) : State :=
  let q := s.chan c
  let s := s.setChan c { q with reads := q.reads - 1, retries := 0 }
  if q.ending ≠ 0 then s.carRest c
  else
    let (bs, s) := s.carBytes q (s.carCtlWord c) q.got d
    let s := s.setChan c { s.chan c with
      held := q.held ++ bs, await := if q.got + d.length = q.len then 0 else 2 }
    (s.carPut b c (q.held.length + bs.length + 1)).carRest c

/-- A source read returns (R394, R405). -/
def State.carRead (s : State) (c : Nat) (host : HostRead) : State :=
  let s := s.carOut c
  if !s.carAwaits c 2 then s
  else
    let q := s.chan c
    let n := s.carChunk c
    match s.plan.carterBench c with
    | none => s
    | some b =>
      if nbit (s.carCtlWord c) 31 then
        match hostAnswer host with
        | none => s
        | some (.inl d) => if d.length = n || q.ending ≠ 0 then s.carData b c d else s
        | some (.inr code) => s.carFail c code 1
      else if q.ending ≠ 0 then s.carData b c []
      else
        let a := (q.src0 + q.got) % 2 ^ 40
        if !s.plainHeld b a then s.carHole b c 1
        else if s.marked a n then (s.meets a n).carFail c 6 1
        else (s.mends a n).carData b c (s.bytes a n)

/-- A write that failed is issued again (R405). -/
def State.carRetry (s : State) (c : Nat) : State :=
  match s.plan.carterBench c with
  | some b => if (s.carState c == 1 || s.carState c == 2) && !(s.chan c).held.isEmpty
      then s.carPut b c ((s.chan c).held.length + 1) else s
  | none => s

/-- The writes issued so far are complete, one that failed and is issued again among them (R396, R397, R398, R402, R405). -/
def State.carComplete (s : State) (c : Nat) : State :=
  let s := s.carRetry c
  let q := s.chan c
  let st := s.carState c
  if !(st == 1 || st == 2) || q.issued ≤ q.done then s
  else
    let s := s.carSettle c
    if q.issued = q.len then s.carFinish c else s.carRest c

/-- A bus error that the link or the memory reports for the oldest outstanding read, for a request that is not issued, or for a write that
is issued again, where one of its kind can arise (R405). -/
def State.carBusError (s : State) (c : Nat) (err : BusErr) : State :=
  let s := s.carOut c
  let q := s.chan c
  let st := s.carState c
  if !(st == 1 || st == 2) then s
  else
    let desc := q.await = 1
    let whr := if desc then 0 else 1
    let fromHost := s.carFromHost c
    let toHost := nbit (s.carCtlWord c) 30
    let a := if desc then s.rd64 (kCar c 0x20) % 2 ^ 40 / 32 * 32 else (q.src0 + q.got) % 2 ^ 40
    let n := if desc then 32 else s.carChunk c
    let out := decide (0 < q.reads)
    match s.plan.carterBench c with
    | none => s
    | some b => match err with
      | .timeout => if out && fromHost then s.carFail c 3 whr else s
      | .refused => if out && fromHost then s.carFail c 4 whr else s
      | .decode => if out && !fromHost && !s.plainHeld b a then s.carHole b c whr else if !toHost then s.carRetry c else s
      | .poison =>
        if out && fromHost then s.carFail c 6 whr
        else if out && s.plainHeld b a && s.marked a n then (s.meets a n).carFail c 6 whr
        else s
      | .notIssued =>
        if s.carWants c && fromHost && !(s.fn b).busMaster then s.carFail c 7 whr
        else if toHost then s.carRetry c else s

/-- CARTER_DESCRIPTOR_FETCHED (R395). -/
def execCarterDescriptorFetched (c : ChanId) (host : HostRead) (s : State) : Host.Outcome State Fault Refusal :=
  .next (s.carDescriptor c.val host)

/-- CARTER_READ_RETURN (R394). -/
def execCarterReadReturn (c : ChanId) (host : HostRead) (s : State) : Host.Outcome State Fault Refusal :=
  .next (s.carRead c.val host)

/-- CARTER_WRITE_COMPLETE (R397). -/
def execCarterWriteComplete (c : ChanId) (s : State) : Host.Outcome State Fault Refusal := .next (s.carComplete c.val)

/-- CARTER_BUS_ERROR (R405). -/
def execCarterBusError (c : ChanId) (err : BusErr) (s : State) : Host.Outcome State Fault Refusal :=
  .next (s.carBusError c.val err)

end Sys2Proof.Machine
end

