-- ==== Sys2Proof/Machine/Memory.lean ====
section
/-!
DEFINITION. Asset memory and scratchpad upkeep (R409 to R430): patrol scrub, page retirement, the march engine, bank
rotation, and the memory system's registers.
-/
namespace Sys2Proof.Machine

/-! ### Page retirement (R413 to R415) -/

/-- Patrol scrub reads the next line: what it finds is handled as any read handles it, and words that carry a mark are
found again; a granule being marched is skipped (R412, R413, R427, R429). -/
def State.scrub (s : State) (found : List (Nat × EccFound)) : State :=
  if s.mode != .run then s
  else
    let pos := s.scrubPos
    let marching := (List.range 4).any fun b => (s.march b).phase != 0 && (s.march b).gran == pos / 0x40000000
    let s := if marching then s else (found.foldl (fun t f => t.upset (some (BitVec.ofNat 40 (pos + 8 * f.1), f.2))) s).meets pos 64
    let next := (pos + 64) % 0x2000000000
    let s := { s with scrubPos := next, watches := s.watches.filter fun w => w.2 != next }
    let s := if next = 0 then s.incWrap (kMemAll 0x18) 31 24 else s
    s.setF (kMemAll 0x18) 16 0 (next / 0x100000)

/-- A page enters the list of retired pages, and its place in house flash: a count, and four bytes a page in retirement order
(R413, R496; the layout is the model's, log 107). -/
def State.pageListed (s : State) (page : Nat) : State :=
  let s := { s with retired := s.retired ++ [page] }
  (s.flashPut (0x32400000 + 4 * s.retired.length) (leBytes 4 page)).flashPut 0x32400000 (leBytes 4 s.retired.length)

/-- The oldest page copy ends and its remap takes effect: the page keeps its address, its data and its marks, and the
retirement is recorded (R413, R415). -/
def State.retireDone (s : State) : State :=
  match s.retiring with
  | [] => s
  | page :: rest =>
    let a := page * 4096
    let s := ({ s with retiring := rest, watches := s.watches.filter fun w => w.1 != page }).pageListed page
    s.report 0x0C (0x0800 + a / 0x40000000) (scopeOf (s.granHolder a)) a

/-- MEM_RETIRED as bench b reads it (R414, R428). -/
def State.memRetired (s : State) (b : Nat) : Nat :=
  (if s.poolFull then 2 ^ 31 else 0)
    + min 65535 (s.retired.filter fun p => s.granHolder (p * 4096) == some b).length

/-- MEM_HEADh_BW as bench b reads it (R428). -/
def State.memHeadBw (s : State) (b h : Nat) : Nat :=
  if s.plan.headBench h == some b then (s.plan.bench b).headBw.getD h 0 else 0

/-! ### The march engine on a bench's granule (R423, R426) -/

/-- MEM_MARCH_STAT of bench b. -/
def kMarch (b : Nat) : Nat := kMem b 0x44

/-- A march ends with its STATUS; its granule's zero fill starts, or, where no granule was touched, BUSY ends (R426,
R428). -/
def State.marchStop (s : State) (b status : Nat) : State :=
  let s := (s.setF (kMarch b) 3 0 status).setB (kMarch b) 30 true
  let q := s.march b
  if q.phase = 0 then s else s.setMarch b { q with phase := 2, ending := 0 }

/-- The granule that the bench numbers n, if the bench has that many (R426). -/
def State.localGranule (s : State) (b n : Nat) : Option Nat :=
  let p := s.plan.bench b
  if p.present && decide (n < p.granules) then some (s.plan.granFirst b + n) else none

/-- GO by bench b while no march is busy (R426, R428). A march with a reserved ALG ends at once, and its granule is
zero-filled as after any end. -/
def State.marchGo (s : State) (b : Nat) : State :=
  if s.bit (kMarch b) 31 then s
  else
    let s := (s.setB (kMarch b) 30 false).setF (kMarch b) 3 0 0
    let w := s.rd (kMem b 0x40)
    match s.localGranule b (wfld w 6 0) with
    | none => s.marchStop b 4
    | some g =>
      let s := (s.setMarch b { phase := 1, gran := g, ending := 0 }).setB (kMarch b) 31 true
      if 2 ≤ wfld w 29 28 then s.marchStop b 3 else s

/-- An abort (2) or a reset (5) ends the march at the end of its current element (R426, R428). -/
def State.marchAbort (s : State) (b status : Nat) : State :=
  let q := s.march b
  if q.phase = 1 then s.setMarch b { q with ending := max q.ending status } else s

/-- A write of MEM_MARCH_CTL by bench b; GO and ABORT together start nothing (R428, R429). -/
def State.marchCtl (s : State) (b : Nat) (v : Word) (be : Nat) : State :=
  let s := s.store (kMem b 0x40) v be
  if !nbit be 3 then s
  else match nbit v.toNat 31, nbit v.toNat 30 with
    | true, false => s.marchGo b
    | false, true => s.marchAbort b 2
    | _, _ => s

/-- The march of bench b ends: the failing words of its granule, lowest in march order first, retire their pages (R423,
R426). -/
def State.marchEnd (s : State) (b : Nat) (failing : List Nat) : State :=
  let q := s.march b
  if q.phase ≠ 1 then s
  else
    let bad := failing.filter fun a => a / 0x40000000 == q.gran
    let s := bad.foldl (fun t a => t.retirePage (a / 4096)) s
    let s := match bad with
      | [] => s
      | a :: _ => if q.ending = 5 then s else s.wr64 (kMem b 0x48) (a / 8 * 8)
    s.marchStop b (if q.ending ≠ 0 then q.ending else if bad.isEmpty then 0 else 1)

/-- The zero fill after a march ends and the granule is reachable again (R426). -/
def State.marchFilled (s : State) (b : Nat) : State :=
  let q := s.march b
  if q.phase ≠ 2 then s
  else ((s.zeroFill (q.gran * 0x40000000) 0x40000000).setMarch b March.reset).setB (kMarch b) 31 false

/-! ### Bank rotation (R419, R422, R425) -/

/-- The physical bank that serves a logical bank. -/
def State.bankPhys (s : State) (l : Nat) : Nat := nfld (s.rd64 (kMemAll 0x60)) (4 * l + 3) (4 * l)

/-- SP_MAP with one bank's entry replaced. -/
def State.setBankPhys (s : State) (l p : Nat) : State :=
  let m := s.rd64 (kMemAll 0x60)
  s.wr64 (kMemAll 0x60) (m - nfld m (4 * l + 3) (4 * l) * 2 ^ (4 * l) + p % 16 * 2 ^ (4 * l))

/-- The spare bank set, in SP_MAP and in SP_STAT (R428). -/
def State.setSpare (s : State) (p : Nat) : State := (s.setBankPhys 15 p).setF (kMemAll 0x68) 3 0 p

/-- No spare bank is left (R425). -/
def State.noSpare (s : State) : Bool := s.bit (kMemAll 0x68) 4

/-- A physical bank that is retired: the spare takes its place, or its logical bank stays unusable without one (R419,
R425, R511). -/
def State.retireBank (s : State) (p : Nat) : State :=
  let at_ := (List.range 15).find? fun l => s.bankPhys l == p
  if s.noSpare then
    match at_ with
    | some l => { s with badBanks := NatSet.insert s.badBanks l }
    | none => s
  else
    let spare := s.fld (kMemAll 0x68) 3 0
    let s := s.setB (kMemAll 0x68) 4 true
    if spare = p then s
    else match at_ with
      | some l => s.setBankPhys l spare
      | none => s

/-- A preserving test of logical bank l starts its copy (R422, R425). -/
def State.rotStart (s : State) (l byWho : Nat) : State :=
  let s := { s with rot := { phase := 1, bank := l, old := s.bankPhys l, byWho := byWho } }
  (s.setB (kMemAll 0x68) (16 + l) true).setB (kMemAll 0x68) 31 true

/-- The copy ends: the logical bank moves to the former spare, and the march on the old bank starts (R425). -/
def State.rotCopied (s : State) : State :=
  let q := s.rot
  if q.phase ≠ 1 then s
  else
    let spare := s.fld (kMemAll 0x68) 3 0
    let s := (s.setBankPhys q.bank spare).setSpare q.old
    { (s.setB (kMemAll 0x68) (16 + q.bank) false) with rot := { q with phase := 2 } }

/-- SCRUB_STEP (R412). -/
def execScrubStep (found : List (Fin 8 × EccFound)) (s : State) : Host.Outcome State Fault Refusal :=
  .next (s.scrub (found.map fun f => (f.1.val, f.2)))

/-- RETIRE_COPY_DONE (R413). -/
def execRetireCopyDone (s : State) : Host.Outcome State Fault Refusal := .next s.retireDone

/-- MARCH_END (R423). -/
def execMarchEnd (b : BenchId) (failing : List Addr) (s : State) : Host.Outcome State Fault Refusal :=
  .next (s.marchEnd b.val (failing.map (·.toNat)))

/-- MARCH_ZERO_FILL_DONE (R426). -/
def execMarchZeroFillDone (b : BenchId) (s : State) : Host.Outcome State Fault Refusal := .next (s.marchFilled b.val)

/-- BANK_ROTATION_COPY_DONE (R425). -/
def execBankRotationCopyDone (s : State) : Host.Outcome State Fault Refusal := .next s.rotCopied

end Sys2Proof.Machine
end

