-- ==== Sys2Proof/Machine/Events.lean ====
section
/-!
DEFINITION. Events that reach the Bellwire, the interrupt controller and the cabinet's pins on their own: ticks, captures,
deliveries, route changes, storm windows, offers, hold-offs, wakes, filtered levels and the units' timers (R431 to R491).
-/
namespace Sys2Proof.Machine

/-! ### Deliveries (R446 to R452) -/

/-- Units that Doze and Standby stop take events and discard them (R446, R452). -/
def State.lowPower (s : State) : Bool := s.mode == .doze || s.mode == .standby || s.mode == .noPower || s.mode == .service

/-- A task input's unit belongs to a bench that is being reset (R446). -/
def State.inputReset (s : State) (t : TaskInput) : Bool :=
  match t.holder s.plan with
  | some b => (s.fn b).resetting
  | none => true

/-- An event reaches a voice's task input in Hold: it is remembered once, and a further one overruns (R452). -/
def State.voiceHeld (s : State) (v : Nat) (on : Bool) : State :=
  let q := s.voice v
  if (if on then q.memOn else q.memOff) then s.setB (kVoice v 0x4C) 27 true
  else s.setVoice v (if on then { q with memOn := true } else { q with memOff := true })

/-- A task input takes an event (R446, R447, R452). -/
def State.take (s : State) (t : TaskInput) : State :=
  if s.inputReset t then s
  else match t with
    | .voiceOn v => if s.lowPower then s else if s.mode == .hold then s.voiceHeld v true else s.voiceEvent v true
    | .voiceOff v => if s.lowPower then s else if s.mode == .hold then s.voiceHeld v false else s.voiceEvent v false
    | .fence h p => if s.lowPower then s else s.fenceSignal h p
    | .headSync h => if s.lowPower then s else s.channelEdge h
    | .capture n => s.capture n true
    | .pin p => if s.pinWorks p && s.pinRole p == 4 then s.setPin p { s.pin p with latch := !(s.pin p).latch } else s

/-- The event in flight reaches its next input, or, with `done`, all that are left, and the handshake goes idle (R446). -/
def State.deliver (s : State) (c : Nat) (done : Bool) : State :=
  let q := s.bell c
  if !q.inFlight then s
  else if done then
    let s := s.setBell c { q with targets := [] }
    (q.targets.foldl (fun t x => t.take x) s).bellIdle c
  else match q.targets with
    | [] => s
    | x :: rest => (s.setBell c { q with targets := rest }).take x

/-! ### The watcher (R468) -/

/-- The sources with always-on producers: compares, captures and pins (R452, R457). -/
def alwaysOn (n : Nat) : Bool := (decide (160 ≤ n) && decide (n < 240)) || (decide (528 ≤ n) && decide (n < 624))

/-- A watched source goes high in Doze or Standby: the wake sequence starts, and WAKE# is asserted where the links are
in L2 (R468, R69). A source without an always-on producer never wakes the module (R472). -/
def State.watch (s : State) (k : Nat) : State :=
  let key := kIc (0x2400 + 4 * k)
  if !(s.mode == .doze || s.mode == .standby) || !s.bit key 31 || !alwaysOn (s.fld key 9 0) || !s.srcLevel (s.fld key 9 0) then s
  else
    let s := s.setB key 30 true
    let s := if s.wakeAsk.isNone && s.mode == .doze then { s with wakeAsk := some (5, k) } else s
    if s.mode == .standby && !s.wakePin && (List.range 4).any (fun l => (s.link l).l2)
    then { (s.emit .wakeAsserted) with wakePin := true } else s

/-! ### Commands -/

/-- TB_TICK (R431). -/
def execTbTick (s : State) : Host.Outcome State Fault Refusal := .next s.tbTick

/-- TB_STEP (R432). -/
def execTbStep (s : State) : Host.Outcome State Fault Refusal := .next s.tbEdge

/-- An arrival at channel n, which a bench holds, from its input: for SRC 0 an edge of a pin of the bench that selects the
channel, which EDGE takes; for SRC 1 an event in flight that has not reached it, which it takes and which counts as rising (R442,
R446, R453, R475). -/
def State.captureHere (s : State) (n : Nat) (rise : Bool) : State :=
  let b := s.plan.capBench n
  if b.isNone then s
  else if s.bit (kCap n 0) 30 then
    match (List.range 128).find? fun c => (s.bell c).targets.contains (.capture n) with
    | some c => (s.setBell c { s.bell c with targets := (s.bell c).targets.filter (· != .capture n) }).capture n true
    | none => s
  else if (List.range 96).any fun p => s.plan.cioBench p == b && s.pinRole p == 2 && s.fld (kPin p) 3 0 == n && s.pinWorks p
  then s.captureEdge n rise else s

/-- CAPTURE (R442). -/
def execCapture (n : Fin 16) (rise : Bool) (s : State) : Host.Outcome State Fault Refusal := .next (s.captureHere n.val rise)

/-- CHANNEL_DELIVER (R446). -/
def execChannelDeliver (c : BellId) (done : Bool) (s : State) : Host.Outcome State Fault Refusal :=
  .next (s.deliver c.val done)

/-- ROUTE_CHANGE_APPLY (R450): changes whose handshakes are idle take effect; a forced one cuts the handshakes that are
still busy. -/
def execRouteChangeApply (c : BellId) (forced : Bool) (s : State) : Host.Outcome State Fault Refusal :=
  .next (if forced then s.routeForce c.val else s.routeSettle)

/-- STORM_WINDOW (R451). -/
def execStormWindow (s : State) : Host.Outcome State Fault Refusal := .next s.stormAll

/-- SOURCE_LEVEL_CHANGE (R460). -/
def execSourceLevelChange (n : SrcId) (s : State) : Host.Outcome State Fault Refusal := .next (s.srcEval n.val)

/-- INTERRUPT_OFFER (R461). -/
def execInterruptOffer (n : SrcId) (s : State) : Host.Outcome State Fault Refusal := .next (s.icOffer n.val)

/-- HOLDOFF_END (R465). -/
def execHoldoffEnd (n : SrcId) (s : State) : Host.Outcome State Fault Refusal := .next (s.holdoffEnd n.val)

/-- WATCH_WAKE (R468). -/
def execWatchWake (k : Fin 64) (s : State) : Host.Outcome State Fault Refusal := .next (s.watch k.val)

/-- PIN_FILTER_PASS (R476). -/
def execPinFilterPass (p : PinId) (level : Bool) (s : State) : Host.Outcome State Fault Refusal :=
  .next (s.pinLevel p.val level)

/-- SER_BYTE_DONE (R484). -/
def execSerByteDone (g : Fin 12) (rx : SerResult) (s : State) : Host.Outcome State Fault Refusal :=
  .next (s.serDone g.val rx)

/-- SER_BUS_TIMEOUT (R490). -/
def execSerBusTimeout (g : Fin 12) (s : State) : Host.Outcome State Fault Refusal := .next (s.serTimeout g.val)

/-- QD_SAMPLE (R485). The levels sampled are the filtered ones of the pins, which State holds (R476); the operands repeat them. -/
def execQdSample (g : Fin 12) (_a _b : Bool) (s : State) : Host.Outcome State Fault Refusal := .next (s.qdSample g.val)

/-- MX_ROW_DWELL (R486). The columns' levels are the filtered ones of their pins, which State holds (R476); the operand repeats them. -/
def execMxRowDwell (g : Fin 12) (_columns : BitVec 4) (s : State) : Host.Outcome State Fault Refusal := .next (s.mxDwell g.val)

/-- MTR_PULSE_TIMER (R487). -/
def execMtrPulseTimer (m : Fin 24) (s : State) : Host.Outcome State Fault Refusal := .next (s.mtrTimer m.val)

end Sys2Proof.Machine
end

