-- ==== Sys2Proof/Machine/Stop.lean ====
section
/-!
DEFINITION. The STOP page (R91 to R94): stopping and latching the units of a bench, the counts of halted and quiet
commands, and the release.
-/
namespace Sys2Proof.Machine

/-- Bench b's function takes memory requests: present, its link up, in D0, with Memory Space Enable set and no reset
running (R61, R67, R71). -/
def State.hostOpen (s : State) (b : Nat) : Bool :=
  let q := s.fn b
  (s.plan.bench b).present && (s.link (s.plan.bench b).link).up && !q.d3 && q.memSpace && !q.resetting

/-- A Carter channel is stopped and latched (R92, R404). -/
def State.stopChan (s : State) (c : Nat) : State :=
  let s := s.carAbort c 9
  s.setChan c { s.chan c with latched := true }

/-- A scene core or line core halts with code STOP and is latched; a stalled instruction is abandoned before its effects
(R92, R117). -/
def State.stopCore (s : State) (c : Nat) : State :=
  let s := if s.halted c then s else s.haltCore c 2
  s.setB (kCore c 4) 2 true

/-- A head and its line core are stopped and latched; the head stops as with IMMEDIATE, and an assay of it is abandoned
(R92, R314). -/
def State.stopHead (s : State) (h : Nat) : State :=
  let s := (s.headStopNow h).assayAbandon h
  let s := s.setHead h { s.head h with latched := true }
  s.stopCore (32 + h)

/-- A block engine that bench b holds is latched and stopped; a GIVE that waited for the operation clears the latch as it takes place
(R92, R373, R385, R386, R388). -/
def State.stopBlk (s : State) (b e : Nat) : State :=
  if (s.blk e).owner = some b then (s.setB (kBs e) 28 true).blkHalt e 2 else s

/-- The units of bench b among those a mask names, each stopped by an operation (R92). -/
def stopEach (mine : Nat → Bool) (op : State → Nat → State) (n mask : Nat) (s : State) : State :=
  (List.range n).foldl (fun t i => if nbit mask i && mine i then op t i else t) s

/-- Every Carter channel, scene core, head and borrowed block engine of bench b is stopped and latched (R91, R501). -/
def State.stopAll (s : State) (b : Nat) : State :=
  let s := stopEach (fun c => s.plan.carterBench c == some b) State.stopChan 64 (2 ^ 64 - 1) s
  let s := stopEach (fun c => s.plan.coreBench c == some b) State.stopCore 32 (2 ^ 32 - 1) s
  let s := stopEach (fun h => s.plan.headBench h == some b) State.stopHead 8 255 s
  stopEach (fun _ => true) (fun t e => t.stopBlk b e) 2 3 s

/-- A STOP command is counted as received (R91). -/
def State.stopAccepted (s : State) (b : Nat) : State := s.incWrap (kStop b 0x20) 23 16

/-- A STOP_CARTER command (R91, R92). -/
def State.stopCarter (s : State) (b mask : Nat) : State :=
  stopEach (fun c => s.plan.carterBench c == some b) State.stopChan 64 mask (s.stopAccepted b)

/-- A STOP_CORES command (R91, R92). -/
def State.stopCores (s : State) (b mask : Nat) : State :=
  stopEach (fun c => s.plan.coreBench c == some b) State.stopCore 32 mask (s.stopAccepted b)

/-- A STOP_UNITS command (R91, R92). -/
def State.stopUnits (s : State) (b v : Nat) : State :=
  let s := s.stopAccepted b
  if nbit v 31 then s.stopAll b
  else
    let s := stopEach (fun h => s.plan.headBench h == some b) State.stopHead 8 (v % 256) s
    stopEach (fun _ => true) (fun t e => t.stopBlk b e) 2 (v / 256 % 4) s

/-- Some unit of bench b is latched (R91). -/
def State.anyLatched (s : State) (b : Nat) : Bool :=
  (List.range 64).any (fun c => s.plan.carterBench c == some b && (s.chan c).latched)
    || (List.range 32).any (fun c => s.plan.coreBench c == some b && s.bit (kCore c 4) 2)
    || (List.range 8).any (fun h => s.plan.headBench h == some b && ((s.head h).latched || s.bit (kCore (32 + h) 4) 2))
    || (List.range 2).any (fun e => (s.blk e).owner == some b && s.bit (kBs e) 28)

/-- Every latch of bench b is released (R94); in Limp the release is refused and counts (R536). -/
def State.stopReleaseAll (s : State) (b : Nat) : State :=
  let s := stopEach (fun c => s.plan.carterBench c == some b)
    (fun t c => t.setChan c { t.chan c with latched := false }) 64 (2 ^ 64 - 1) s
  let s := stopEach (fun c => s.plan.coreBench c == some b) (fun t c => t.setB (kCore c 4) 2 false) 32 (2 ^ 32 - 1) s
  let s := stopEach (fun h => s.plan.headBench h == some b)
    (fun t h => (t.setHead h { t.head h with latched := false }).setB (kCore (32 + h) 4) 2 false) 8 255 s
  let s := stopEach (fun e => (s.blk e).owner == some b) (fun t e => t.setB (kBs e) 28 false) 2 3 s
  s.setB (kChm b 0) 26 false

/-- A write of STOP_RELEASE (R91, R94). -/
def State.stopRelease (s : State) (b v : Nat) : State :=
  if !nbit v 0 then s
  else if s.mode == .limp then s.ignoredStart b
  else s.stopReleaseAll b

/-- STOP_STATUS as it reads: LATCHED is live (R91). -/
def State.stopStatus (s : State) (b : Nat) : Word := setBit (s.rd (kStop b 0x20)) 24 (s.anyLatched b)

/-- The oldest STOP command of bench b that has not counted in HALTED has stopped all its units' requests (R93). -/
def State.stopHalted (s : State) (b : Nat) : State :=
  if s.fld (kStop b 0x20) 23 16 = s.fld (kStop b 0x20) 15 8 then s else s.incWrap (kStop b 0x20) 15 8

/-- The requests issued before a STOP have completed: QUIET counts (R93). A block engine's burst is such a request. -/
def State.stopQuiet (s : State) (b : Nat) : State :=
  let burst := (List.range 2).any fun e => (s.blk e).owner == some b && s.bit (kBs e) 28 && s.blkBusy e
  if s.fld (kStop b 0x20) 15 8 = s.fld (kStop b 0x20) 7 0 || burst then s
  else (s.incWrap (kStop b 0x20) 7 0).setB (kStop b 0x20) 25 true

/-- A 4-byte write to the STOP page (R91); reserved offsets take nothing. -/
def State.stopWord (s : State) (b off v : Nat) : State :=
  if off = 0x00 then s.stopCarter b (v % 2 ^ 32)
  else if off = 0x04 then s.stopCarter b (v % 2 ^ 32 * 2 ^ 32)
  else if off = 0x08 then s.stopCores b (v % 2 ^ 32)
  else if off = 0x0C then s.stopUnits b (v % 2 ^ 32)
  else if off = 0x10 then s.stopRelease b v
  else if off = 0x20 then s.store (kStop b 0x20) (BitVec.ofNat 32 v) 15
  else s

/-- A write of 4 or 8 bytes to the STOP page; 8 bytes to STOP_CARTER are one command (R91). -/
def State.stopWrite (s : State) (b off size v : Nat) : State :=
  if size = 4 then s.stopWord b off v
  else if off = 0 then s.stopCarter b v
  else (s.stopWord b off (v % 2 ^ 32)).stopWord b (off + 4) (v / 2 ^ 32)

/-- A 4-byte read of the STOP page: the value, and the state with RC fields cleared (R18, R91). -/
def State.stopReadWord (s : State) (b off : Nat) : Nat × State :=
  if off = 0x20 then ((s.stopStatus b).toNat, s)
  else if off = 0x24 then (s.rdN (kStop b 0x24), s.readClear (kStop b 0x24))
  else (0, s)

/-- STOP_HALTED (R93). -/
def execStopHalted (b : BenchId) (s : State) : Host.Outcome State Fault Refusal := .next (s.stopHalted b.val)

/-- STOP_QUIET (R93). -/
def execStopQuiet (b : BenchId) (s : State) : Host.Outcome State Fault Refusal := .next (s.stopQuiet b.val)

end Sys2Proof.Machine
end

