-- ==== Sys2Proof/Machine/House.lean ====
section
/-!
DEFINITION. The Counting-House (R494 to R518): the event log, mode changes, the tally and its actions, acknowledgements,
sensors and their limits, throttling, clocks and the Clerk's watchdog.
-/
namespace Sys2Proof.Machine

/-- Exactly n bytes of a list, padded with zeros. -/
def fitBytes (n : Nat) (l : List Byte) : List Byte := (l ++ List.replicate n 0).take n

/-- The present benches. -/
def State.benches (s : State) : List Nat := (List.range 4).filter fun b => (s.plan.bench b).present

/-! ### The event log (R509, R510) -/

/-- The open block as bytes: header, records, and the device signature (R509). -/
def State.logBlock (s : State) : List Byte :=
  let t := s.tally
  let head := leBytes 4 t.logNo ++ leBytes 4 t.logFirst ++ leBytes 8 t.logTb ++ fitBytes 48 t.logPrev
  let body := fitBytes 4000 (head ++ t.logOpen.flatMap id)
  body ++ fitBytes 96 (Config.deviceSign (Config.sha384 body))

/-- Where block number n stands in house flash; the area wraps (R496, R509). -/
def logAt (n : Nat) : Nat := 0x20000000 + n % 65536 * 4096

/-- The open block is sealed into flash; an empty one is not (R509). -/
def State.logSeal (s : State) : State :=
  if s.tally.logOpen.isEmpty then s
  else
    let b := s.logBlock
    let s := s.flashPut (logAt s.tally.logNo) b
    { s with tally := { s.tally with logNo := s.tally.logNo + 1, logOpen := [], logPrev := fitBytes 48 (Config.sha384 b) } }

/-- A record enters the event log; the block that it fills is sealed (R509, R510). -/
def State.logAdd (s : State) (tb seq type : Nat) (body : List Byte) : State :=
  let rec_ := leBytes 8 tb ++ leBytes 4 seq ++ leBytes 1 type ++ fitBytes 19 body
  let t := s.tally
  let t := if t.logOpen.isEmpty then { t with logTb := s.tb.toNat, logFirst := seq } else t
  let s := { s with tally := { t with logOpen := t.logOpen ++ [rec_] } }
  if 122 ≤ s.tally.logOpen.length then s.logSeal else s

/-- A record of the present moment without a SEQ. -/
def State.logNote (s : State) (type : Nat) (body : List Byte) : State := s.logAdd s.tb.toNat 0 type body

/-- A firmware event (R564): EVENT, slot, FW_VERSION and the detail. -/
def State.logFw (s : State) (event slot version : Nat) (detail : List Byte) : State :=
  s.logNote 6 (leBytes 1 event ++ leBytes 1 slot ++ leBytes 4 version ++ detail)

/-! ### Mode changes (R519, R525) -/

/-- An event bit of a bench's mailbox sets (R515). -/
def State.chmEvt (s : State) (b bit_ : Nat) : State := s.setB (kChm b 4) bit_ true

/-- Pins whose function stops in Doze and Standby run a hand-over to or from their sleep state as the mode becomes m (R488). -/
def State.pinsSleep (s : State) (m : Mode) : State :=
  let ps := (List.range 96).filter fun p => !(s.fld (kPin p) 16 15 == 0 && decide (s.pinRole p ≤ 4))
  let s := ps.foldl (fun t p => (t.serKeep p).handOver p) s
  ps.foldl (fun t p => t.joinPin p) { s with mode := m }

/-- The mode changes: pins go to or from sleep, the change is logged and every bench's MODE event sets (R488, R515, R525). TB's own mode
follows at a crystal edge (TB_STEP, R433). `extra`: the bytes from byte 16 of the record. -/
def State.setMode (s : State) (m : Mode) (cause : Nat) (extra : List Byte) : State :=
  let old := s.mode
  let sleeps (x : Mode) : Bool := x == .doze || x == .standby
  let s := if sleeps old == sleeps m then s else s.pinsSleep m
  let s := ({ s with mode := m }).logNote 3 (leBytes 1 old.code ++ leBytes 1 m.code ++ leBytes 1 cause ++ extra)
  s.benches.foldl (fun t b => t.chmEvt b 2) s

/-! ### Leaving Doze and Hold (R302, R533, R535) -/

/-- What waking does besides the change of mode: Carter channels that Doze paused resume where they are still paused, audio ramps
up, heads leave PSR or start from their held copy and retrain, and every consent is cleared (R302, R533). -/
def State.wakeUnits (s : State) : State :=
  let s := s.dozePaused.foldl (fun t c => if (t.chan c).latched || t.carState c != 3 then t else t.carResume c) s
  let s := s.audioMute false
  let s := s.dozeHeads.foldl (fun t h =>
    if t.inPsr h then t.psrWake h false
    else if (t.head h).run = 0 then (t.headLinkWake h).setHead h { t.head h with run := 1, stopAsk := 0 }
    else t.setHead h { t.head h with stopAsk := 0 }) s
  let s := (List.range 8).foldl (fun t h =>
    if !(t.head h).d3 then t
    else
      let t := t.setHead h { t.head h with d3 := false }
      if t.linkSt h = 5 then t.train h else t) s
  let s := (List.range 4).foldl (fun t b => t.setFn b { t.fn b with doze := false, wakeA := none, wakeB := none }) s
  { s with dozePaused := [], dozeHeads := [], dozeAsk := false, wakeAsk := none }

/-- The units that Hold froze go on; a line core waits for its head's next line boundary (R535). -/
def State.thaw (s : State) : State :=
  let s := s.audioMute false
  let s := s.chans.foldl (fun t e => t.carThaw e.1) s
  (List.range 2).foldl State.blkThaw s

/-- The module leaves Doze for Run with the cause of the trigger (R525, R533); TB takes its last step at the next crystal edge (R433). -/
def State.wake (s : State) (cause byte16 : Nat) : State :=
  if s.mode == .doze then (s.setMode .run cause (leBytes 1 byte16)).wakeUnits else s

/-- Hold ends (R535); an offer that a frozen core could not take is made anew (R459, R463). -/
def State.holdEnd (s : State) (cause : Nat) : State :=
  if s.mode == .hold then (s.icWithdraw.setMode .run cause []).thaw else s

/-! ### Entry to Doze (R302, R531) -/

/-- A bench consents to Doze: by DOZE_ON, or because its link is not in L0, but down or in L1 (R66, R531). -/
def State.consents (s : State) (b : Nat) : Bool :=
  let l := s.link (s.plan.bench b).link
  (s.fn b).doze || !l.up || l.l1

/-- A head on entry to Doze: Panel Self Refresh where it can enter it, else a stop at its frame end and its sink in D3, also where a
stop was asked already (R302). The heads that Doze stops start again on wake. -/
def State.dozeHead (s : State) (h : Nat) : State :=
  let q := s.head h
  let again (t : State) : State := { t with dozeHeads := t.dozeHeads ++ [h] }
  if s.inPsr h then again s
  else if q.run = 0 then s
  else if q.run = 2 && q.stopAsk = 3 then again s
  else if q.run = 2 && q.stopAsk = 0 && s.psrOk h && s.sending h && s.linkSt h == 3 then (again s).psrEnter h
  else
    let s := if q.stopAsk = 0 || q.run = 1 then (again s).headStop h else s
    (s.setHead h { s.head h with d3 := true }).sinkD3 h

/-- Entry to Doze begins when every present bench consents in Run (R531). The commands that can bring this about look for it (log 37). -/
def State.dozeBegin (s : State) : State :=
  if !(s.mode == .run) || s.dozeAsk || !s.benches.all s.consents then s
  else
    let paused := (List.range 64).filter fun c => s.carState c == 1
    let s := paused.foldl State.carPause { s with dozeAsk := true, dozePaused := paused, dozeHeads := [], wakeAsk := none }
    let s := (List.range 2).foldl (fun t e => t.blkHalt e 1) s
    let s := (List.range 8).foldl State.dozeHead s
    s.audioMute true

/-! ### Ready bits (R54) -/

/-- A ready bit of bench b returns to 1: word 0 is CORE_RDY, word 1 the functions and heads; CHANGED sets. -/
def State.readySet (s : State) (b word bit_ : Nat) : State :=
  if s.bit (kBench b (0x10 + 4 * word)) bit_ then s
  else (s.setB (kBench b (0x10 + 4 * word)) bit_ true).setB (kBench b 0x14) 30 true

/-- A fault retires a function: its ready bit drops. -/
def State.readyDrop (s : State) (b : Option Nat) (word bit_ : Nat) : State :=
  match b with
  | some b => s.setB (kBench b (0x10 + 4 * word)) bit_ false
  | none => s

/-! ### Limp (R536) -/

/-- A bench's units stop and are latched on the way into Limp; its heads go on to their safe cards (R536). -/
def State.limpStop (s : State) (b : Nat) : State :=
  let s := stopEach (fun c => s.plan.carterBench c == some b) State.stopChan 64 (2 ^ 64 - 1) s
  let s := stopEach (fun c => s.plan.coreBench c == some b) State.stopCore 32 (2 ^ 32 - 1) s
  let s := stopEach (fun h => s.plan.headBench h == some b)
    (fun t h => (t.setHead h { t.head h with latched := true }).stopCore (32 + h)) 8 255 s
  stopEach (fun _ => true) (fun t e => t.stopBlk b e) 2 3 s

/-- A head's output is blank from its next scan-beam line boundary (R536); that of a head that does not run, at once. -/
def State.blankSoon (s : State) (h : Nat) : State :=
  let q := s.head h
  s.setHead h (if q.moving then { q with blankNext := true } else { q with blank := true })

/-- The LINK_CTL of a valid card stands with the card's timing (R537). R280 copies no LINK_CTL: that the register takes the card's
word is DEDUCED (log 96). -/
def State.cardLink (s : State) (h : Nat) : State :=
  if s.cardValid h then s.wr (kHead h 0x1030) (BitVec.ofNat 32 (s.cardN (cardAt h + 44) 4) &&& 0x3F7) else s

/-- A head on the way into Limp: it blanks, and it runs on to its safe card or, its beams being stopped, in Panel Self Refresh too, starts
with the card's timing (R536). -/
def State.limpHead (s : State) (h : Nat) : State :=
  let s := s.blankSoon h
  let s := s.setHead h { s.head h with safeNext := true, stopAsk := 0 }
  if (s.head h).run = 0 && (s.head h).plugged then
    let s := if s.inPsr h then s.psrLeave h else s
    (s.cardLink h).startWith h (s.cardTiming h)
  else s

/-- Limp entry (R536): from Doze, or from the way into it, and from Hold the module wakes first. -/
def State.limpEnter (s : State) (seq : Nat) : State :=
  let s := if s.mode == .doze || s.dozeAsk then s.wakeUnits else if s.mode == .hold then s.thaw else s
  let s := s.setMode .limp 0x0A (leBytes 4 seq)
  let s := s.benches.foldl State.limpStop s
  let s := (List.range 8).foldl State.limpHead s
  { s.audioMute true with warm := false, dozeAsk := false }

/-! ### The tally (R500 to R507) -/

/-- The base level and ceiling of a class (R502). -/
def classLevels (cls : Nat) : Nat × Nat :=
  match cls with
  | 0x09 => (1, 1)
  | 0x0C => (1, 2)
  | 0x10 | 0x11 | 0x12 | 0x13 | 0x15 => (3, 3)
  | 0x14 => (2, 3)
  | 0x17 | 0x19 | 0x1E | 0x21 | 0x22 => (4, 4)
  | _ => (0, 0)

/-- Two records are of one pair (R503). -/
def Record.samePair (r : Record) (cls source : Nat) : Bool := r.cls == cls && r.source == source

/-- The level of a pair's newest unacknowledged record that is tracked, if any (R503, R505). -/
def Tally.openLevel (t : Tally) (cls source : Nat) : Option Nat :=
  (t.records.find? fun r => r.samePair cls source && !r.acked && r.tracked).map (·.level)

/-- The level a report is recorded at (R503). -/
def Tally.levelOf (t : Tally) (cls source : Nat) : Nat :=
  match t.openLevel cls source with
  | none => (classLevels cls).1
  | some l => min (classLevels cls).2 (l + 1)

/-- How many pairs have tracked unacknowledged records (R505). -/
def Tally.pairs (t : Tally) : Nat :=
  ((t.records.filter fun r => !r.acked && r.tracked).map fun r => (r.cls, r.source)).eraseDups.length

/-- The records that the tally keeps: the 32 newest, and older ones whose pair is tracked and open (R506). -/
def Tally.keep (t : Tally) : Tally :=
  { t with records := t.records.take 32 ++ (t.records.drop 32).filter fun r => r.tracked && !r.acked }

/-- A Carter channel, block engine or cache segment is out of use until Opening (R501, R503). -/
def State.unitRetire (s : State) (kind n : Nat) : State := { s with badUnits := (kind, n) :: s.badUnits.filter (· != (kind, n)) }

/-- L3: the source block is out of use, and the ready bits that depend on it drop (R501, R503). -/
def State.retireAction (s : State) (r : Report) : State :=
  let n := r.source % 256
  match r.source / 256, r.cls with
  | 0x03, _ =>
    match (List.range 8).find? fun h => h == n with
    | some h =>
      let s := { s with badEngines := NatSet.insert s.badEngines n }
      if (s.head h).engine = 8 || s.jm.handOver == some h then s else s.readyDrop (s.plan.headBench h) 1 h
    | none => { s with badEngines := NatSet.insert s.badEngines n }
  | 0x01, _ => ({ s with badCores := NatSet.insert s.badCores n }).readyDrop (s.plan.coreBench n) 0 n
  | 0x02, _ => { s with badCores := NatSet.insert s.badCores (32 + n) }
  | 0x06, _ => (s.unitRetire 6 n).readyDrop (s.plan.carterBench n) 1 9
  | 0x07, _ =>
    (s.unitRetire 7 n).benches.foldl (fun t b => if nbit (t.plan.bench b).blockLend n then t.readyDrop (some b) 1 10 else t) (s.unitRetire 7 n)
  | 0x10, _ => (s.unitRetire 0x10 n).readyDrop (if r.scope < 4 then some r.scope else none) 1 8
  | _, _ => s

/-- The stop of an L2 record (R501): the bench's mailbox raises FAULT, and its units stop and are latched, but not while its reset runs
(R517), nor in Limp, where they are stopped already (R542). -/
def State.benchStop (s : State) (b : Nat) : State :=
  if 4 ≤ b then s
  else
    let s := s.chmEvt b 0
    if (s.fn b).resetting || s.mode == .limp then s else (s.stopAll b).setB (kChm b 0) 26 true

/-- The action of a level (R501); a repeat of UNIT_STATE stops the bench as well (R518). In the closing test an L4 record sends the module
to Standby (R540): power is then taken from the main domains by the caller. -/
def State.levelAction (s : State) (r : Report) (level seq : Nat) : State :=
  match level with
  | 2 => s.benchStop r.scope
  | 3 => if r.cls = 0x14 then (s.retireAction r).benchStop r.scope else s.retireAction r
  | 4 =>
    match s.mode with
    | .opening | .run | .doze | .hold => s.limpEnter seq
    | _ => s
  | _ => s

/-- A record enters the history and the event log, and the events of the benches it concerns set (R503, R506, R510,
R515). -/
def State.recordNow (s : State) (r : Report) (level : Nat) (esc tracked : Bool) : State :=
  let t := s.tally
  let rec0 : Record := {
    tb := r.tb, seq := t.seq, cls := r.cls, source := r.source, scope := r.scope, syn := r.syn, level := level, esc := esc
    acked := false, tracked := tracked }
  let s := { s with tally := ({ t with seq := t.seq + 1, records := rec0 :: t.records }).keep }
  let s := s.logAdd r.tb t.seq 1
    (leBytes 1 r.cls ++ leBytes 1 level ++ leBytes 1 esc.toNat ++ leBytes 1 r.scope ++ leBytes 2 r.source ++ leBytes 8 r.syn)
  let hit (b : Nat) : Bool := r.scope == b || r.scope == 7
  let s := s.benches.foldl (fun u b => if hit b then u.chmEvt b 0 else u) s
  if esc && r.scope < 4 then s.chmEvt r.scope 1 else s

/-- A report is recorded and its action applied; a report marked lost has its action only (R500, R503, R505). -/
def State.takeReport (s : State) (r : Report) : State :=
  let level := s.tally.levelOf r.cls r.source
  let esc := decide ((classLevels r.cls).1 < level)
  let known := (s.tally.openLevel r.cls r.source).isSome
  let seq := s.tally.seq
  let s := if r.cls = 0x1E then { s with sense := { s.sense with pllLost := false } } else s
  let s := if r.lost then { s with tally := { s.tally with lostSyn := s.tally.lostSyn + 1 } }
    else s.recordNow r level esc (known || decide (s.tally.pairs < 256))
  s.levelAction r level seq

/-- The oldest report that waits reaches the tally (R503). -/
def State.faultReport (s : State) : State :=
  match s.tally.reports with
  | [] => s
  | r :: rest => ({ s with tally := { s.tally with reports := rest } }).takeReport r

/-- One REPORTS_LOST record counts the reports lost, once room has returned (R505). -/
def State.reportsLost (s : State) : State :=
  let full := decide (256 ≤ (s.tally.reports.filter fun r => !r.lost).length)
  if s.tally.lostSyn = 0 || full then s
  else
    let n := s.tally.lostSyn
    ({ s with tally := { s.tally with lostSyn := 0 } }).takeReport
      { tb := s.tb.toNat, cls := 0x20, source := 0x0F00, scope := 7, syn := n, lost := false }

/-- An acknowledgement by a bench (0 to 3), the service port (4) or the Clerk (5): the STATUS, and the state (R504). -/
def State.ackSeq (s : State) (who seq : Nat) : Nat × State :=
  match s.tally.records.find? fun r => r.seq == seq with
  | none => (5, s)
  | some x =>
    let may := decide (4 ≤ who) || x.scope == who || (x.scope == 7 && (s.plan.bench who).planner)
    if !may then (2, s)
    else
      let t := s.tally
      let mark (r : Record) : Record :=
        if r.samePair x.cls x.source && decide (r.seq ≤ seq) then { r with acked := true } else r
      let t := { t with records := t.records.map mark }
      (0, ({ s with tally := t.keep }).logNote 2 (leBytes 4 seq ++ leBytes 1 who))

/-- A record is seen whole by bench b: its own scope or the module's (R515). -/
def Record.seenBy (r : Record) (b : Nat) : Bool := r.scope == b || r.scope == 7

/-- Unacknowledged records of the bench's and the module's scope (R515). -/
def State.openFor (s : State) (b : Nat) : List Record := s.tally.records.filter fun r => !r.acked && r.seenBy b

/-- The record in history slot k: among the 32 newest (R506). -/
def State.histSlot (s : State) (k : Nat) : Option Record :=
  let t := s.tally
  t.records.find? fun r => r.seq % 32 == k && decide (t.seq ≤ r.seq + 32)

/-- A history entry's 32 bytes; `b`: as a bench sees it (R515). -/
def histBytes (r : Option Record) (b : Option Nat) : List Byte :=
  match r with
  | none => List.replicate 32 0
  | some r =>
    let own := match b with
      | none => true
      | some b => r.seenBy b
    if own then
      let w : Nat := 2 ^ 31 + (if r.acked then 2 ^ 29 else 0) + (if r.esc then 2 ^ 28 else 0) + r.level % 8 * 2 ^ 25
        + r.scope % 8 * 2 ^ 22 + r.cls % 256 * 2 ^ 8
      leBytes 8 r.tb ++ leBytes 4 r.seq ++ leBytes 4 w ++ leBytes 4 (r.source % 65536) ++ leBytes 4 0 ++ leBytes 8 r.syn
    else leBytes 8 0 ++ leBytes 4 r.seq ++ leBytes 4 (2 ^ 31 + 2 ^ 30) ++ leBytes 16 0

/-! ### Sensor words (R498) -/

/-- Sensor word n as every reader sees it (R498, R70). -/
def State.sensorWord (s : State) (n : Nat) : Nat :=
  if n = 0x29 then
    (if s.mode.mainOn && s.mode != .doze && !s.sense.pllLost then 1 else 0) + (if s.sense.xtalMain then 4 else 2)
  else if n = 0x30 then s.mode.code
  else if n = 0x31 then (s.tally.records.filter fun r => !r.acked).length % 65536
  else if n = 0x32 then (s.tally.records.filter fun r => !r.acked).foldl (fun m r => max m r.level) 0
  else match s.sense.words.find? fun e => e.1 == n with
    | some (_, v) => v.toNat
    | none => 0

/-- CHM_STAT of bench b as it reads (R515). -/
def State.chmStat (s : State) (b : Nat) : Nat :=
  let open_ := s.openFor b
  s.mode.code * 2 ^ 29 + (if s.unverified then 2 ^ 28 else 0) + (if s.sense.throttle = 0 then 0 else 2 ^ 27)
    + (if s.bit (kChm b 0) 26 then 2 ^ 26 else 0) + (open_.foldl (fun m r => max m r.level) 0) % 8 * 2 ^ 16
    + min 65535 open_.length

/-- A word of a bench's mailbox window as it reads (R515). -/
def State.chmRead (s : State) (b off : Nat) : Word :=
  if off = 0 then BitVec.ofNat 32 (s.chmStat b)
  else if off = 0x10 then BitVec.ofNat 32 (s.tally.seq - 1)
  else if 0x100 ≤ off && off < 0x500 then
    let e := histBytes (s.histSlot ((off - 0x100) / 32)) (some b)
    BitVec.ofNat 32 (leNat ((e.drop ((off - 0x100) % 32 / 4 * 4)).take 4))
  else if 0x800 ≤ off && off < 0x900 then BitVec.ofNat 32 (s.sensorWord ((off - 0x800) / 4))
  else s.rd (kChm b off)

/-! ### Sampling and limits (R498, R499, R585) -/

/-- The kind of a sensor word: 1 temperature, 2 rail, 3 current or power, 4 the crystal; 0 not sampled (R498). -/
def sensorKind (n : Nat) : Nat :=
  if n ≤ 0x0B then 1
  else if 0x10 ≤ n ∧ n ≤ 0x1F then 2
  else if 0x20 ≤ n ∧ n ≤ 0x23 then 3
  else if n = 0x28 then 4
  else 0

/-- A sensor reading as a number: temperatures and the crystal are signed. -/
def sensorInt (n v : Nat) : Int := if sensorKind n = 1 ∨ sensorKind n = 4 then sgn 16 v else Int.ofNat (v % 65536)

/-- The rail is powered in the present mode: the auxiliary, island, CIO and flash rails always are (R494, R499). -/
def State.railOn (s : State) (n : Nat) : Bool := s.mode.mainOn || n == 0x12 || n == 0x1D || n == 0x1E || n == 0x1F

/-- A sample is out of its sensor's range (R499). -/
def State.sampleBad (s : State) (n v : Nat) : Bool :=
  if sensorKind n = 1 then decide (sensorInt n v < -5120) || decide (19200 < sensorInt n v)
  else sensorKind n == 2 && v == 0 && s.railOn n

/-- A counter of milliseconds or samples kept by key. -/
def tableGet (t : List (Nat × Nat)) (k : Nat) : Nat := Sparse.get (fun _ => 0) t k
def tableSet (t : List (Nat × Nat)) (k v : Nat) : List (Nat × Nat) := Sparse.set (fun _ => 0) t k v

/-- The mean of the samples of a word, newest first; a quotient that is not whole rounds down or up, which the spec leaves
open (R498). -/
def State.meanOf (s : State) (n : Nat) (xs : List Nat) : Nat × State :=
  let sum := xs.foldl (fun a v => a + sensorInt n v) (0 : Int)
  let len := Int.ofNat (max 1 xs.length)
  let down := sum / len
  if sum % len = 0 then (narrow 16 down, s)
  else
    let (v, s) := s.fresh
    (narrow 16 (down + Int.ofNat (v % 2)), s)

/-- One sensor's sample (R498, R499). -/
def State.sampleOne (s : State) (n : Nat) (v : BitVec 16) : State :=
  if sensorKind n = 0 then s
  else
    let bad := s.sampleBad n v.toNat
    let old := match s.sense.samples.find? fun e => e.1 == n with
      | some (_, l) => l
      | none => []
    let xs := (v.toNat :: old).take 4
    let (mean, s) := s.meanOf n xs
    let run := if bad then min 4 (tableGet s.sense.badRun n + 1) else 0
    let was := tableGet s.sense.badRun n
    let word := if run = 4 then (if sensorKind n = 1 then 0x8000 else 0xFFFF) else mean
    let s := { s with sense := { s.sense with
      samples := Sparse.put s.sense.samples n xs
      words := Sparse.put s.sense.words n (BitVec.ofNat 16 word)
      badRun := tableSet s.sense.badRun n run } }
    if run = 4 && was < 4 then s.report 0x1B (0x0D00 + n) 7 word else s

/-- The sensor has failed. -/
def State.sensorFailed (s : State) (n : Nat) : Bool := tableGet s.sense.badRun n == 4

/-- A word reaches or passes a bound, and the sensor has not failed. -/
def State.wordAtLeast (s : State) (n : Nat) (v : Int) : Bool :=
  !s.sensorFailed n && (s.sense.words.any fun e => e.1 == n) && decide (v ≤ sensorInt n (s.sensorWord n))

/-- A limit's condition held for one more millisecond, or ended: the count, and the state (R499). The key names the limit. -/
def State.limitHeld (s : State) (key : Nat) (on : Bool) : Nat × State :=
  let n := if on then min 2000 (tableGet s.sense.held key + 1) else 0
  (n, { s with sense := { s.sense with held := tableSet s.sense.held key n } })

/-- A limit whose record, with a sensor word as its syndrome, is made when its condition has held for `ms` (R499, R507). -/
def State.limitRecordOf (s : State) (key ms cls source word : Nat) (on : Bool) : State :=
  let before := tableGet s.sense.held key
  let (n, s) := s.limitHeld key on
  if n = ms ∧ before < ms then s.report cls source 7 (s.sensorWord word) else s

/-- A limit of the sensor word that its record names. -/
def State.limitRecord (s : State) (key ms cls source : Nat) (on : Bool) : State := s.limitRecordOf key ms cls source (source % 256) on

/-- Throttling changes level; THROTTLE sets in every bench's events when it starts or ends (R515, R585). -/
def State.setThrottle (s : State) (n : Nat) : State :=
  let was := s.sense.throttle
  let s := { s with sense := { s.sense with throttle := n } }
  if (was == 0) == (n == 0) then s else s.benches.foldl (fun t b => t.chmEvt b 3) s

/-- The die junction words (R498). -/
def dieWords : List Nat := List.range 8

/-- A die is hot enough to keep throttling (R499). -/
def State.dieWarm (s : State) : Bool := dieWords.any fun n => s.wordAtLeast n (95 * 128)

/-- A current is high enough to keep throttling (R499). -/
def State.currentWarm (s : State) : Bool := s.wordAtLeast 0x20 5225 || s.wordAtLeast 0x21 2850

/-- A word is at least c degrees (R499). -/
def State.hot (s : State) (n : Nat) (c : Int) : Bool := s.wordAtLeast n (c * 128)

/-- A powered supply word lies outside a window (R499). -/
def State.outside (s : State) (n : Nat) (lo hi : Int) : Bool :=
  s.railOn n && !s.sensorFailed n && (s.sense.words.any fun e => e.1 == n)
    && (decide (sensorInt n (s.sensorWord n) < lo) || decide (hi < sensorInt n (s.sensorWord n)))

/-- A current is past its limit (R499). -/
def State.over12 (s : State) : Bool := s.wordAtLeast 0x20 5501
def State.over33 (s : State) : Bool := s.wordAtLeast 0x21 3001

/-- The limits of the die junction words: a word past both the throttle and the Limp limit is Limp (R499, R517). The keys
of the limits are the model's own. -/
def State.dieLimits (s : State) : State :=
  let s := dieWords.foldl (fun t n => t.limitRecord (0x100 + n) 1 0x17 (0x0D00 + n) (s.hot n 110)) s
  let s := dieWords.foldl (fun t n => t.limitRecord (0x200 + n) 1 0x16 (0x0D00 + n) (s.hot n 100 && !s.hot n 110)) s
  s.limitRecord 0x700 1 0x17 0x0D00 (dieWords.all s.sensorFailed)

/-- The limits of the memory packages, the regulator and the inlet (R499). -/
def State.boardLimits (s : State) : State :=
  let s := { s with sense := { s.sense with refresh2 := s.hot 8 85 || s.hot 9 85 } }
  let s := s.limitRecord 0x308 1 0x17 0x0D08 (s.hot 8 105)
  let s := s.limitRecord 0x309 1 0x17 0x0D09 (s.hot 9 105)
  let s := s.limitRecord 0x30B 1 0x17 0x0D0B (s.hot 0x0B 125)
  s.limitRecord 0x30A 1 0x16 0x0D0A (s.wordAtLeast 0x0A (45 * 128 + 1))

/-- The limits of the slot's supplies and currents (R499). -/
def State.supplyLimits (s : State) : State :=
  let s := s.limitRecord 0x410 10 0x18 0x0D10 (s.outside 0x10 11040 12960)
  let s := s.limitRecord 0x411 10 0x18 0x0D11 (s.outside 0x11 3003 3597)
  let s := s.limitRecord 0x412 10 0x18 0x0D12 (s.outside 0x12 3003 3597)
  let s := s.limitRecord 0x520 1 0x1A 0x0D20 s.over12
  let s := s.limitRecord 0x521 1 0x1A 0x0D21 s.over33
  s.limitRecord 0x600 1000 0x19 (if s.over12 then 0x0D20 else 0x0D21) (s.over12 || s.over33)

/-- The limit of the main crystal (R499). -/
def State.crystalLimit (s : State) : State :=
  let ppm := sensorInt 0x28 (s.sensorWord 0x28)
  s.limitRecordOf 0x800 100 0x1C 0x0E02 0x28 (decide (200 < ppm) || decide (ppm < -200))

/-- Throttling starts on THERM_HOT or POWER_LIMIT, and ends at once when the end condition of each that occurred is met (R499, R585, R588).
A word past the Limp limit as well makes no THERM_HOT (R517). -/
def State.throttleLimits (s : State) : State :=
  let q := s.sense
  let hot := if q.hotOn then s.dieWarm else dieWords.any fun n => s.hot n 100 && !s.hot n 110
  let power := if q.powerOn then s.currentWarm else s.over12 || s.over33
  let s := { s with sense := { q with hotOn := hot, powerOn := power } }
  if hot || power then (if q.throttle = 0 then s.setThrottle 1 else s)
  else if q.throttle = 0 then s
  else s.setThrottle 0

/-- Every limit that is tested against the words each millisecond (R499). -/
def State.sensorLimits (s : State) : State :=
  ((((s.dieLimits).boardLimits).supplyLimits).crystalLimit).throttleLimits

/-- The millisecond's samples: words follow, and every limit is tested (R498, R499). -/
def State.sensorSample (s : State) (xs : List (Nat × BitVec 16)) : State :=
  if s.mode == .noPower then s else (xs.foldl (fun t e => t.sampleOne e.1 e.2) s).sensorLimits

/-- A further 100 ms in which the throttling condition holds, that which starts throttling: DEDUCED (R585). -/
def State.throttleStep (s : State) : State :=
  let holds := (dieWords.any fun n => s.hot n 100) || s.over12 || s.over33
  if s.sense.throttle = 0 || !holds then s else s.setThrottle (min 3 (s.sense.throttle + 1))

/-- The root PLL is out of lock for 1 µs: every head blanks, as on entry to Limp, and Limp follows with the record, by which time
the PLL has locked again (R499). -/
def State.clockLoss (s : State) : State :=
  if !s.mode.mainOn || s.mode == .doze then s
  else
    let s := (List.range 8).foldl State.blankSoon { s with sense := { s.sense with pllLost := true } }
    s.report 0x1E 0x0E00 7 (s.sensorWord 0x29)

/-- No 32.768 kHz edge for 1 ms: low-frequency stepping runs from the main crystal (R499). -/
def State.lfXtal (s : State) : State :=
  if s.mode == .noPower || s.sense.xtalMain then s
  else
    let s := { s with sense := { s.sense with xtalMain := true } }
    s.report 0x1D 0x0E01 7 (s.sensorWord 0x29)

/-! ### Sessions and the Clerk (R497, R548) -/

/-- A reply leaves the port (R546, R551). -/
def State.reply (s : State) (cmd : Nat) (f : Frame) (status : Nat) (payload : List Byte) : State :=
  s.emit (.tapin cmd f.tag.toNat f.session.toNat status payload)

/-- A HOLD that waits for the end of an entry to Doze is dropped with its session (R531, R535). -/
def State.holdDrop (s : State) : State :=
  match s.after with
  | some (.hold _) => { s with after := none }
  | _ => s

/-- The end of the service session (R548, R562): an open patch is abandoned, a card write ends, and Hold ends. -/
def State.sessionEnd (s : State) (reason : Nat) : State :=
  match s.port.session with
  | none => s
  | some _ =>
    let s := match s.port.patch with
      | some (slot, _) => s.logFw 5 slot (s.flashN (slot * 0x8000000 + 0x7FFF008) 4) []
      | none => s
    let s := ({ s with port := { s.port with session := none, patch := none, stream := [], card := none, waiting := none } }).holdDrop
    (s.logFw 2 0xFF 0 (leBytes 1 reason)).holdEnd 9

/-- The island resets the Clerk and reloads its firmware (R497): its snapshot clears (R434), a session ends, and the third
restart within 10 s of TB is CLERK_FAIL. -/
def State.clerkRestart (s : State) : State :=
  if s.mode == .noPower || s.slot.isNone then s
  else
    let now := s.tb.toNat
    let recent := (s.clerkRestarts.filter fun t => decide (now < t + 960000000)) ++ [now]
    let s := { s.resetCore 40 with clerkUp := false, clerkRestarts := recent, snaps := s.snaps.filter fun e => e.1 != 40 }
    let s := (s.sessionEnd 5).dozeBegin
    let s := s.report 0x1F 0x0F00 7 recent.length
    if 3 ≤ recent.length then s.report 0x21 0x0F00 7 recent.length else s

/-- A usable checkpoint is entered in the event log, with the CRC of its first block (R329, R510): where that block is not
sealed yet its CRC is open. -/
def State.ckptDone (s : State) (h : Nat) : State :=
  let j := s.journal h
  if !j.ckptRun then s
  else
    let s := s.ckptEnd h
    let (crc, s) := match s.blockOf h j.ckptSeq with
      | some a => (s.loadN (a + 28) 4, s)
      | none => s.fresh
    s.logNote 4 (leBytes 1 h ++ leBytes 4 j.ckptSeq ++ leBytes 4 crc)

/-- SENSOR_SAMPLE (R498). -/
def execSensorSample (samples : List (Fin 64 × BitVec 16)) (s : State) : Host.Outcome State Fault Refusal :=
  .next (s.sensorSample (samples.map fun e => (e.1.val, e.2)))

/-- THROTTLE_STEP (R585). -/
def execThrottleStep (s : State) : Host.Outcome State Fault Refusal := .next s.throttleStep

/-- CLOCK_LOSS (R499). -/
def execClockLoss (s : State) : Host.Outcome State Fault Refusal := .next s.clockLoss

/-- LF_XTAL (R499). -/
def execLfXtal (s : State) : Host.Outcome State Fault Refusal := .next s.lfXtal

/-- CLERK_WATCHDOG (R497). -/
def execClerkWatchdog (s : State) : Host.Outcome State Fault Refusal := .next s.clerkRestart

/-- REPORTS_LOST (R505). -/
def execReportsLost (s : State) : Host.Outcome State Fault Refusal := .next s.reportsLost

/-- LOG_BLOCK_SEAL (R509). -/
def execLogBlockSeal (s : State) : Host.Outcome State Fault Refusal := .next s.logSeal

/-- CKPT_END (R329). -/
def execCkptEnd (h : HeadId) (s : State) : Host.Outcome State Fault Refusal := .next (s.ckptDone h.val)

end Sys2Proof.Machine
end

