-- ==== Sys2Proof/Machine/Reset.lean ====
section
/-!
DEFINITION. Resets and the host links (R39 to R46, R58 to R68, R120, R368, R374, R453, R469, R489): what a reset of a
bench's scope does to each kind of unit, how it ends, ready bits, link and configuration events, PTM, the slot SMBus.
-/
namespace Sys2Proof.Machine

/-! ### A bench's registers (R60) -/

/-- A shared device register, which no reset of one bench clears: the queue manager's, PORT domains and AUD_SWAP, block
engines, the time base, the interrupt controller and pins' shared words, memory system, mailboxes. -/
def sharedReg (k : Nat) : Bool :=
  (decide (0x3000080000 ≤ k) && decide (k < 0x3000100000)) || (decide (0x3003070000 ≤ k) && decide (k < 0x3003420000))
    || (decide (0x3003600000 ≤ k) && decide (k < 0x3003601000)) || (decide (0x3003610000 ≤ k) && decide (k < 0x3003621000))
    || decide (0x3003700000 ≤ k)

/-- Registers of a head's daybook that a reset leaves (R334): ENGINE, ASSAY, DB_STAT, SEQ, CKPT and GAP, by offset; DB_CTL,
the DRAIN registers and the WATCH registers return to reset. -/
def journalKeeps (off : Nat) : Bool := decide (0x10000 ≤ off) && off != 0x10010 && decide (off < 0x10028)

/-- A register that keeps its value until a reset of the head's bench ends: the head, its engine window and audio. -/
def lateReg (k : Nat) : Bool := decide (0x3001000000 ≤ k) && decide (k < 0x3003060000) || decide (0x3003060100 ≤ k) && decide (k < 0x3003400000)

/-- A register a reset of bench b returns to its reset value as the reset begins (R60, R120, R368, R406, R453). Its mailbox's CHM_EVT
and CHM_EVT_EN count as the bench's own registers, and STOPPED follows them (DESIGN CHOICE, log 94: the Counting-House lies outside every
bench's scope). -/
def State.resetsNow (s : State) (b k : Nat) : Bool :=
  (decide (kBench b 0 ≤ k) && decide (k < kBench b 0x10000)) || (decide (kStop b 0 ≤ k) && decide (k < kStop b 0x1000))
    || (decide (kMem b 0 ≤ k) && decide (k < kMem b 0x10000) && k != kMarch b)
    || k == kChm b 4 || k == kChm b 8 || k == bankKey (b + 1) (kIc 0x2308)
    || (decide (k < 0x4000000000) && !sharedReg k && !lateReg k && s.devAt b k == .held)

/-- A register of bench b's heads or audio units, which its reset returns to the reset value as it ends; palette RAM and the
journal's own registers stay (R198, R334, R368). -/
def State.resetsLate (s : State) (b k : Nat) : Bool :=
  (decide (k < 0x4000000000) && lateReg k && s.devAt b k == .held && !sharedReg k
    && !(decide (0x3001000000 ≤ k) && decide (k < 0x3002000000) && decide (0x10000 ≤ k % 0x100000) && decide (k % 0x100000 < 0x20000))
    && !(decide (0x3002000000 ≤ k) && decide (k < 0x3003000000) && journalKeeps (k % 0x100000)))
    || k == bankKey (b + 1) (kDomain 0) || k == bankKey (b + 1) (kDomain 1)

/-! ### What a reset does to each unit -/

/-- The memory that a reset with SCRUB zero-fills (R62). -/
def State.scrubUnits (s : State) (b : Nat) : List FillUnit :=
  let p := s.plan.bench b
  ((List.range 128).filterMap fun g => if s.plan.granBench g == some b then some (.granule (Fin.ofNat 128 g)) else none)
    ++ (bitList 28 p.scratchPages).map (fun i => .scratch (Fin.ofNat 28 i))
    ++ (bitList 32 p.sceneCores).map (fun c => .workspace (Fin.ofNat 32 c))

/-- A block engine when bench b is reset (R374): a holder's operation ends with STATUS RESET (code 6) and the engine is
freed; a wish and a grant are cleared. -/
def State.resetBlk (s : State) (b e : Nat) : State :=
  let q := s.blk e
  let s := s.setBlk e { q with
    want := if nbit q.want b then q.want - 2 ^ b else q.want
    granted := if nbit q.granted b then q.granted - 2 ^ b else q.granted }
  if (s.blk e).owner ≠ some b then s
  else if s.blkBusy e then (s.setBlk e { s.blk e with giving := true }).blkHalt e 6
  else (s.clearRegs (kBlk e 4) 0xFFFC).blkFree e

/-- A pin when its bench is reset: a hand-over to the reset configuration (R489). -/
def State.resetPin (s : State) (p : Nat) : State :=
  let s := (s.handOver p).clearRegs (kPin p) 4
  [0x210, 0x220, 0x230].foldl (fun t o => t.setB (kCio (o + 4 * (p / 32))) (p % 32) false) s

/-- A cabinet unit whose anchor pin is reset: FIFOs empty, units at rest; a pulse that has begun completes (R487, R489). -/
def State.resetUnits (s : State) (b : Nat) : State :=
  let s := (List.range 12).foldl (fun t g =>
    let t := if t.pinBench (8 * g) == some b then (t.setSer g Ser.reset).setMx g CioUnit.reset else t
    if t.pinBench (8 * g + 4) == some b then t.setQd g CioUnit.reset else t) s
  (List.range 24).foldl (fun t m =>
    let p := 8 * (m / 2) + 6 + m % 2
    let q := t.mtr m
    if t.pinBench p != some b then t
    else if q.phase = 0 then t.setMtr m Meter.reset
    else t.setMtr m { q with
      left := 1, through := if q.through.isSome then q.through else some (t.bit (kPin p) 17, t.bit (kPin p) 18) }) s

/-- The channels of bench b, and those whose handshakes are busy among the channels of its route changes that wait (R453). -/
def State.bellsOf (s : State) (b : Nat) : List Nat := (List.range 128).filter fun c => s.plan.bellBench c == some b
def State.bellCuts (s : State) (b : Nat) : List Nat :=
  (s.routes.flatMap fun e => if (s.routeChans e.1.1 e.1.2 e.2).any fun c => s.plan.bellBench c == some b then s.routeBusy e else []).eraseDups

/-- Bench b's Bellwire channels when it is reset, after the changes of its routes are forced at once: registers at reset, and ROUTE_CUT on
the channels that this cut (R453, R454). -/
def State.resetBells (s : State) (b : Nat) (cuts : List Nat) : State :=
  let s := (s.bellsOf b).foldl (fun t c => (t.clearRegs (kCh c 0) 0x10).setBell c Bell.reset) s
  cuts.foldl (fun t c => t.setB (kCh c 4) 28 true) s

/-- Every route change of bench b's channels is forced (R453). -/
def State.routesDrop (s : State) (b : Nat) : State :=
  { s with routes := s.routes.filter fun e => !((s.routeChans e.1.1 e.1.2 e.2).any fun c => s.plan.bellBench c == some b) }

/-- Interrupt sources, watch slots and groups when a bench is reset (R469). -/
def State.resetIc (s : State) (b : Nat) : State :=
  let mine := (List.range 628).filter fun n => s.srcBench n == some b
  let s := mine.foldl (fun t n =>
    ((t.setSrc n Source.reset).clearRegs (kIc (8 * n)) 8).setB (kIc (0x2000 + 4 * (n / 32))) (n % 32) false) s
  let s := s.clearRegs (kIc (0x2400 + 64 * b)) 64
  let s := (List.range 64).foldl (fun t g => if t.groupMine (some b) g then t.clearRegs (kIc (0x2200 + 4 * g)) 4 else t) s
  s.icWithdraw

/-- Audio units when a bench is reset: voices ramp as KILL does and output channels ramp to silence, one that ramps or is silent
already going on as it is (R368). -/
def State.resetAudio (s : State) (b : Nat) : State :=
  let s := s.liveVoices.foldl (fun t v => if t.voiceHolder v == some b then t.voiceKill v else t) s
  let outs := (List.range 96).filter fun c => s.outBench c == some b && !s.audio.ramps.any fun r => r.1 == c
  { s with audio := { s.audio with ramps := outs.foldl (fun r c => Sparse.put r c 0) s.audio.ramps } }

/-- The configuration bits that PCI Express resets, and what a reset of the scope begins (R60, R62). What a function-level
reset leaves is PCI Express's own list (PRESUMED, log 7): Max_Payload_Size, the link's power control, and the sticky bits of
AER, among them the errors logged. -/
def State.resetFn (s : State) (b : Nat) : State :=
  let q := s.fn b
  s.setFn b { q with
    resetting := true, d3 := false, busMaster := false, memSpace := false, msixOn := false, fnMask := false
    ptmOn := false, devCtl := (q.devCtl &&& 0x00E0) ||| 0x2810, devCtl2 := 0, bar0 := 0, bar2 := 0, bar4 := 0
    fills := q.fills ++ if (s.plan.bench b).scrub then (s.scrubUnits b).filter fun u => !q.fills.contains u else [] }

/-- Units of bench b that D3hot and Closing disable (R33, R67, R539): Carter, cores, heads, rings, block engines, which keep their registers
as an ABORT leaves them, and audio. -/
def State.unitsOff (s : State) (b : Nat) : State :=
  let s := (List.range 64).foldl (fun t c => if t.plan.carterBench c == some b then t.carAbort c 10 else t) s
  let s := (List.range 32).foldl (fun t c =>
    if t.plan.coreBench c == some b && !t.halted c then t.haltCore c 1 else t) s
  let s := (List.range 8).foldl (fun t h =>
    if t.plan.headBench h == some b then
      let t := (t.headStopNow h).assayAbandon h
      if t.halted (32 + h) then t else t.haltCore (32 + h) 1
    else t) s
  let s := (List.range 2).foldl (fun t e => if (t.blk e).owner == some b then t.blkHalt e 1 else t) s
  let s := (List.range (s.plan.bench b).rings).foldl (fun t d =>
    if t.ringOn (t.plan.ringFirst b + d) then t.setB (kRing (t.plan.ringFirst b + d) 8) 31 false else t) s
  s.resetAudio b

/-- A reset of bench b's scope begins (R60, R62, R120, R453, R469, R489). What was committed and has not latched is discarded (R265,
R274). -/
def State.resetStart (s : State) (b : Nat) : State :=
  let forced := s.bellCuts b
  let s := ((s.routesDrop b).resetAudio b).resetIc b
  let s := (List.range 8).foldl (fun t h =>
    if t.plan.headBench h == some b then ((t.setF (kCommit h) 7 0 0).headStopNow h).assayAbandon h else t) s
  let cores := ((List.range 32).filter fun c => s.plan.coreBench c == some b)
    ++ ((List.range 8).filter fun h => s.plan.headBench h == some b).map (32 + ·)
  let s := cores.foldl State.resetCore s
  let s := (List.range 2).foldl (fun t e => t.resetBlk b e) s
  let s := s.resetUnits b
  let s := (List.range 96).foldl (fun t p => if t.plan.cioBench p == some b then t.resetPin p else t) s
  let s := s.resetBells b forced
  let cuts := s.regs.filter fun e => decide (kCh 0 0 ≤ e.1) && decide (e.1 < kCh 128 0)
  let s := s.marchAbort b 5
  let s := s.setF (kMarch b) 30 0 0
  let s := { s with
    regs := Sparse.clear (s.resetsNow b) s.regs
    chans := Sparse.clear (fun c => s.plan.carterBench c == some b) s.chans
    ringCache := Sparse.clear (fun g => s.plan.ringBench g == some b) s.ringCache
    ringNow := Sparse.clear (fun g => s.plan.ringBench g == some b) s.ringNow
    cmps := Sparse.clear (fun n => s.plan.cmpBench n == some b) s.cmps
    caps := Sparse.clear (fun n => s.plan.capBench n == some b) s.caps
    snaps := Sparse.clear (fun r => r == 41 + b || cores.contains r) s.snaps
    dozePaused := s.dozePaused.filter fun c => s.plan.carterBench c != some b }
  let s := cuts.foldl (fun t e => if s.plan.bellBench ((e.1 - kCh 0 0) / 16) == some b then t.wr e.1 e.2 else t) s
  ((s.setB (kChm b 0) 26 false).resetFn b).icWithdraw

/-! ### The end of a reset (R54, R62) -/

/-- A head as the end of its bench's reset leaves it: registers at reset, TYPE as its strap read (R304), the engine that
serves it kept (R60, R307), the running origins at (0, 0) (log 100); a sink that stayed plugged in is trained. -/
def State.resetHead (s : State) (h : Nat) : State :=
  let s := if (s.head h).run = 0 then s else s.beamsStopAll h
  let q := s.head h
  s.setHead h { Head.reset h with
    engine := q.engine, engineBad := q.engineBad, safeNext := q.safeNext, plugged := q.plugged, fnum := q.fnum, d3 := q.d3
    teLevel := q.teLevel, flkLevel := q.flkLevel }

/-- TYPE of a head's LINK_CTL at reset is what its strap last read (R304, R575). -/
def State.typeReset (s : State) (h : Nat) : State := s.setB (kHead h 0x1030) 0 (nbit s.straps h)

/-- What follows once the registers of a head are at reset. -/
def State.resetHeadRegs (s : State) (h : Nat) : State :=
  let s := s.typeReset h
  if (s.head h).plugged then (s.setB (kHead h 0x1034) 16 true).train h else s

/-- A fill that waits keeps a ready bit at 0: bit 13 ASSET, 14 SCRATCH, or a core's (R62). -/
def State.fillHolds (s : State) (b : Nat) (p : FillUnit → Bool) : Bool := (s.fn b).fills.any p

def FillUnit.isGranule : FillUnit → Bool
  | .granule _ => true
  | _ => false
def FillUnit.isScratch : FillUnit → Bool
  | .scratch _ => true
  | _ => false
def FillUnit.isWork (c : Nat) : FillUnit → Bool
  | .workspace d => d.val == c
  | _ => false

/-- A scene core is usable: neither it nor the bank of its workspace is marked failed (R511, R513). -/
def State.coreWhole (s : State) (c : Nat) : Bool := !s.badCores.contains c && !s.badBanks.contains (c / 4)

/-- The ready map's word and bit of a function (R53). -/
def fnPlace : ReadyFn → Nat × Nat
  | .core c => (0, c.val)
  | .head h => (1, h.val)
  | .queue => (1, 8)
  | .carter => (1, 9)
  | .block => (1, 10)
  | .audio => (1, 11)
  | .bellwire => (1, 12)
  | .scratch => (1, 14)
  | .mailbox => (1, 15)

/-- A bench of the plan holds the function (R54). -/
def fnHeld (p : BenchPlan) : ReadyFn → Bool
  | .core c => nbit p.sceneCores c.val
  | .head h => nbit p.heads h.val
  | .queue => p.rings != 0
  | .carter => p.carter != 0
  | .block => p.blockLend != 0
  | .audio => p.voiceCount + p.toneCount + p.mixBuses + p.tdmPorts != 0
  | .bellwire => p.cmp + p.cap + p.bell + p.cio != 0
  | .scratch => p.scratchPages != 0
  | .mailbox => true

/-- Nothing of bench b's function is marked failed or has been retired (R501, R511, R513, R526). -/
def State.fnWhole (s : State) (b : Nat) : ReadyFn → Bool
  | .core c => s.coreWhole c.val
  | .head h => !s.badHeads.contains h.val
  | .queue => !s.badUnits.contains (0x10, Config.cacheSegment b % 256)
  | .carter => !(List.range 64).any fun c => s.plan.carterBench c == some b && s.badUnits.contains (6, c)
  | .block => !(List.range 2).any fun e => nbit (s.plan.bench b).blockLend e && s.badUnits.contains (7, e)
  | .scratch => !(bitList 28 (s.plan.bench b).scratchPages).any fun i => s.badBanks.contains (8 + i / 4)
  | .audio | .bellwire | .mailbox => true

/-- No fill of bench b's function is left (R62). -/
def State.fnFilled (s : State) (b : Nat) : ReadyFn → Bool
  | .core c => !s.fillHolds b (FillUnit.isWork c.val)
  | .scratch => !s.fillHolds b FillUnit.isScratch
  | _ => true

/-- The step of Opening in which a function becomes ready (R526). -/
def fnStep : ReadyFn → Nat
  | .audio => 8
  | .head _ => 9
  | _ => 6

/-- Every function. -/
def readyFns : List ReadyFn :=
  [.queue, .mailbox, .bellwire, .carter, .block, .scratch] ++ (List.range 32).map (fun c => .core (Fin.ofNat 32 c)) ++ [.audio]
    ++ (List.range 8).map fun h => .head (Fin.ofNat 8 h)

/-- Function f of bench b reads ready, or it is not held or never will be ready. -/
def State.fnDone (s : State) (b : Nat) (f : ReadyFn) : Bool :=
  !fnHeld (s.plan.bench b) f || !s.fnWhole b f || s.bit (kBench b (0x10 + 4 * (fnPlace f).1)) (fnPlace f).2

/-- Every step of Opening before step k is complete for bench b (R526, R527). -/
def State.stepsDone (s : State) (b k : Nat) : Bool :=
  (readyFns.all fun f => decide (k ≤ fnStep f) || s.fnDone b f)
    && (decide (k ≤ 7) || (s.plan.bench b).granules == 0 || s.bit (kBench b 0x14) 13)

/-- A full Opening whose check has not ended (R526). -/
def State.checking (s : State) : Bool := s.mode == .opening && !s.warm && s.closeStep == 0

/-- ASSET returns once no fill of a granule is left and the reset has completed (R62), after an Opening in its step's turn (R527). -/
def State.assetReady (s : State) (b : Nat) : State :=
  if (s.ordered.contains b && !s.stepsDone b 7) || (s.plan.bench b).granules = 0 || (s.fn b).resetting || s.fillHolds b FillUnit.isGranule then s else s.readySet b 1 13

/-- A reset of bench b completes: the heads' and audio registers are at reset, the function answers, ready bits return as
their functions report (R54, R62, R68). -/
def State.resetEnd (s : State) (b : Nat) : State :=
  let heads := (List.range 8).filter fun h => s.plan.headBench h == some b
  let s := heads.foldl State.resetHead s
  let by_ (f : Plan → Option Nat) : Bool := f s.plan == some b || f s.audPlan == some b
  let voice (v : Nat) (p : Plan) : Option Nat := if v < 1024 then p.voiceBench v else p.toneBench (v - 1024)
  let a := s.audio
  let s := { s with
    regs := Sparse.clear (s.resetsLate b) s.regs
    audio := { a with
      before := none
      voices := Sparse.clear (fun v => by_ (voice v)) a.voices
      active := Sparse.clear (s.resetsLate b) a.active
      swaps := a.swaps.filter fun w => s.itemBench w.1 w.2 != some b
      eq := Sparse.clear (fun k => by_ fun p => p.busBench (k / 8)) a.eq
      gains := Sparse.clear (fun k => by_ fun p => p.busBench (k / 2)) a.gains
      routes := Sparse.clear (fun c => by_ fun p => p.outBench c) a.routes
      sides := Sparse.clear (fun t => by_ fun p => p.tdmBench (t / 8)) a.sides
      lines := Sparse.clear (fun c => by_ fun p => p.outBench c) a.lines
      limits := Sparse.clear (fun k => by_ fun p => p.outBench (2 * k)) a.limits
      ramps := Sparse.clear (fun c => by_ fun p => p.outBench c) a.ramps } }
  let s := heads.foldl State.resetHeadRegs s
  let s := heads.foldl State.drainRewind s
  (s.setFn b { s.fn b with resetting := false }).assetReady b

/-- A unit's fill ends: its memory is zero with valid check bits, and its ready bit may return (R62). -/
def State.fillDone (s : State) (b : Nat) (u : FillUnit) : State :=
  let q := s.fn b
  if !q.fills.contains u then s
  else
    let s := match u with
      | .granule g => s.zeroFill (g.val * 0x40000000) 0x40000000
      | .scratch p => s.zeroFill (0x2000200000 + p.val * 0x10000) 0x10000
      | .workspace c => s.zeroFill (0x2000000000 + c.val * 0x10000) 0x10000
    let s := s.setFn b { q with fills := q.fills.filter (· != u) }
    let past := !q.resetting && (s.link (s.plan.bench b).link).up
    match u with
    | .granule _ => if past then s.assetReady b else s
    | .scratch _ => if past && !s.fillHolds b FillUnit.isScratch
        && !(bitList 28 (s.plan.bench b).scratchPages).any (fun i => s.badBanks.contains (8 + i / 4)) then s.readySet b 1 14 else s
    | .workspace c => if past && s.coreWhole c.val then s.readySet b 0 c.val else s

/-- The safe card of head h is copied from flash to the house working area (R526, R537, R561). -/
def State.cardCopy (s : State) (h : Nat) : State :=
  let mine (e : Host.Cell) : Bool := decide (cardAt h ≤ e.1) && decide (e.1 < cardAt (h + 1))
  { s with cards := (s.cards.filter fun e => decide (e.1 < cardAt h)) ++ s.flash.filter mine
      ++ s.cards.filter fun e => decide (cardAt (h + 1) ≤ e.1) }

/-- In a full Opening a head's safe card is copied in the step in which the head becomes ready (R526). -/
def State.stepNine (s : State) : ReadyFn → State
  | .head h => if s.mode == .opening && !s.warm then s.cardCopy h.val else s
  | _ => s

/-- A function of bench b reports ready (R54, R62, R526, R527): it is held, its link is up, no reset runs, no fill of it is left and it is
not marked failed. From an Opening on, until all of the bench's functions are ready, they become so in the order of Opening's steps. -/
def State.reportReady (s : State) (b : Nat) (f : ReadyFn) : State :=
  let p := s.plan.bench b
  let inOrder := s.ordered.contains b
  if !p.present || !s.mode.mainOn || s.checking || (s.fn b).resetting || !(s.link p.link).up then s
  else if !fnHeld p f || !s.fnWhole b f || !s.fnFilled b f || (inOrder && !s.stepsDone b (fnStep f)) then s
  else
    let s := s.stepNine f
    let s := s.readySet b (fnPlace f).1 (fnPlace f).2
    let s := if inOrder then s.assetReady b else s
    if inOrder && s.stepsDone b 10 then { s with ordered := s.ordered.filter (· != b) } else s

/-- BENCH_READY1.ALL (R54): every function the bench holds is ready. -/
def State.readyAll (s : State) (b : Nat) : Bool :=
  let p := s.plan.bench b
  let r := s.rdN (kBench b 0x14)
  let need (held : Bool) (bit_ : Nat) : Bool := !held || nbit r bit_
  p.present && s.rdN (kBench b 0x10) == p.sceneCores && r % 256 == p.heads
    && need (p.rings != 0) 8 && need (p.carter != 0) 9 && need (p.blockLend != 0) 10
    && need (p.voiceCount + p.toneCount + p.mixBuses + p.tdmPorts != 0) 11
    && need (p.cmp + p.cap + p.bell + p.cio != 0) 12 && need (p.granules != 0) 13 && need (p.scratchPages != 0) 14
    && nbit r 15

/-! ### Links (R42, R43, R68) -/

/-- A link that the plan creates. -/
def State.linkExists (s : State) (l : Nat) : Bool :=
  match linksOf s.plan.linkCfg with
  | some n => decide (l < n)
  | none => false

/-- The configuration bits that only a reset of the whole link returns to their reset values (PRESUMED, PCI Express, log 7). -/
def State.resetLinkFn (s : State) (b : Nat) : State :=
  s.setFn b { s.fn b with devCtl := 0x2810, l1On := false, l11On := false, l12On := false }

/-- A bench is reset with its link (R60): as by a function-level reset, and the link's own configuration with it. -/
def State.resetByLink (s : State) (b : Nat) : State := (s.resetStart b).resetLinkFn b

/-- A link goes down: every bench on it is reset (R60). -/
def State.linkDown (s : State) (l : Nat) : State :=
  if !(s.link l).up then s
  else (s.linkBenches l).foldl State.resetByLink (s.setLink l Link.reset)

/-- A link as PERST# leaves it: down, and in L2 where its host had taken it there. No command says so, so which it is is free
(log 7). -/
def State.linkPark (s : State) (l : Nat) : State :=
  if !(s.link l).up then s
  else
    let (v, s) := s.fresh
    s.setLink l { Link.reset with l2 := nbit v 0 }

/-- Every link goes down (R60, R68). -/
def State.linksDown (s : State) : State := (List.range 4).foldl State.linkDown s

/-- A hot reset, or a link lost (R60, R68): the benches reset, an L0 note, and the link retrains. -/
def State.hotReset (s : State) (l : Nat) : State :=
  if !(s.link l).up then s else (s.linkDown l).report 0x01 (0x0A00 + l) 7 0

/-- The links train: PERST# is released and the main domains are on, outside Closing (R68, R523). -/
def State.linksTrain (s : State) : Bool := !s.perst && s.mode.mainOn && s.mode != .closing

/-- Lane i of link l is excluded: the links take the module's four lanes in their order (R39, R511; the order is the model's, log 107). -/
def State.laneBad (s : State) (l i : Nat) : Bool := nbit s.badLanes (((List.range l).map (linkWidth s.plan.linkCfg)).sum + i)

/-- Link l can train k lanes wide: from its first lane up, or, reversed, from its last lane down, without an excluded one (R39, R40, R511;
PRESUMED, PCI Express, log 7). -/
def State.widthFits (s : State) (l k : Nat) : Bool :=
  let n := linkWidth s.plan.linkCfg l
  decide (k ≤ n) && ((List.range k).all (fun i => !s.laneBad l i) || (List.range k).all fun i => !s.laneBad l (n - 1 - i))

/-- The width a link trains to where the other end offers `w` lanes: the widest of x4, x2 and x1 up to what the plan and the lanes in use
give it (R39, R511); none where not one lane is left. -/
def State.trainedWidth (s : State) (l w : Nat) : Option Nat := [4, 2, 1].find? fun k => decide (k ≤ w) && s.widthFits l k

/-- A link reaches L0: its benches' resets complete, and a link narrower or slower than its plan adds a note (R39, R43, R68).
The note's syndrome, width × 256 + rate code, is the model's choice: no chapter gives a link a status word (log 7). -/
def State.linkUp (s : State) (l width rate : Nat) : State :=
  if !s.linksTrain || !s.linkExists l || (s.link l).up then s
  else match s.trainedWidth l width with
    | none => s
    | some w =>
      let s := s.setLink l { Link.reset with up := true, width := w, rate := rate }
      let s := (s.linkBenches l).foldl State.resetEnd s
      if w < linkWidth s.plan.linkCfg l || rate < 5 then s.report 0x01 (0x0A00 + l) 7 (w * 256 + rate) else s

/-- 100 ms more without L0 (R68). -/
def State.linkTimeout (s : State) (l : Nat) : State :=
  if s.linksTrain && s.linkExists l && !(s.link l).up then s.report 0x01 (0x0A00 + l) 7 0 else s

/-- The slot reference clock is absent for 10 µs: every link goes down (R68). -/
def State.refclkLoss (s : State) : State := (List.range 4).foldl State.hotReset s

/-- A function notices a link error: an ECRC error only where its ECRC checking is enabled (R40). -/
def Fn.notices (q : Fn) (kind : TlpError) : Bool := kind != .ecrc || q.ecrcChk

/-- A link error is logged in every function on the link that notices it (R68). -/
def State.linkError (s : State) (l : Nat) (kind : TlpError) : State :=
  if !(s.link l).up then s
  else (s.linkBenches l).foldl (fun t b =>
    if (t.fn b).notices kind then t.setFn b { t.fn b with aer := kind :: (t.fn b).aer } else t) s

/-- A host's configuration of a function is reachable: its link is up, no reset runs and Closing has not begun (R61, R62, R67, R519). -/
def State.configOpen (s : State) (b : Nat) : Bool :=
  s.mode != .closing && (s.plan.bench b).present && (s.link (s.plan.bench b).link).up && !(s.fn b).resetting

/-- A function-level reset (R60); one during a reset of the bench is absorbed (R61). -/
def State.flr (s : State) (b : Nat) : State := if s.configOpen b then s.resetStart b else s

/-- A function-level reset completes (R62). -/
def State.flrDone (s : State) (b : Nat) : State :=
  if (s.plan.bench b).present && (s.fn b).resetting && (s.link (s.plan.bench b).link).up then s.resetEnd b else s

/-- D3hot is entered: the bench's functions are disabled as by a function-level reset (R67). -/
def State.d3Enter (s : State) (b : Nat) : State :=
  if !s.configOpen b || (s.fn b).d3 then s
  else
    let s := s.unitsOff b
    s.setFn b { s.fn b with d3 := true }

/-- D3hot to D0 is a reset, since No_Soft_Reset reads 0 (R60). -/
def State.d3Leave (s : State) (b : Nat) : State :=
  if s.configOpen b && (s.fn b).d3 then s.resetStart b else s

/-- ASPM L1 is entered only when every function on the link enables it and no head of a bench on the link is enabled; a head
in PSR or stopped by Doze counts as not enabled (R66, R531). Of the substates that every function enables, the deepest is used
(R40, R66). -/
def State.aspmL1 (s : State) (l : Nat) : State :=
  let bs := s.linkBenches l
  let live := (List.range 8).any fun h =>
    (match s.plan.headBench h with
      | some b => bs.contains b
      | none => false) && (s.head h).run != 0
  if !(s.link l).up || bs.isEmpty || live || !bs.all fun b => (s.fn b).l1On then s
  else
    let all (p : Fn → Bool) : Bool := bs.all fun b => p (s.fn b)
    s.setLink l { s.link l with l1 := true, sub := if all (·.l12On) then 2 else if all (·.l11On) then 1 else 0 }

/-! ### MSI-X and PTM (R63 to R65) -/

/-- A host changes what holds its messages back: a vector's mask, Function Mask or Bus Master Enable (R63). -/
def State.msixAct (s : State) (b : Nat) (act : MsixAct) : State :=
  if !s.configOpen b then s
  else
    let s := match act with
      | .vector v =>
        if s.hostOpen b then s.setB (kBench b (0x800C + 16 * v.val)) 0 false else s
      | .functionMask m => s.setFn b { s.fn b with fnMask := m }
      | .busMaster on =>
        let s := if on then s else s.carsIssue b
        s.setFn b { s.fn b with busMaster := on }
    s.msixFlush b

/-- A PTM measurement runs: REQ reads 1 (R64). -/
def State.ptmRuns (s : State) (b : Nat) : Bool := s.bit (kBench b 0x40) 0

/-- A measurement fails: FAIL sets and the results stay (R65). -/
def State.ptmFail (s : State) (b : Nat) : State := (s.setB (kBench b 0x40) 0 false).setB (kBench b 0x40) 1 true

/-- A measurement starts, and fails at once while PTM is disabled or TB is in low-frequency mode (R64, R65). -/
def State.ptmStart (s : State) (b : Nat) : State :=
  if s.ptmRuns b then s
  else
    let s := s.setB (kBench b 0x40) 0 true
    if !(s.fn b).ptmOn || s.tbLf then s.ptmFail b else s

/-- A write of PTM_CTL (R53, R64). -/
def State.ptmWrite (s : State) (b : Nat) (v : Word) (be : Nat) : State :=
  let s := s.store (kBench b 0x40) v be
  if nbit be 0 && nbit v.toNat 0 then s.ptmStart b else s

/-- PERIOD ms have passed (R64). -/
def State.ptmPeriod (s : State) (b : Nat) : State :=
  if s.fld (kBench b 0x40) 31 16 = 0 then s else s.ptmStart b

/-- A measurement ends: the results change together and SEQ increments (R64, R65). -/
def State.ptmEnd (s : State) (b tbReq master prop : Nat) : State :=
  if !s.ptmRuns b then s
  else if !(s.fn b).ptmOn || s.tbLf then s.ptmFail b
  else
    let s := (s.wr64 (kBench b 0x48) tbReq).wr64 (kBench b 0x50) master
    let s := (s.wrN (kBench b 0x58) prop).wr64 (kBench b 0x60) (tbReq + (prop * 96 + 500) / 1000)
    ((s.setB (kBench b 0x40) 0 false).setB (kBench b 0x40) 2 true).incWrap (kBench b 0x40) 15 8

/-- FUNCTION_LEVEL_RESET (R60). -/
def execFunctionLevelReset (b : BenchId) (s : State) : Host.Outcome State Fault Refusal := .next (s.flr b.val)

/-- FLR_COMPLETE (R62). -/
def execFlrComplete (b : BenchId) (s : State) : Host.Outcome State Fault Refusal := .next (s.flrDone b.val)

/-- A granule that awaits Opening's own fill, which comes in its turn (R528). -/
def State.openingFill (s : State) : FillUnit → Bool
  | .granule g => s.openFills.contains g.val
  | _ => false

/-- SCRUB_FILL_DONE (R62). -/
def execScrubFillDone (b : BenchId) (unit : FillUnit) (s : State) : Host.Outcome State Fault Refusal :=
  .next (if s.openingFill unit then s else s.fillDone b.val unit)

/-- D3HOT_ENTRY (R67). -/
def execD3hotEntry (b : BenchId) (s : State) : Host.Outcome State Fault Refusal := .next (s.d3Enter b.val)

/-- D3HOT_TO_D0 (R60). -/
def execD3hotToD0 (b : BenchId) (s : State) : Host.Outcome State Fault Refusal := .next (s.d3Leave b.val)

/-- LINK_UP (R68). -/
def execLinkUp (l : LinkId) (width : Fin 5) (rate : Fin 6) (s : State) : Host.Outcome State Fault Refusal :=
  .next (s.linkUp l.val width.val rate.val)

/-- LINK_TRAIN_TIMEOUT (R68). -/
def execLinkTrainTimeout (l : LinkId) (s : State) : Host.Outcome State Fault Refusal := .next (s.linkTimeout l.val)

/-- PCIE_ERROR_TLP (R68). -/
def execPcieErrorTlp (l : LinkId) (kind : TlpError) (s : State) : Host.Outcome State Fault Refusal :=
  .next (s.linkError l.val kind)

/-- MSIX_VECTOR_UNMASK (R63). -/
def execMsixVectorUnmask (b : BenchId) (act : MsixAct) (s : State) : Host.Outcome State Fault Refusal :=
  .next (s.msixAct b.val act)

/-- PTM_PERIOD_TIMER (R64). -/
def execPtmPeriodTimer (b : BenchId) (s : State) : Host.Outcome State Fault Refusal := .next (s.ptmPeriod b.val)

/-- PTM_MEASUREMENT_END (R64). -/
def execPtmMeasurementEnd (b : BenchId) (tbReq master : Double) (prop : Word) (s : State) : Host.Outcome State Fault Refusal :=
  .next (s.ptmEnd b.val tbReq.toNat master.toNat prop.toNat)

/-- PTM_TIMEOUT (R65). -/
def execPtmTimeout (b : BenchId) (s : State) : Host.Outcome State Fault Refusal :=
  .next (if s.ptmRuns b.val then s.ptmFail b.val else s)

/-- SMBUS_READ_WORD (R70): at the plan's address, Read Word of command bytes 0x00 to 0x3F; everything else there is not
acknowledged, and another address is another device's. -/
def execSmbusReadWord (call : SmbusCall) (cmd : Byte) (s : State) : Host.Outcome State Fault Refusal :=
  .next (if s.mode == .noPower || call.addr.toNat != s.plan.smbusAddr then s
    else s.emit (.smbus (if call.write || 0x40 ≤ cmd.toNat then none else some (s.sensorWord cmd.toNat))))

/-- SMBUS_TIMEOUT (R68): the interface resets; a transfer is one command here, so nothing is left of it. -/
def execSmbusTimeout (s : State) : Host.Outcome State Fault Refusal := .next s

/-- FUNCTION_REPORTS_READY (R526). -/
def execFunctionReportsReady (b : BenchId) (f : ReadyFn) (s : State) : Host.Outcome State Fault Refusal :=
  .next (s.reportReady b.val f)

end Sys2Proof.Machine
end

