-- ==== Sys2Proof/Machine/Boot.lean ====
section
/-!
DEFINITION. Firmware slots, the boot ROM's choice and the settings copies (R551 to R564): what a start of the island does.
-/
namespace Sys2Proof.Machine

/-! ### Slot records (R553) -/

/-- Flash offset of slot i (R496). -/
def slotAt (i : Nat) : Nat := i * 0x8000000

/-- Flash offset of slot i's record. -/
def slotRecAt (i : Nat) : Nat := slotAt i + 0x7FFF000

/-- The record of slot i holds its MAGIC and CRC. -/
def State.slotValid (s : State) (i : Nat) : Bool :=
  s.flashN (slotRecAt i) 4 == 0x534C4F54 && s.flashN (slotRecAt i + 12) 4 == crc32c (s.flashBytes (slotRecAt i) 12)

/-- STATE of slot i: 0 EMPTY, 1 STAGED, 2 TRIAL, 3 GOOD, 4 BAD. -/
def State.slotState (s : State) (i : Nat) : Nat :=
  let v := s.flashN (slotRecAt i + 4) 1
  if s.slotValid i && decide (v ≤ 4) then v else 0

/-- TRIES of slot i. -/
def State.slotTries (s : State) (i : Nat) : Nat := if s.slotValid i then s.flashN (slotRecAt i + 5) 1 else 0

/-- PREFERRED of slot i. -/
def State.slotPref (s : State) (i : Nat) : Bool := s.slotValid i && s.flashN (slotRecAt i + 6) 1 == 1

/-- FW_VERSION of slot i's record, as its bytes stand. -/
def State.slotVersion (s : State) (i : Nat) : Nat := s.flashN (slotRecAt i + 8) 4

/-- A slot record written (R553). -/
def State.slotWrite (s : State) (i st tries : Nat) (pref : Bool) (version : Nat) : State :=
  let b := leBytes 4 0x534C4F54 ++ leBytes 1 st ++ leBytes 1 tries ++ leBytes 1 pref.toNat ++ leBytes 1 0 ++ leBytes 4 version
  s.flashPut (slotRecAt i) (b ++ leBytes 4 (crc32c b))

/-- STATE and TRIES of a slot's record changed. -/
def State.slotSet (s : State) (i st tries : Nat) : State := s.slotWrite i st tries (s.slotPref i) (s.slotVersion i)

/-- PREFERRED of a slot's record changed. -/
def State.slotPrefer (s : State) (i : Nat) (pref : Bool) : State :=
  s.slotWrite i (s.slotState i) (s.slotTries i) pref (s.slotVersion i)

/-- The slot that is tried first: A where both or neither is preferred (R553). -/
def State.slotFirst (s : State) : Nat := if s.slotPref 1 && !s.slotPref 0 then 1 else 0

/-- The image of slot i: LENGTH and whether its signature verifies (R552). -/
def State.imageSigned (s : State) (i : Nat) : Bool :=
  let len := s.flashN (slotAt i + 8) 4
  decide (64 ≤ len) && decide (len ≤ 134213536)
    && Config.releaseVerify (s.flashBytes (slotAt i) len) (s.flashBytes (slotAt i + len) 96)

/-! ### Plan images (R560) -/

/-- n bytes of a list from an offset, as a number. -/
def atN (bs : List Byte) (off n : Nat) : Nat := leNat ((bs.drop off).take n)

/-- A bench record of a plan image (R560). -/
def benchOfImage (r : List Byte) : BenchPlan :=
  { present := nbit (atN r 0 1) 0
    planner := nbit (atN r 0 1) 1
    scrub := nbit (atN r 0 1) 2
    link := atN r 1 1 % 4
    func := atN r 1 1 / 4 % 4
    heads := atN r 2 1
    sceneCores := atN r 4 4
    scratchPages := atN r 8 4 % 2 ^ 28
    rings := atN r 12 2
    blockLend := atN r 14 1 % 4
    granules := atN r 15 1
    carter := atN r 16 8
    voiceFirst := atN r 24 2
    voiceCount := atN r 26 2
    toneFirst := atN r 28 1
    toneCount := atN r 29 1
    mixBuses := atN r 32 8
    tdmPorts := atN r 40 1 % 16
    cmp := atN r 48 8
    cap := atN r 56 2
    bell := atN r 64 16
    cio := atN r 80 12
    headBw := (List.range 8).map fun h => if nbit (atN r 2 1) h then atN r (96 + 2 * h) 2 else 0 }

/-- The plan that an image holds; none for a malformed image (R560). -/
def planOfImage (bs : List Byte) : Option Plan :=
  let crc := crc32c (bs.take 28 ++ List.replicate 4 0 ++ bs.drop 32)
  if bs.length = 544 ∧ atN bs 0 4 = 0x504C414E ∧ atN bs 4 2 = 1 ∧ atN bs 28 4 = crc
      ∧ atN bs 10 1 % 4 ≠ 3 ∧ atN bs 11 1 % 4 ≠ 3 then
    some {
      version := 1
      linkCfg := atN bs 6 1 % 8
      linkClock := atN bs 7 1
      smbusAddr := atN bs 8 1
      houseGranules := atN bs 9 1
      portASrc := atN bs 10 1
      portBSrc := atN bs 11 1
      benches := (List.range 4).map fun b => benchOfImage ((bs.drop (32 + 128 * b)).take 128) }
  else none

/-- Flash offsets of the current plan's image and of a staged one: the area is R496's, the places in it the model's (DESIGN CHOICE,
log 86). -/
def planAt : Nat := 0x32000000
def stagedAt : Nat := 0x32200000

/-- The plan that house flash holds, where its image is whole and passes the checks of R57 (R59). -/
def State.flashPlan (s : State) : Option Plan :=
  match planOfImage (s.flashBytes planAt 544) with
  | some p => if p.refusal.isNone then some p else none
  | none => none

/-- The plan that Opening takes (R59): the one in flash, or the shipped plan with an L0 note where none is valid. -/
def State.planLoad (s : State) : State :=
  match s.flashPlan with
  | some p => { s with plan := p }
  | none => ({ s with plan := shippedPlan }).report 0x02 0x0F00 7 0

/-! ### Closing records and the retired-page list (R496, R511, R512) -/

/-- Flash offset of the closing record with a SEQ: 256 bytes each, wrapping. The area is R496's, the places in it, and the layout that
closingBytes gives a record, are the model's (DESIGN CHOICE, log 107). -/
def closingAt (seq : Nat) : Nat := 0x31000000 + seq % 65536 * 256

/-- A closing record (R512): what it holds, with pass bits where the test's result has failing ones, its CRC-32C and its
signature, and a byte that reads 0xFF until an Opening marks the record as read. -/
def State.closingBytes (s : State) (r : ClosingResult) (pages : Nat) : List Byte :=
  let pass (w bad : Nat) : Nat := 2 ^ w - 1 - bad % 2 ^ w
  let slot := match s.slot with
    | some i => i
    | none => 0xFF
  let body := leBytes 4 s.closingNo ++ leBytes 8 s.tb.toNat ++ leBytes 1 slot ++ leBytes 1 r.segments.val ++ leBytes 2 (pass 16 r.banks.toNat)
    ++ leBytes 4 (pass 32 r.cores.toNat) ++ leBytes 2 (pass 9 r.engines.toNat) ++ leBytes 1 (pass 8 r.lines.toNat)
    ++ leBytes 1 (pass 8 r.heads.toNat) ++ leBytes 1 (pass 4 r.lanes.toNat) ++ leBytes 3 0 ++ leBytes 4 pages
  let head := body ++ leBytes 4 (crc32c body)
  head ++ fitBytes 96 (Config.deviceSign (Config.sha384 head)) ++ List.replicate 124 0xFF

/-- A closing record is written (R512). -/
def State.closingWrite (s : State) (r : ClosingResult) (pages : Nat) : State := s.flashPut (closingAt s.closingNo) (s.closingBytes r pages)

/-- The newest closing record is marked as read, and counts no more (R512). -/
def State.closingRead (s : State) : State :=
  match s.closing with
  | some _ => ({ s with closing := none }).flashPut (closingAt s.closingNo + 132) [0]
  | none => s

/-! ### Boot (R558, R559) -/

/-- A boot event waits for the firmware to log it (R559, R564). -/
def State.bootNote (s : State) (event slot detail : Nat) : State :=
  { s with bootLog := s.bootLog ++ [(event, slot, detail)] }

/-- The boot ROM tries slot i (R558): whether it boots. -/
def State.bootTry (s : State) (i : Nat) : Bool × State :=
  let s := if s.slotState i = 2 ∧ 2 ≤ s.slotTries i then (s.slotSet i 4 (s.slotTries i)).bootNote 8 i 0 else s
  let st := s.slotState i
  if st = 0 ∨ st = 4 then (false, s)
  else if s.imageSigned i then
    let s := if st = 3 then s else s.slotSet i 2 (s.slotTries i + 1)
    (true, { s.bootNote 6 i (s.slotTries i) with slot := some i })
  else
    let s := (s.slotSet i 4 (s.slotTries i)).bootNote 7 i 0
    (false, (s.slotPrefer i false).slotPrefer (1 - i) true)

/-- Every bank in TEST, the spare's among them, or none (R422, R428). -/
def State.banksTest (s : State) (on : Bool) : State := s.setF (kMemAll 0x68) 31 16 (if on then 0xFFFF else 0)

/-- A start of the island (R558): the loader enters Service, where every bank reads TEST (R538), where neither slot boots. Boot events that
no firmware has logged yet still wait (R559). -/
def State.boot (s : State) : State :=
  let s := { s.resetCore 40 with bootTb := s.tb, slot := none, clerkUp := false, settings := none, ran := false }
  let first := s.slotFirst
  match s.bootTry first with
  | (true, s) => s
  | (false, s) =>
    match s.bootTry (1 - first) with
    | (true, s) => s
    | (false, s) => (s.setMode .service 0x0E []).banksTest true

/-! ### Settings (R562, R563) -/

/-- Flash offset of settings copy i (R562). -/
def settingsAt (i : Nat) : Nat := 0x30000000 + i * 0x800000
/-- VERSION, GEN and LENGTH of a settings copy. -/
def State.settingsVersion (s : State) (i : Nat) : Nat := s.flashN (settingsAt i + 4) 2
def State.settingsGen (s : State) (i : Nat) : Nat := s.flashN (settingsAt i + 8) 4
/-- The body of a settings copy. -/
def State.settingsBody (s : State) (i : Nat) : List Byte := s.flashBytes (settingsAt i + 32) (s.flashN (settingsAt i + 12) 4)
/-- CONFIRMED of a settings copy. -/
def State.settingsConfirmed (s : State) (i : Nat) : Bool := s.flashN (settingsAt i + 6) 1 == 1
/-- A settings copy whose CRCs both verify. -/
def State.settingsValid (s : State) (i : Nat) : Bool :=
  s.flashN (settingsAt i + 28) 4 == crc32c (s.flashBytes (settingsAt i) 28)
    && s.flashN (settingsAt i + 16) 4 == crc32c (s.settingsBody i)

/-- A settings copy written. -/
def State.settingsWrite (s : State) (i version gen : Nat) (confirmed : Bool) (body : List Byte) : State :=
  let h := leBytes 4 0x53455454 ++ leBytes 2 version ++ leBytes 1 confirmed.toNat ++ leBytes 1 0 ++ leBytes 4 gen
    ++ leBytes 4 body.length ++ leBytes 4 (crc32c body) ++ leBytes 8 0
  s.flashPut (settingsAt i) (h ++ leBytes 4 (crc32c h) ++ body)

/-- The copy that firmware of settings version v takes (R563). -/
def State.settingsPick (s : State) (v : Nat) : Option Nat :=
  let ok (i : Nat) : Bool := s.settingsValid i && decide (s.settingsVersion i ≤ v)
  if ok 0 && (!ok 1 || decide (s.settingsGen 1 ≤ s.settingsGen 0)) then some 0 else if ok 1 then some 1 else none

/-- The firmware takes, migrates or creates its settings (R451, R563). The GEN of defaults is not stated. -/
def State.settingsStart (s : State) (v : Nat) : State :=
  match s.settingsPick v with
  | some i =>
    if s.settingsVersion i = v then { s with settings := some i, stormLimit := Config.settingsStorm (s.settingsBody i) }
    else
      let old := s.settingsVersion i
      let body := Config.settingsMigrate v (s.settingsBody i)
      let s := s.settingsWrite (1 - i) v (s.settingsGen i + 1) false body
      let s := { s with settings := some (1 - i), stormLimit := Config.settingsStorm body }
      s.bootNote 0x0A 0xFF (old + v * 65536)
  | none =>
    let i := if s.settingsGen 1 < s.settingsGen 0 then 1 else 0
    let (gen, s) := s.fresh
    { s.settingsWrite i v gen false (Config.settingsDefault v) with settings := some i, stormLimit := 1000000 }

/-- A settings commit (R563): in place while unconfirmed, else into the other copy, one generation on. -/
def State.settingsSave (s : State) : State :=
  match s.settings with
  | none => s
  | some i =>
    let v := s.settingsVersion i
    let body := Config.settingsCommit v s.stormLimit (s.settingsBody i)
    if s.settingsConfirmed i then
      { s.settingsWrite (1 - i) v (s.settingsGen i + 1) true body with settings := some (1 - i) }
    else s.settingsWrite i v (s.settingsGen i) false body

/-- The copy in use is confirmed (R563). -/
def State.settingsConfirm (s : State) : State :=
  match s.settings with
  | none => s
  | some i =>
    let v := s.settingsVersion i
    if s.settingsConfirmed i then s
    else
    let s := s.settingsWrite i v (s.settingsGen i) true (s.settingsBody i)
    s.logFw 0x0B 0xFF 0 (leBytes 2 v)

/-- The image of slot i is loaded to the start of the Counting-House SRAM, as much of it as the SRAM holds (R494, R497; log 105). -/
def State.imageLoad (s : State) (i : Nat) : State :=
  let n := min (s.flashN (slotAt i + 8) 4) 0x100000
  { s with sram :=
      (s.flash.filter fun e => decide (slotAt i ≤ e.1) && decide (e.1 < slotAt i + n)).map (fun e => (e.1 - slotAt i, e.2))
        ++ s.sram.filter fun e => decide (n ≤ e.1) }

/-- The Clerk's firmware runs (R497, R559): its image is loaded, boot events are logged and the Clerk stands at its entry. -/
def State.firmwareRuns (s : State) : State :=
  match s.slot with
  | none => s
  | some i =>
    if s.clerkUp || s.mode == .noPower then s
    else
      let s := s.settingsStart (s.flashN (slotAt i + 12) 2)
      let note (t : State) (e : Nat × Nat × Nat) : State :=
        let d := if e.1 = 0x0A then leBytes 2 (e.2.2 % 65536) ++ leBytes 2 (e.2.2 / 65536) else if e.1 = 6 then leBytes 1 e.2.2 else []
        t.logFw e.1 e.2.1 (if e.2.1 = 0xFF then 0 else t.slotVersion e.2.1) d
      let s := s.bootLog.foldl note s
      let s := (s.imageLoad i).setPc 40 (sramBase + s.flashN (slotAt i + 16) 4)
      { s with clerkUp := true, bootLog := [] }

/-- A TRIAL slot becomes GOOD when Run is entered with cause OPENED (R558). -/
def State.slotGood (s : State) : State :=
  match s.slot with
  | none => s
  | some i =>
    if s.slotState i = 2 then (s.slotSet i 3 (s.slotTries i)).logFw 9 i (s.slotVersion i) [] else s

/-- The auxiliary rail comes up (R431, R520, R558). -/
def State.auxUp (s : State) : State :=
  if s.mode == .noPower || (s.mode == .standby && s.slot.isNone && !s.clerkUp) then
    let s := { s with tb := 0, tbLf := true, tbStepNo := 0, snaps := [], armed := true }
    (s.setMode .standby 1 []).boot
  else s

/-- The auxiliary rail falls (R565): everything but flash, and what flash holds, is lost. The closing record of a Closing that this cuts, or
that an Opening under way has marked read, is not there for the next (R540, R542). -/
def State.auxDown (s : State) : State :=
  let s := if s.mode == .opening || s.mode == .closing then s.closingRead else s
  { State.reset with
    pending := s.pending, flash := s.flash, mode := .noPower, plan := s.plan, staged := s.staged, retired := s.retired
    closing := s.closing, closingNo := s.closingNo, sent := s.sent, free := s.free, perst := s.perst
    tally := { Tally.reset with logNo := s.tally.logNo, logPrev := s.tally.logPrev }
    port := { Port.reset with lastNo := s.port.lastNo } }

/-- AUX_POWER_UP (R520). -/
def execAuxPowerUp (s : State) : Host.Outcome State Fault Refusal := .next s.auxUp

/-- FIRMWARE_RUNNING (R559). -/
def execFirmwareRunning (s : State) : Host.Outcome State Fault Refusal := .next s.firmwareRuns

/-- AUX_POWER_LOSS (R565). -/
def execAuxPowerLoss (s : State) : Host.Outcome State Fault Refusal := .next s.auxDown

end Sys2Proof.Machine
end

