-- ==== Sys2Proof/Machine/Modes.lean ====
section
/-!
DEFINITION. The modes (R519 to R543): PERST#, Opening and warm opening, Doze, Hold, Limp, Closing, and the loss of main
power.
-/
namespace Sys2Proof.Machine

/-! ### Requests that wake the module (R533, R534) -/

/-- A trigger of Doze's end: it wakes a dozing module, and one during entry waits for entry to complete (R531, R533). -/
def State.wakeBy (s : State) (cause byte16 : Nat) : State :=
  if s.mode == .doze then s.wake cause byte16
  else if s.dozeAsk && s.wakeAsk.isNone then { s with wakeAsk := some (cause, byte16) } else s

/-- A request arrives at a BAR of bench b's function: a dozing module wakes and then serves it (R533, R534). -/
def State.hostArrive (s : State) (b : Nat) : State :=
  let q := s.fn b
  if (s.plan.bench b).present && (s.link (s.plan.bench b).link).up && q.memSpace && !q.d3
  then (s.linkWake b).wakeBy 7 b else s

/-- A command on the service port wakes the module (R549, R533); its cause code is not stated. -/
def State.portWake (s : State) : State :=
  if s.mode == .doze || s.dozeAsk then
    let (c, s) := s.fresh
    s.wakeBy (1 + c % 15) 0
  else s

/-! ### Main power (R519, R522) -/

/-- A register that keeps its value while the main domains are off: Bellwire with its pins and interrupt controller, the
mailboxes, the scrub position, the Clerk's window, each bench's IC_STAT. -/
def auxReg (k : Nat) : Bool :=
  (decide (0x3003600000 ≤ k) && decide (k < 0x3003700000)) || k == kMemAll 0x18
    || (decide (0x3003800000 ≤ k) && decide (k < 0x3003804000))
    || (decide (kWin 40 0 ≤ k) && decide (k < kWin 41 0))
    || (List.range 4).any fun b => k == bankKey (b + 1) (kIc 0x2308)

/-- The main domains lose power and the module is in Standby: nothing on the raster die outside the island survives, and no command of the
service port is in progress any longer (R519, R522, R528, R539, R549). -/
def State.mainOff (s : State) (cause : Nat) (extra : List Byte) : State :=
  let s := (s.setMode .standby cause extra).icWithdraw
  { s with
    regs := Sparse.clear (fun k => !auxReg k) s.regs
    cores := Sparse.clear (fun c => decide (c < 40)) s.cores
    mem := [], marks := [], flaws := [], cards := [], links := Sparse.clear (fun l => (s.link l).up || !(s.link l).l2) s.links
    fns := [], heads := [], journals := [], jm := Journeyman.reset, ringCache := [], ringNow := []
    blks := [], chans := [], marches := [], rot := Rotation.reset, watches := [], retiring := [], ueSeen := []
    audio := Audio.reset, testBy := none, warm := false, closeStep := 0, dozeAsk := false, dozeHeads := []
    dozePaused := [], wakeAsk := none, after := none, openFills := [], port := { s.port with waiting := none } }

/-- Main power is removed with PERST# asserted, or after the fall of a rail that entered Limp (R522). In Opening the closing record is
already marked read, and in Closing there is none (R540, R542). -/
def State.powerRemoved (s : State) : State :=
  if s.mode.mainOn then
    (if s.perst || s.mode == .limp then
      let t := if s.mode == .opening || s.mode == .closing then s.closingRead else s
      { t.mainOff 0x0D [] with railsIn := false }
    else s)
  else { s with railsIn := false }

/-- A supply comparator trips (R499, R522): words 0x10 and 0x11 are the main rails. -/
def State.supplyTrip (s : State) (n : Nat) : State :=
  if !(n == 0x10 || n == 0x11 || (decide (0x13 ≤ n) && decide (n ≤ 0x1F))) || !s.railOn n || s.mode == .noPower then s
  else if n ≤ 0x11 && s.perst then s.powerRemoved
  else s.report 0x19 (0x0D00 + n) 7 (s.sensorWord n)

/-- Both main rails return into their windows (R521). -/
def State.railsReturn (s : State) : State :=
  if s.mode == .noPower || s.railsIn then s
  else { s with railsIn := true, armed := s.armed || s.mode == .standby }

/-! ### Plans (R58, R119, R120) -/

/-- Units of bench b that the new plan moves to it and that are zero-filled before they are ready (R58, R119). -/
def Plan.movedTo (old new : Plan) (b : Nat) : List FillUnit :=
  ((List.range 128).filterMap fun g =>
    if new.granBench g == some b && old.granBench g != some b then some (.granule (Fin.ofNat 128 g)) else none)
    ++ ((bitList 28 (new.bench b).scratchPages).filter fun i => !((old.bench b).present && nbit (old.bench b).scratchPages i)).map
      (fun i => .scratch (Fin.ofNat 28 i))
    ++ ((bitList 32 (new.bench b).sceneCores).filter fun c => old.coreBench c != some b).map (fun c => .workspace (Fin.ofNat 32 c))

/-- A unit of a fill lies in bench b's allotment. -/
def State.fillMine (s : State) (b : Nat) : FillUnit → Bool
  | .granule g => s.plan.granBench g.val == some b
  | .scratch i => (s.plan.bench b).present && nbit (s.plan.bench b).scratchPages i.val
  | .workspace c => s.plan.coreBench c.val == some b

/-- A head that passes to another bench: its line memory and palette RAM are zero (R120, R198). -/
def State.headMoved (s : State) (h : Nat) : State :=
  let s := (s.zeroFill (0x2001000000 + h * 0x10000) 0x8000).clearRegs (kPe h 0x10000) 0x10000
  { s with marks := s.marks.filter fun k => !(decide (kPe h 0x10000 ≤ k) && decide (k < kPe h 0x20000)) }

/-- The staged plan takes effect (R58). -/
def State.planApply (s : State) : State :=
  match s.staged with
  | none => s
  | some p =>
    let old := s.plan
    let moved := (List.range 8).filter fun h => p.headBench h != old.headBench h
    let s := ({ s with plan := p, staged := none, audio := { s.audio with before := some old } }).flashPut planAt (s.flashBytes stagedAt 544)
    let s := moved.foldl State.headMoved s
    let s := (List.range 4).foldl (fun t b =>
      let q := t.fn b
      let kept := q.fills.filter (t.fillMine b)
      let scrub := if (p.bench b).scrub then t.scrubUnits b else []
      t.setFn b { q with fills := (kept ++ old.movedTo p b ++ scrub).eraseDups }) s
    let (c, s) := s.fresh
    s.logNote 5 (leBytes 2 p.version ++ leBytes 1 c)

/-- A strap as its 16 samples read it, a tie as 1 (R575). -/
def strapRead (samples : Nat) : Bool := decide (8 ≤ ((List.range 16).filter (nbit samples)).length)

/-- The straps of the display connectors are read (R575); no command gives their levels, so that the samples are free (log 11). -/
def State.strapsRead (s : State) : State :=
  let (a, s) := s.fresh
  let (b, s) := s.fresh
  let v := a % 2 ^ 64 + b % 2 ^ 64 * 2 ^ 64
  { s with straps := maskOf ((List.range 8).filter fun h => strapRead (v / 2 ^ (16 * h) % 2 ^ 16)) }

/-! ### Hold (R535) -/

/-- Hold is entered from Run (R535): the Carter reads that have issued by now drain, the frozen cores lose their offers (R459),
and TB's mode follows at a crystal edge (R433). -/
def State.holdStart (s : State) : State :=
  if !(s.mode == .run) then s
  else
    let s := (List.range 64).foldl State.carIssue s
    let s := (s.setMode .hold 8 []).icWithdraw
    let s := (List.range 8).foldl (fun t h =>
      if t.halted (32 + h) then t else t.setCore (32 + h) { t.core (32 + h) with frozen := true }) s
    s.audioMute true

/-! ### Closing (R539, R540) -/

/-- An on-request test or rotation is running (R514, R516). -/
def State.testRuns (s : State) : Bool := s.jm.testing.isSome || s.rot.phase != 0

/-- Step 3 of Closing, once every head has stopped: the benches' units are off, rings stop, the links go down, and the test
begins, every bank in TEST (R422, R539). -/
def State.closeUnits (s : State) : State :=
  if !(s.mode == .closing) || s.closeStep ≠ 1 || (List.range 8).any (fun h => (s.head h).run != 0) then s
  else
    let s := (s.benches.foldl State.unitsOff s).linksDown
    { s.banksTest true with closeStep := 2 }

/-- CLOSE is accepted (R539); Doze and Hold have ended first. -/
def State.closeStart (s : State) : State :=
  let s := { s.holdEnd 9 with dozeAsk := false, warm := false, closeStep := 1 }
  let s := s.setMode .closing 0x0B []
  let s := (List.range 8).foldl State.headStop s
  (s.audioMute true).closeUnits

/-- What waited for an entry to Doze to complete, or to be cut short, is carried out in the mode it finds (R531, R542). In Opening a CLOSE
entry starts nothing, and its status is not stated (log 37). -/
def State.afterDoze (s : State) : State :=
  let t := { s with after := none }
  let closes := t.mode == .run || t.mode == .limp
  match s.after with
  | none => s
  | some (.hold f) => if t.mode == .run then t.holdStart.reply 0x40 f 0 [] else t.reply 0x40 f 6 []
  | some (.close f) => if closes then t.closeStart.reply 0x42 f 0 [] else t.reply 0x42 f 6 []
  | some (.closeEntry g e) =>
    if closes then t.closeStart.completeEntry g e 0 []
    else
      let (v, t) := t.fresh
      t.completeEntry g e (v % 65536) []

/-! ### PERST# (R60, R69, R520, R523) -/

/-- Every link goes down, every bench is reset, a staged plan takes effect (R58, R60). -/
def State.perstReset (s : State) : State :=
  let s := (List.range 4).foldl State.linkPark s
  let s := if s.mode.mainOn then s.benches.foldl State.resetByLink s else s
  s.planApply.strapsRead

/-- Every Doze consent is cleared (R533, R542). -/
def State.consentsClear (s : State) : State :=
  (List.range 4).foldl (fun t b => t.setFn b { t.fn b with doze := false, wakeA := none, wakeB := none }) s

/-- PERST# is asserted (R523). In Closing the links are down, or go down, and it does nothing else. -/
def State.perstOn (s : State) : State :=
  if s.perst then s
  else
    let s := { s with perst := true }
    match s.mode with
    | .noPower => s
    | .closing => s.linksDown
    | .standby | .service | .opening | .limp => s.perstReset
    | .run | .doze | .hold =>
      let s := (s.wake 2 0).holdEnd 2
      let s := if s.dozeAsk then s.wakeUnits else s
      let s := { s.consentsClear with dozeAsk := false, wakeAsk := none, warm := true, ordered := [] }
      (s.setMode .opening 2 []).perstReset.afterDoze

/-- PERST# is deasserted: WAKE# is released, the links leave L2, and the module is armed in Standby (R69, R520, R521). -/
def State.perstOff (s : State) : State :=
  { s with
    perst := false, wakePin := false, armed := s.armed || s.mode == .standby
    links := Sparse.clear (fun l => (s.link l).l2) s.links }

/-! ### Opening (R307, R513, R520, R526 to R529) -/

/-- The granules in the order of Opening's zero fill: the house region's first, then from 0 upward (R528). -/
def State.granuleOrder (s : State) : List Nat :=
  let house (g : Nat) : Bool := decide (s.houseFirst ≤ g * 0x40000000)
  (List.range 128).filter house ++ (List.range 128).filter fun g => !house g

/-- Standby gives way to Opening, or to Service where it was asked for (R520, R559). Every granule awaits its fill (R528),
every bank is in TEST (R422), SEQ starts at 0 (R506), and the plan is taken from house flash (R59). -/
def State.openStart (s : State) : State :=
  if !(s.mode == .standby) || !s.armed || !s.railsIn || s.perst || !s.clerkUp then s
  else if s.serviceAsk then
    let s := s.setMode .service 0x0F []
    { s.banksTest true with serviceAsk := false, armed := false, slot := none, clerkUp := false }
  else
    let t := s.tally
    let s := { s with
      armed := false, closeStep := 0, warm := false, badEngines := [], badCores := [], badHeads := [], badBanks := []
      badUnits := [], badLanes := 0, ordered := List.range 4, unverified := false, ran := false, tally := { t with records := [], seq := 0 } }
    let s := (s.setMode .opening 2 []).planLoad.strapsRead
    let s := (List.range 8).foldl State.typeReset s
    let s := s.banksTest true
    let s := { s with openFills := s.granuleOrder }
    (List.range 4).foldl (fun u b =>
      u.setFn b { Fn.reset with
        fills := (u.scrubUnits b).filter FillUnit.isGranule }) s

/-- A block the closing record marks as failed: one RETIRED_AT_OPENING record (R513). -/
def State.failedAtOpening (s : State) (kind : Nat) (units : List Nat) : State :=
  units.foldl (fun t n => t.report 0x12 (kind * 256 + n) 7 0) s

/-- Which engine serves each head from the start (R307): the journeyman stands in for the lowest head whose engine is
unusable, and the others show their safe cards. Each head's journal begins with an ENGINE record of it (R324); one for every head, with
PEn as the old engine, is the model's reading (DEDUCED, log 93). -/
def State.engineMap (s : State) (bad : List Nat) : State :=
  let heads := bad.filter (· < 8)
  let jmBad := bad.contains 8
  let place (t : State) (h : Nat) : State :=
    t.setHead h { t.head h with engine := if !jmBad && heads.head? == some h then 8 else 15 }
  let s := heads.foldl place s
  let s := (List.range 8).foldl (fun t h => t.recEngine h 0 h (t.head h).engine) s
  { s with
    badEngines := bad
    jm := { Journeyman.reset with
      duty := if jmBad then .retired else match heads.head? with
        | some h => .stand h
        | none => .idle } }

/-- Physical bank p is retired, with an L3 record of a class (R425, R511, R513). Its syndrome is the device address of the word
that failed, in the window of the logical bank that the bank served, 15 where it was the spare; which word, no command says (R507;
log 107). -/
def State.bankFails (s : State) (p cls : Nat) : State :=
  let (a, s) := s.fresh
  let l := match (List.range 16).find? fun l => s.bankPhys l == p with
    | some l => l
    | none => 15
  (s.retireBank p).report cls (0x0900 + p) 7 (0x2000000000 + l * 0x40000 + a % 65536 * 4)

/-- A valid closing record is read, and marks what is unusable (R307, R511, R513). -/
def State.readClosing (s : State) (r : ClosingResult) : State :=
  let cores := bitList 32 r.cores.toNat
  let lines := bitList 8 r.lines.toNat
  let engines := bitList 9 r.engines.toNat
  let heads := bitList 8 r.heads.toNat
  let banks := bitList 16 r.banks.toNat
  let s := { s with badCores := cores ++ lines.map (32 + ·), badHeads := heads, badLanes := r.lanes.toNat }
  let s := s.engineMap engines
  let s := s.failedAtOpening 1 cores
  let s := s.failedAtOpening 2 lines
  let s := s.failedAtOpening 3 engines
  let s := s.failedAtOpening 4 heads
  let s := banks.foldl (fun t p => t.bankFails p 0x12) s
  let s := s.failedAtOpening 0x0A (bitList 4 r.lanes.toNat)
  if r.segments.val = 0 then s
  else
    let (n, s) := s.fresh
    let s := s.failedAtOpening 0x10 [n % 256]
    if r.segments.val = 2 then s.report 0x22 (0x1000 + n % 256) 7 2 else s

/-- The opening check ends and the closing record is read (R512, R513, R526). -/
def State.openChecked (s : State) (failing : List Nat) : State :=
  if !(s.mode == .opening) || s.warm || s.closeStep ≠ 0 then s
  else
    let s := { s.banksTest false with closeStep := 1 }
    let s := failing.foldl (fun t p => t.bankFails p 0x13) s
    let note (t : State) (valid : Bool) : State :=
      t.logNote 7 (leBytes 4 t.closingNo ++ leBytes 1 valid.toNat ++ leBytes 1 t.unverified.toNat)
    match s.closing with
    | some r => note ({ s.closingRead with unverified := false }.readClosing r) true
    | none => note ({ s with unverified := true }.engineMap []) false

/-- A granule's fill in Opening ends, in its turn (R526, R528). -/
def State.granuleDone (s : State) (g : Nat) : State :=
  match s.openFills with
  | k :: rest =>
    if k ≠ g || !s.mode.mainOn || s.checking then s
    else
      let s := ({ s with openFills := rest }).zeroFill (g * 0x40000000) 0x40000000
      match s.plan.granBench g with
      | some b => s.fillDone b (.granule (Fin.ofNat 128 g))
      | none => s
  | [] => s

/-- Opening ends in Run (R526): the cards that step 9 has not yet copied are, and a firmware slot on trial is good (R558). -/
def State.opened (s : State) : State :=
  if s.mode == .opening && !s.warm && s.closeStep == 1 then
    let s := (List.range 8).foldl (fun t h => if t.headReady h then t else t.cardCopy h) s
    { (s.setMode .run 3 []).slotGood with closeStep := 0, ran := true }
  else s

/-- A warm opening ends in Run (R529). -/
def State.warmOpened (s : State) : State :=
  if s.mode == .opening && s.warm then { (s.setMode .run 3 []).slotGood with warm := false } else s

/-! ### Doze (R531 to R533) -/

/-- Entry to Doze has no step left to wait for: no head runs, no Carter channel is pausing, no block engine is busy (R531). -/
def State.dozeDone (s : State) : Bool :=
  s.dozeAsk && s.mode == .run && (List.range 8).all (fun h => (s.head h).run == 0) && (List.range 64).all (fun c => s.carState c != 2)
    && (List.range 2).all fun e => !s.blkBusy e

/-- Entry to Doze completes at a crystal edge, at which TB enters low-frequency mode (R433, R531); a trigger that came meanwhile wakes the
module at once, and what waited for that is carried out. -/
def State.dozeEntered (s : State) : State :=
  if !s.dozeDone then s
  else
    let ask := s.wakeAsk
    let s := if s.tbLf then s else s.tbEnterLf
    let s := (s.setMode .doze 4 []).icWithdraw
    let s := { s with dozeAsk := false, wakeAsk := none }
    match ask with
    | some (c, x) => (s.wake c x).afterDoze
    | none => s

/-- A wake trigger takes effect (R533): a request at a BAR, what the watcher or a wake channel has found, a withdrawn
consent, a command on the service port, or PERST#. -/
def State.dozeWake (s : State) (cause : WakeCause) : State :=
  if !(s.mode == .doze) then s
  else match cause with
    | .hostAccess b => s.hostArrive b.val
    | .watch => match s.wakeAsk with
      | some (c, x) => s.wake c x
      | none => s
    | .servicePort => if s.port.attached then s.portWake else s
    | .dozeOff b => if s.consents b.val then s else s.wake 7 b.val
    | .perst => if s.perst then s.wake 2 0 else s

/-- HOT_RESET (R60); a link that goes down may leave every bench consenting to Doze (R531). -/
def execHotReset (l : LinkId) (s : State) : Host.Outcome State Fault Refusal := .next (s.hotReset l.val).dozeBegin

/-- REFCLK_LOSS (R68). -/
def execRefclkLoss (s : State) : Host.Outcome State Fault Refusal := .next s.refclkLoss.dozeBegin

/-! ### The end of Closing (R511, R512, R539, R540) -/

/-- The closing test ends (R511, R512, R539): steps 2 and 3 lie behind it, pages that failed are retired, the record is written, the log
sealed and settings committed. -/
def State.closeTested (s : State) (r : ClosingResult) : State :=
  if !(s.mode == .closing) || (s.closeStep ≠ 1 && s.closeStep ≠ 2) then s
  else
    let s := (List.range 8).foldl (fun t h => if (t.head h).run = 0 then t else (t.headStopNow h).beamsStopAll h) s
    let s := s.closeUnits.banksTest false
    let pages := ((r.pages.map fun a => a.toNat / 4096).filter fun p => !s.retired.contains p).eraseDups
    let pages := pages.take (16384 - s.retired.length)
    let s := pages.foldl State.pageListed s
    let s := ({ s with closing := some r, closingNo := s.closingNo + 1, closeStep := 3 }).closingWrite r pages.length
    let s := s.logNote 7 (leBytes 4 s.closingNo ++ leBytes 1 1 ++ leBytes 1 s.unverified.toNat)
    s.settingsSave.logSeal

/-- The last step of Closing: Standby (R539). -/
def State.closed (s : State) : State := if s.mode == .closing && s.closeStep == 3 then s.mainOff 0x0C [] else s

/-- A head still runs 100 ms after CLOSE (R539). -/
def State.closeHeads (s : State) : State :=
  if s.mode == .closing && s.closeStep == 1 then ((List.range 8).foldl State.headStopNow s).closeUnits else s

/-- The oldest report reaches the tally (R503). An L4 record in the closing test ends it without a closing record (R540), and one before it
ends Closing in the same way (DEDUCED, log 107). What waited for an entry to Doze that Limp cuts short is carried out (R542). -/
def State.tallyReport (s : State) : State :=
  match s.tally.reports with
  | [] => s
  | r :: _ =>
    let level := s.tally.levelOf r.cls r.source
    let seq := s.tally.seq
    let s := s.faultReport
    if s.mode == .closing && (s.closeStep == 1 || s.closeStep == 2) && level == 4 then s.mainOff 0x0A (leBytes 4 seq)
    else if s.mode == .limp then s.afterDoze else s

/-- PERST_ASSERT (R523). -/
def execPerstAssert (s : State) : Host.Outcome State Fault Refusal := .next s.perstOn

/-- PERST_DEASSERT (R520). -/
def execPerstDeassert (s : State) : Host.Outcome State Fault Refusal := .next s.perstOff

/-- SUPPLY_COMPARATOR_TRIP (R499). -/
def execSupplyComparatorTrip (word : Fin 64) (s : State) : Host.Outcome State Fault Refusal := .next (s.supplyTrip word.val)

/-- FAULT_REPORT (R503). -/
def execFaultReport (s : State) : Host.Outcome State Fault Refusal := .next s.tallyReport

/-- MAIN_RAILS_IN_WINDOW (R521). -/
def execMainRailsInWindow (s : State) : Host.Outcome State Fault Refusal := .next s.railsReturn

/-- OPENING_START (R520). -/
def execOpeningStart (s : State) : Host.Outcome State Fault Refusal := .next s.openStart

/-- OPENING_CHECK_DONE (R513). -/
def execOpeningCheckDone (failing : List (Fin 16)) (s : State) : Host.Outcome State Fault Refusal :=
  .next (s.openChecked (failing.map (·.val)))

/-- GRANULE_ZERO_FILL_DONE (R528). -/
def execGranuleZeroFillDone (g : Fin 128) (s : State) : Host.Outcome State Fault Refusal := .next (s.granuleDone g.val)

/-- OPENING_COMPLETE (R526). -/
def execOpeningComplete (s : State) : Host.Outcome State Fault Refusal := .next s.opened.dozeBegin

/-- WARM_OPENING_COMPLETE (R529). -/
def execWarmOpeningComplete (s : State) : Host.Outcome State Fault Refusal := .next s.warmOpened.dozeBegin

/-- DOZE_ENTRY_COMPLETE (R531). -/
def execDozeEntryComplete (s : State) : Host.Outcome State Fault Refusal := .next s.dozeEntered

/-- DOZE_WAKE (R533); benches whose links are not in L0 consent to Doze still (R531). -/
def execDozeWake (cause : WakeCause) (s : State) : Host.Outcome State Fault Refusal := .next (s.dozeWake cause).dozeBegin

/-- ASPM_L1_ENTRY (R66); a bench whose link leaves L0 consents to Doze (R531). -/
def execAspmL1Entry (l : LinkId) (s : State) : Host.Outcome State Fault Refusal := .next (s.aspmL1 l.val).dozeBegin

/-- RENDER_LINE_BOUNDARY (R165, R284); in Closing the next step follows once the last head has stopped (R539). -/
def execRenderLineBoundary (h : HeadId) (assay : AssayView) (s : State) : Host.Outcome State Fault Refusal :=
  let t := s.renderBoundary h.val (assay.requestsDiffer, assay.digest)
  .next (if s.mode == .closing && (s.head h.val).moving then t.closeUnits else t)

/-- SCAN_LINE_BOUNDARY (R263, R281, R296); in Closing the next step follows once the last head has stopped (R539). -/
def execScanLineBoundary (h : HeadId) (s : State) : Host.Outcome State Fault Refusal :=
  let t := s.scanBoundary h.val
  .next (if s.mode == .closing && (s.head h.val).moving then t.closeUnits else t)

/-- MAIN_POWER_REMOVAL (R522). -/
def execMainPowerRemoval (s : State) : Host.Outcome State Fault Refusal := .next s.powerRemoved

/-- CLOSING_HEAD_TIMEOUT (R539). -/
def execClosingHeadTimeout (s : State) : Host.Outcome State Fault Refusal := .next s.closeHeads

/-- CLOSING_TEST_DONE (R511). -/
def execClosingTestDone (res : ClosingResult) (s : State) : Host.Outcome State Fault Refusal := .next (s.closeTested res)

/-- CLOSING_COMPLETE (R539). -/
def execClosingComplete (s : State) : Host.Outcome State Fault Refusal := .next s.closed

end Sys2Proof.Machine
end

