-- ==== Sys2Proof/Machine/Mailbox.lean ====
section
/-!
DEFINITION. The Counting-House command port (R504, R514, R516, R524, R563): the commands that benches submit through rings
with PORT 0b010, plan images (R560), and the on-request tests.
-/
namespace Sys2Proof.Machine

/-! ### Staging a plan (R57, R560) -/

/-- A plan image is staged, or refused with the DETAIL of the first rule it fails; either is logged (R57, R510, R560). The
code of a staged plan is not stated. -/
def State.stagePlan (s : State) (bs : List Byte) : Option Nat × State :=
  let note (t : State) (c : Nat) : State := t.logNote 5 (fitBytes 2 ((bs.drop 4).take 2) ++ leBytes 1 c)
  match planOfImage bs with
  | none => (some 7, note s 7)
  | some p =>
    match p.refusal with
    | some d => (some d, note s d)
    | none =>
      let (c, s) := s.fresh
      (none, ({ note s c with staged := some p }).flashPut stagedAt bs)

/-! ### On-request tests (R425, R514) -/

/-- An engine test cannot start (R514): a test runs, or the journeyman is not free. A retired engine can be tested (R501, R317). -/
def State.engineBusy (s : State) : Bool :=
  s.testRuns || s.jm.handOver.isSome || s.jm.handBack.isSome || s.jm.step != 0
    || (match s.jm.duty with
      | .stand _ => true
      | .retired => true
      | _ => false)

/-- The journeyman is sent to take head h so that its engine can be tested (R317, R514). -/
def State.engineTest (s : State) (h who : Nat) : State :=
  let same := s.jm.duty == .assay h && s.jm.started
  let s := match s.jm.duty with
    | .assay k => if s.jm.started then s.assayRecord k 2 else s
    | _ => s
  let s := if same then s else s.jmKeep
  { s with jm := { s.jm with
      duty := .assay h, mirror := some h, started := same, copied := same && s.jm.copied, assaying := false, step := 0
      handOver := some h, reason := 3, testing := some h, testBy := who } }

/-- A test's end reaches whoever asked: the completion of the mailbox entry with CHM_EVT.TEST, or the reply of the service
port; it is logged (R510, R514, R515, R549). -/
def State.testEnd (s : State) (target : Nat) (pass : Bool) : State :=
  let s := s.logNote 8 (leBytes 2 target ++ leBytes 1 pass.toNat)
  let s := match s.testBy with
    | some (g, e) =>
      let s := { s with testBy := none }
      let s := match s.plan.ringBench g with
        | some b => s.chmEvt b 4
        | none => s
      s.completeEntry g e (if pass then 0 else 6) []
    | none => s
  match s.port.waiting with
  | some f =>
    ({ s with port := { s.port with waiting := none } }).emit
      (.tapin 0x44 f.tag.toNat f.session.toNat (if pass then 0 else 8) [])
  | none => s

/-- The engine test ends (R514, R319): a good engine takes its head back; a failing one is retired. -/
def State.engineTestEnd (s : State) (pass : Bool) : State :=
  match s.jm.testing with
  | none => s
  | some h =>
    if (s.head h).engine != 8 || s.jm.handOver.isSome then s
    else
      let s := { s with jm := { s.jm with testing := none } }
      let s :=
        if pass then
          { s with
            badEngines := NatSet.erase s.badEngines h
            jm := { s.jm with handBack := some h, mirror := some h, started := false, copied := false, reason := 4 } }
        else ({ s with badEngines := NatSet.insert s.badEngines h }).report 0x15 (0x0300 + h) 7 (s.rdN (kHead h 0x10004))
      s.testEnd (0x0300 + h) pass

/-- The march of a preserving test ends (R425, R514): the old bank becomes the spare, or is retired and no spare is left. The
syndrome names a word in the window of the logical bank under test (R507; log 107). -/
def State.bankTestEnd (s : State) (pass : Bool) : State :=
  let q := s.rot
  if q.phase ≠ 2 then s
  else
    let s := { s.setB (kMemAll 0x68) 31 false with rot := Rotation.reset }
    let s :=
      if pass then s
      else
        let (a, s) := s.fresh
        let word := 0x2000000000 + q.bank * 0x40000 + a % 65536 * 4
        let s := s.setB (kMemAll 0x68) 4 true
        (s.report 0x13 (0x0900 + q.old) 7 word).report 0x15 (0x0900 + q.old) 7 word
    s.testEnd (0x0900 + q.old) pass

/-! ### Entries (R77, R78, R516) -/

/-- The next entry at the Counting-House port whose header passes a test: bench, ring, entry (R77, R533). The Clerk takes it
in every mode. -/
def State.chmNext (s : State) (p : List Byte → Bool) : Option (Nat × Nat × List Byte) :=
  if !s.clerkUp then none
  else match s.portNext 2 with
    | some (b, g, e) => if p e then some (b, g, e) else none
    | none => none

/-- A command with one OP: taken, acted on, and completed with the status and DETAIL it answers (R516). In Limp only ACK,
LOG_READ and CLOSE are served (R519, R520). -/
def State.chmRun (s : State) (p : List Byte → Bool) (limpOk : Bool)
    (act : State → Nat → Nat → List Byte → Nat × List Byte × State) : State :=
  match s.chmNext p with
  | none => s
  | some (b, g, e) =>
    let s := s.portTake 2 b g
    if s.mode == .limp && !limpOk then s.completeEntry g e 2 []
    else
      let (status, detail, s) := act s b g e
      s.completeEntry g e status detail

/-- An entry of one OP. -/
def isOp (n : Nat) (e : List Byte) : Bool := entryOp e == n

/-- A MODE entry of one request (R524). -/
def isMode (n : Nat) (e : List Byte) : Bool := isOp 7 e && entryArg e % 16 == n

/-- ACK (R504). -/
def State.chmAck (s : State) : State :=
  s.chmRun (isOp 1) true fun s b _ e =>
    let (st, s) := s.ackSeq b (entryArg e)
    (st, [], s)

/-- A bench is PLANNER (R55). -/
def State.planner (s : State) (b : Nat) : Bool := (s.plan.bench b).present && (s.plan.bench b).planner

/-- Every byte of a range lies in bench b's granules (R516). -/
def State.inGranules (s : State) (b a n : Nat) : Bool :=
  decide (a + n ≤ 0x2000000000) && s.assetHeld b a && (n ≤ 1 || s.assetHeld b (a + n - 1))

/-- STAGE_PLAN (R57, R516), BUSY while an on-request test runs, as its STATUS says of any command: DEDUCED. An image that holds
uncorrectable data is refused as malformed. -/
def State.chmStage (s : State) : State :=
  s.chmRun (isOp 2) false fun s b _ e =>
    let a := atN e 8 8
    let n := atN e 16 4
    if !s.planner b then (2, [], s)
    else if s.testRuns then (3, [], s)
    else if !s.inGranules b a (min n 544) then (5, [], s)
    else
      let s1 := s.meets a (min n 544)
      let image := if n = 544 ∧ !s.marked a 544 then s1.bytes a 544 else []
      match s1.stagePlan image with
      | (none, t) => (0, [], t)
      | (some d, t) => (4, leBytes 1 d, t)

/-- TEST_ENGINE (R514); it completes when the test ends. -/
def State.chmTestEngine (s : State) : State :=
  match s.chmNext (isOp 3) with
  | none => s
  | some (b, g, e) =>
    let s := s.portTake 2 b g
    let h := entryArg e
    let refuse (status : Nat) : State := s.completeEntry g e status []
    if s.mode == .limp then refuse 2
    else if 8 ≤ h then refuse 5
    else if s.plan.headBench h != some b then refuse 2
    else if s.engineBusy then refuse 3
    else if !(s.mode == .run) then
      let (v, s) := s.fresh
      s.completeEntry g e (v % 65536) []
    else { s.engineTest h b with testBy := some (g, e) }

/-- TEST_BANK (R425, R514); it completes when the test ends. Without a spare, or outside Run, it cannot run, and the status
is not stated. -/
def State.chmTestBank (s : State) : State :=
  match s.chmNext (isOp 4) with
  | none => s
  | some (b, g, e) =>
    let s := s.portTake 2 b g
    let refuse (status : Nat) : State := s.completeEntry g e status []
    if !s.planner b || s.mode == .limp then refuse 2
    else if 15 ≤ entryArg e then refuse 5
    else if s.testRuns then refuse 3
    else if s.noSpare || !(s.mode == .run) then
      let (v, s) := s.fresh
      s.completeEntry g e (v % 65536) []
    else { s.rotStart (entryArg e) b with testBy := some (g, e) }

/-- A log record is of bench b's or the module's scope (R516): a tally record by its SCOPE, a checkpoint by its head. -/
def State.recordFor (s : State) (b : Nat) (r : List Byte) : Bool :=
  if atN r 12 1 = 1 then atN r 16 1 == b || atN r 16 1 == 7
  else if atN r 12 1 = 4 then s.plan.headBench (atN r 13 1) == some b
  else true

/-- A log block as bench b may read it: foreign records keep TB and TYPE only (R516). -/
def State.maskBlock (s : State) (b : Nat) (bs : List Byte) : List Byte :=
  let mask (i : Nat) : List Byte :=
    let r := (bs.drop (64 + 32 * i)).take 32
    if s.recordFor b r then r
    else r.take 8 ++ List.replicate 4 0 ++ (r.drop 12).take 1 ++ List.replicate 19 0
  bs.take 64 ++ (List.range 122).flatMap mask ++ bs.drop 3968

/-- A log block that is sealed and not yet overwritten (R509). -/
def State.logHas (s : State) (n : Nat) : Bool := decide (n < s.tally.logNo) && decide (s.tally.logNo ≤ n + 65536)

/-- LOG_READ (R516): whole blocks are copied into the bench's granules. -/
def State.chmLogRead (s : State) : State :=
  s.chmRun (isOp 5) true fun s b _ e =>
    let a := atN e 8 8
    let first := atN e 16 4
    let n := atN e 20 4
    let bad := n != 0 && (!s.inGranules b a (4096 * n) || !s.logHas first || !s.logHas (first + n - 1))
    if bad then (5, [], s)
    else
      let copy (t : State) (i : Nat) : State :=
        t.memStore (a + 4096 * i) (s.maskBlock b (s.flashBytes (logAt (first + i)) 4096))
      (0, [], (List.range n).foldl copy s)

/-- SET_STORM (R451, R516). -/
def State.chmSetStorm (s : State) : State :=
  s.chmRun (isOp 6) false fun s b _ e =>
    if !s.planner b then (2, [], s)
    else if entryArg e < 1000 ∨ 100000000 < entryArg e then (5, [], s)
    else (0, [], { s with stormLimit := entryArg e })

/-- A wake channel of DOZE_ON: enabled, and held by the bench (R524). -/
def State.wakeChannel (s : State) (b v : Nat) : Option Nat :=
  if nbit v 7 && s.plan.bellBench (v % 128) == some b then some (v % 128) else none

/-- MODE, DOZE_ON (R524, R531). -/
def State.chmDozeOn (s : State) : State :=
  (s.chmRun (isMode 0) false fun s b _ e =>
    (0, [], s.setFn b { s.fn b with
      doze := true, wakeA := s.wakeChannel b (atN e 8 1), wakeB := s.wakeChannel b (atN e 9 1) })).dozeBegin

/-- MODE, DOZE_OFF (R524, R533). -/
def State.chmDozeOff (s : State) : State :=
  s.chmRun (isMode 1) false fun s b _ _ =>
    (0, [], (s.setFn b { s.fn b with doze := false, wakeA := none, wakeB := none }).wakeBy 7 b)

/-- MODE, CLOSE (R524, R539). During entry to Doze it waits until entry has completed and the module has woken (R531); while one
waits already, another is BUSY. In Opening it starts nothing, and its status is not stated. -/
def State.chmClose (s : State) : State :=
  match s.chmNext (isMode 2) with
  | none => s
  | some (b, g, e) =>
    let s := s.portTake 2 b g
    if !s.planner b then s.completeEntry g e 2 []
    else if s.mode == .closing || s.testRuns || s.after.isSome then s.completeEntry g e 3 []
    else if s.dozeAsk then { s.wakeBy 7 b with after := some (.closeEntry g e) }
    else match s.mode with
      | .run | .doze | .hold | .limp => (s.wakeBy 7 b).closeStart.completeEntry g e 0 []
      | _ =>
        let (v, s) := s.fresh
        s.completeEntry g e (v % 65536) []

/-- SETTINGS_CONFIRM through the mailbox (R563). -/
def State.chmSettings (s : State) : State :=
  s.chmRun (isOp 8) false fun s b _ _ => if s.planner b then (0, [], s.settingsConfirm) else (2, [], s)

/-- An OP that is not defined has STATUS 0x0001, and a reserved MODE request 0x0005 (R516, R524). -/
def State.chmUnknown (s : State) : State :=
  s.chmRun (fun e => entryOp e = 0 || 8 < entryOp e || (entryOp e == 7 && decide (3 ≤ entryArg e % 16))) false
    fun s _ _ e => (if entryOp e = 7 then 5 else 1, [], s)

/-- CHM_ACK (R504). -/
def execChmAck (s : State) : Host.Outcome State Fault Refusal := .next s.chmAck

/-- STAGE_PLAN (R57). -/
def execStagePlan (s : State) : Host.Outcome State Fault Refusal := .next s.chmStage

/-- TEST_ENGINE (R514). -/
def execTestEngine (s : State) : Host.Outcome State Fault Refusal := .next s.chmTestEngine

/-- TEST_BANK (R514). -/
def execTestBank (s : State) : Host.Outcome State Fault Refusal := .next s.chmTestBank

/-- ENGINE_TEST_DONE (R514). -/
def execEngineTestDone (pass : Bool) (s : State) : Host.Outcome State Fault Refusal := .next (s.engineTestEnd pass)

/-- BANK_MARCH_DONE (R425). -/
def execBankMarchDone (pass : Bool) (s : State) : Host.Outcome State Fault Refusal := .next (s.bankTestEnd pass)

/-- CHM_LOG_READ (R516). -/
def execChmLogRead (s : State) : Host.Outcome State Fault Refusal := .next s.chmLogRead

/-- SET_STORM (R516). -/
def execSetStorm (s : State) : Host.Outcome State Fault Refusal := .next s.chmSetStorm

/-- DOZE_ON (R531). -/
def execDozeOn (s : State) : Host.Outcome State Fault Refusal := .next s.chmDozeOn

/-- DOZE_OFF (R524). -/
def execDozeOff (s : State) : Host.Outcome State Fault Refusal := .next s.chmDozeOff

/-- CHM_CLOSE (R539). -/
def execChmClose (s : State) : Host.Outcome State Fault Refusal := .next s.chmClose

/-- CHM_SETTINGS_CONFIRM (R563). -/
def execChmSettingsConfirm (s : State) : Host.Outcome State Fault Refusal := .next s.chmSettings

/-- CHM_UNKNOWN_OP (R516). -/
def execChmUnknownOp (s : State) : Host.Outcome State Fault Refusal := .next s.chmUnknown

end Sys2Proof.Machine
end

