-- ==== Sys2Proof/Machine/Service.lean ====
section
/-!
DEFINITION. The service port (R544 to R566): sessions, the commands of the Tapin protocol, patches and Cobbler, safe cards.
-/
namespace Sys2Proof.Machine

/-! ### Frames, modes and replies (R546 to R551) -/

/-- What the port presents to a USB host (R544). -/
structure UsbDevice where
  vendor    : Nat
  product   : Nat
  configs   : Nat
  faces     : Nat
  cls       : Nat
  subclass  : Nat
  protocol  : Nat
  bulkOut   : Nat
  bulkIn    : Nat
  packet    : Nat
deriving DecidableEq, Repr

/-- The device that an attached port shows, on a high-speed or a full-speed host port (R544, R545). -/
def State.usbDevice (s : State) (highSpeed : Bool) : Option UsbDevice :=
  if s.port.attached then
    some {
      vendor := 0x1D9A, product := 0x5C09, configs := 1, faces := 1, cls := 0xFF, subclass := 0, protocol := 0, bulkOut := 0x01, bulkIn := 0x81
      packet := if highSpeed then 512 else 64 }
  else none

/-- A frame's bytes, by TYPE: 1 a command, 2 a reply (R546). -/
def frameBytes (type cmd tag session status : Nat) (payload : List Byte) : List Byte :=
  let body := leBytes 2 0x5054 ++ leBytes 1 1 ++ leBytes 1 type ++ leBytes 2 cmd ++ leBytes 2 tag ++ leBytes 2 session ++ leBytes 2 status
    ++ leBytes 4 payload.length ++ payload
  body ++ leBytes 4 (crc32c body)

/-- The bulk transfer that carries what leaves through the port: a reply's frame (R546). -/
def portBytes : Sent → List Byte
  | .tapin cmd tag session status payload => frameBytes 2 cmd tag session status payload
  | _ => []

/-- A command code that R550 lists. -/
def cmdListed (cmd : Nat) : Bool :=
  [1, 2, 3, 0x10, 0x11, 0x12, 0x13, 0x14, 0x15, 0x20, 0x21, 0x22, 0x23, 0x30, 0x31, 0x32, 0x40, 0x41, 0x42, 0x43, 0x44, 0x45].contains cmd

/-- What is wrong with a transfer: its shape, its CRC, or a CMD that R550 does not list (R547, R550). -/
inductive FrameBad where
  | malformed
  | badCrc (cmd tag : BitVec 16)
  | unknown (cmd tag session : BitVec 16)
deriving DecidableEq, Repr

/-- The checks of R547 in its order, on a transfer's bytes; none where it carries a listed command. -/
def frameBad (bs : List Byte) : Option FrameBad :=
  let len := atN bs 12 4
  let cmd := BitVec.ofNat 16 (atN bs 4 2)
  let tag := BitVec.ofNat 16 (atN bs 6 2)
  if bs.length < 20 ∨ 65540 < bs.length ∨ atN bs 0 2 ≠ 0x5054 ∨ atN bs 2 1 ≠ 1 ∨ atN bs 3 1 ≠ 1 ∨ 20 + len ≠ bs.length then some .malformed
  else if atN bs (16 + len) 4 ≠ crc32c (bs.take (16 + len)) then some (.badCrc cmd tag)
  else if cmdListed cmd.toNat then none
  else some (.unknown cmd tag (BitVec.ofNat 16 (atN bs 8 2)))

/-- A reply that carries another SESSION (R548, R551). -/
def State.replyAs (s : State) (cmd : Nat) (f : Frame) (session status : Nat) (payload : List Byte) : State :=
  s.emit (.tapin cmd f.tag.toNat session status payload)

/-- Modes of R550's table, by kind: every mode; all except Service; and the lists it gives. -/
inductive PortModes where
  | every
  | notService
  | only (ms : List Mode)
deriving DecidableEq, Repr

/-- The mode is one that the table allows (R550). -/
def PortModes.has (p : PortModes) (m : Mode) : Bool :=
  match p with
  | .every => true
  | .notService => m != .service
  | .only ms => ms.contains m

/-- A command of the port is in progress: a TEST that runs, or a HOLD or CLOSE that waits for an entry to Doze (R531, R549). -/
def State.portBusy (s : State) : Bool :=
  s.port.waiting.isSome || match s.after with
    | some (.hold _) | some (.close _) => true
    | _ => false

/-- A command frame other than OPEN, with a good CRC (R548 to R550): a command in progress answers BUSY, a wrong SESSION
NO_SESSION, a mode outside the table NOT_IN_MODE; a dozing module wakes first. -/
def State.portRun (s : State) (cmd : Nat) (f : Frame) (modes : PortModes) (act : State → State) : State :=
  if s.mode == .noPower || !s.port.attached then s
  else
    let m := s.mode
    let s := s.portWake
    if s.portBusy then s.reply cmd f 3 []
    else if s.port.session != some f.session.toNat then s.replyAs cmd f 0 2 []
    else if !modes.has m then s.reply cmd f 6 []
    else act s

/-- OPEN (R548). -/
def State.portOpen (s : State) (f : Frame) : State :=
  if s.mode == .noPower || !s.port.attached then s
  else
    let s := s.portWake
    if s.port.session.isSome || s.portBusy then s.reply 1 f 3 []
    else
      let n := s.port.lastNo % 65535 + 1
      let s := { s with port := { s.port with session := some n, lastNo := n } }
      (s.logFw 1 0xFF 0 (leBytes 2 n)).replyAs 1 f n 0 []

/-- The session ends, and Hold with it (R535, R548). -/
def State.portEnd (s : State) (reason : Nat) : State := (s.sessionEnd reason).dozeBegin

/-! ### Readings (R550) -/

/-- INFO's reply (R550). -/
def State.infoBytes (s : State) : List Byte :=
  let running := match s.slot with
    | some i => i
    | none => 0xFF
  let settings := if s.mode == .service then 0 else match s.settings with
    | some i => s.settingsVersion i
    | none => 0
  leBytes 8 Config.serialNumber.toNat ++ leBytes 1 s.mode.code ++ leBytes 1 running ++ leBytes 1 s.slotFirst ++ leBytes 1 0
    ++ leBytes 4 (s.slotVersion 0) ++ leBytes 4 (s.slotVersion 1) ++ leBytes 1 (s.slotState 0) ++ leBytes 1 (s.slotState 1)
    ++ leBytes 2 settings ++ leBytes 2 s.plan.version ++ leBytes 2 0 ++ leBytes 1 4
    ++ fitBytes 96 Config.devicePublicKey ++ leBytes 3 0

/-- The sensor words (R498, R550). -/
def State.sensorBytes (s : State) : List Byte := (List.range 64).flatMap fun n => leBytes 2 (s.sensorWord n)

/-- The history slots with nothing masked; empty before Run is reached (R550). -/
def State.historyBytes (s : State) : List Byte :=
  (List.range 32).flatMap fun k => histBytes (if s.ran then s.histSlot k else none) none

/-- LOG_READ of the service port (R550). -/
def State.portLog (s : State) (f : Frame) (first n : Nat) : State :=
  if n = 0 ∨ 15 < n ∨ !s.logHas first ∨ !s.logHas (first + n - 1) then s.reply 0x13 f 5 []
  else s.reply 0x13 f 0 ((List.range n).flatMap fun i => s.flashBytes (logAt (first + i)) 4096)

/-- Journal blocks from a SEQ on, in SEQ order, while they are present (R550). -/
def State.journalFrom (s : State) (h seq : Nat) : Nat → List Byte
  | 0 => []
  | n + 1 =>
    match s.blockOf h seq with
    | some a => s.goodBytes a 4096 ++ s.journalFrom h ((seq + 1) % 2 ^ 32) n
    | none => []

/-- What the reads of those blocks meet (R411). -/
def State.journalMeets (s : State) (h seq : Nat) : Nat → State
  | 0 => s
  | n + 1 =>
    match s.blockOf h seq with
    | some a => (s.meets a 4096).journalMeets h ((seq + 1) % 2 ^ 32) n
    | none => s

/-- JOURNAL_READ (R550). -/
def State.portJournal (s : State) (f : Frame) (h first n : Nat) : State :=
  if 8 ≤ h ∨ n = 0 ∨ 15 < n then s.reply 0x15 f 5 []
  else (s.journalMeets h first n).reply 0x15 f 0 (s.journalFrom h first n)

/-- ACK of the service port (R504, R550). -/
def State.portAck (s : State) (f : Frame) (seq : Nat) : State :=
  let (st, s) := s.ackSeq 4 seq
  s.reply 0x14 f (if st = 0 then 0 else 5) []

/-! ### Cobbler (R553 to R557) -/

/-- Bytes of a slot that an image may occupy. -/
def slotRoom : Nat := 0x7FFF000

/-- Base bytes from an offset (R556). -/
def State.baseBytes (s : State) (base src : Nat) : Nat → List Byte
  | 0 => []
  | n + 1 =>
    (if src < slotRoom then Sparse.get (fun _ => (0xFF : Byte)) s.flash (slotAt base + src) else 0xFF) :: s.baseBytes base (src + 1) n

/-- Target bytes written at W; those past the slot are discarded (R556). -/
def State.patchPut (s : State) (slot w : Nat) (bs : List Byte) : State :=
  s.flashPut (slotAt slot + w) (bs.take (slotRoom - w))

/-- A COPY record (R555). -/
def State.patchCopy (s : State) (base slot w src n : Nat) : State :=
  s.patchPut slot w (s.baseBytes base src (min n (slotRoom - w)))

/-- The bytes d of an ADD record, added to base bytes (R555). -/
def State.patchAdd (s : State) (base slot w src : Nat) (d : List Byte) : State :=
  let old := if src = 0xFFFFFFFF then List.replicate d.length 0 else s.baseBytes base src d.length
  s.patchPut slot w (List.zipWith (· + ·) old d)

/-- The records that have arrived, in order (R555): what is left of the stream, the write position, and the state. An ADD record
that is not whole is applied for the bytes received, and goes on with the rest. A record of another TYPE has no payload, and moves
W by its N as each does. -/
def State.patchRecords (base slot : Nat) : Nat → State → Nat → List Byte → State × Nat × List Byte
  | 0, s, w, bs => (s, w, bs)
  | fuel + 1, s, w, bs =>
    if bs.length < 12 then (s, w, bs)
    else
      let type := atN bs 0 1
      let src := atN bs 4 4
      let n := atN bs 8 4
      let rest := bs.drop 12
      if type = 1 then State.patchRecords base slot fuel (s.patchCopy base slot w src n) (w + n) rest
      else if type = 2 then
        let k := min n rest.length
        let s := s.patchAdd base slot w src (rest.take k)
        if k = n then State.patchRecords base slot fuel s (w + n) (rest.drop n)
        else
          let src' := if src = 0xFFFFFFFF then src else min (src + k) 0x7FFFFFFF
          (s, w + k, leBytes 4 2 ++ leBytes 4 src' ++ leBytes 4 (n - k))
      else State.patchRecords base slot fuel s (w + n) rest

/-- PATCH_BEGIN (R554): the target is made EMPTY and erased. -/
def State.patchBegin (s : State) (f : Frame) (payload : List Byte) : State :=
  let base : Option Nat :=
    if s.mode == .service then (match payload.head? with
      | some b => if b.toNat < 2 then some b.toNat else none
      | none => none)
    else s.slot
  match base with
  | none => s.reply 0x20 f 5 []
  | some base =>
    let slot := 1 - base
    let pref := s.slotPref slot
    let version := s.slotVersion slot
    let s := { s with flash := Sparse.clear (fun a => decide (slotAt slot ≤ a) && decide (a < slotAt slot + slotRoom)) s.flash }
    let s := s.slotWrite slot 0 0 pref version
    let s := { s with port := { s.port with patch := some (slot, 0), base := base, stream := [] } }
    (s.logFw 3 slot version []).reply 0x20 f 0 []

/-- PATCH_DATA (R555, R557). -/
def State.patchData (s : State) (f : Frame) (payload : List Byte) : State :=
  match s.port.patch with
  | none => s.reply 0x21 f 5 []
  | some (slot, w) =>
    let bs := s.port.stream ++ payload
    let (s, w, rest) := State.patchRecords s.port.base slot (bs.length + 1) s w bs
    ({ s with port := { s.port with patch := some (slot, w), stream := rest } }).reply 0x21 f 0 []

/-- PATCH_END (R556): the target is STAGED and preferred. -/
def State.patchEnd (s : State) (f : Frame) : State :=
  match s.port.patch with
  | none => s.reply 0x22 f 5 []
  | some (slot, w) =>
    let version := s.flashN (slotAt slot + 4) 4
    let s := (s.slotWrite slot 1 0 true version).slotPrefer (1 - slot) false
    let s := { s with port := { s.port with patch := none, stream := [] } }
    (s.logFw 4 slot version (leBytes 4 w)).reply 0x22 f 0 []

/-- PATCH_ABORT (R556). -/
def State.patchAbort (s : State) (f : Frame) : State :=
  match s.port.patch with
  | none => s.reply 0x23 f 5 []
  | some (slot, _) =>
    let s := { s with port := { s.port with patch := none, stream := [] } }
    (s.logFw 5 slot (s.slotVersion slot) []).reply 0x23 f 0 []

/-! ### Plans and cards (R560, R561) -/

/-- PLAN_STAGE (R560). -/
def State.portPlan (s : State) (f : Frame) (payload : List Byte) : State :=
  if s.testRuns then s.reply 0x30 f 3 []
  else match s.stagePlan payload with
    | (none, t) => t.reply 0x30 f 0 []
    | (some d, t) => t.reply 0x30 f 7 (leBytes 1 d)

/-- CARD_BEGIN (R561). -/
def State.cardBegin (s : State) (f : Frame) (payload : List Byte) : State :=
  match payload.head? with
  | none => s.reply 0x31 f 5 []
  | some b =>
    let h := b.toNat
    if 8 ≤ h then s.reply 0x31 f 5 []
    else
      let s := { s with
        flash := Sparse.clear (fun a => decide (cardAt h ≤ a) && decide (a < cardAt h + 0x2000000)) s.flash
        port := { s.port with card := some h } }
      (s.logFw 0x0C 0xFF 0 (leBytes 1 h)).reply 0x31 f 0 []

/-- CARD_DATA (R561). -/
def State.cardData (s : State) (f : Frame) (payload : List Byte) : State :=
  match s.port.card with
  | none => s.reply 0x32 f 5 []
  | some h =>
    let off := atN payload 0 4
    let d := payload.drop 4
    if payload.length < 4 ∨ 0x2000000 < off + d.length then s.reply 0x32 f 5 []
    else (s.flashPut (cardAt h + off) d).reply 0x32 f 0 []

/-! ### Modes and tests (R535, R539, R549, R559) -/

/-- HOLD of the service port (R535). During entry to Doze it waits until entry has completed and the module has woken (R531, R542). -/
def State.portHold (s : State) (f : Frame) : State :=
  if s.after.isSome then s.reply 0x40 f 3 []
  else if s.dozeAsk then { s with after := some (.hold f) }
  else s.holdStart.reply 0x40 f 0 []

/-- CLOSE of the service port (R539). During entry to Doze it waits until entry has completed and the module has woken (R531). -/
def State.portClose (s : State) (f : Frame) : State :=
  if s.testRuns || s.after.isSome then s.reply 0x42 f 3 []
  else if s.dozeAsk then { s with after := some (.close f) }
  else s.closeStart.reply 0x42 f 0 []

/-- REBOOT (R520, R559): the session ends, the island starts again, and the module is armed in Standby; SERVICE = 1 sets the flag,
which only the next Opening's start clears. The cause of the change out of Service is not stated. -/
def State.portReboot (s : State) (f : Frame) (payload : List Byte) : State :=
  match payload.head? with
  | none => s.reply 0x43 f 5 []
  | some b =>
    let s := (s.reply 0x43 f 0 []).sessionEnd 4
    let s :=
      if s.mode == .service then
        let (c, s) := s.fresh
        (s.setMode .standby (1 + c % 15) []).banksTest false
      else s
    { s with serviceAsk := s.serviceAsk || nbit b.toNat 0, armed := true }.boot

/-- TEST (R514, R549): it answers when the test ends. A bank test without a spare cannot run, and its status is not stated. -/
def State.portTest (s : State) (f : Frame) (payload : List Byte) : State :=
  let kind := atN payload 0 1
  let i := atN payload 1 1
  if payload.length < 2 ∨ 1 < kind ∨ (kind = 0 ∧ 8 ≤ i) ∨ (kind = 1 ∧ 15 ≤ i) then s.reply 0x44 f 5 []
  else if kind = 0 then
    (if s.engineBusy then s.reply 0x44 f 3 []
      else { s.engineTest i 4 with port := { s.port with waiting := some f } })
  else if s.testRuns then s.reply 0x44 f 3 []
  else if s.noSpare then
    let (v, s) := s.fresh
    s.reply 0x44 f (v % 9) []
  else { s.rotStart i 4 with port := { s.port with waiting := some f } }

/-- A transfer that is not acted on (R547, R549, R551). One that carries a listed command is that command's own. -/
def State.badFrame (s : State) (transfer : List Byte) : State :=
  if s.mode == .noPower || !s.port.attached then s
  else match frameBad transfer with
    | none | some .malformed => s
    | some (.badCrc cmd tag) =>
      let n := match s.port.session with
        | some n => n
        | none => 0
      s.emit (.tapin cmd.toNat tag.toNat n 4 [])
    | some (.unknown cmd tag session) =>
      let f : Frame := { session := session, tag := tag }
      s.portRun cmd.toNat f .every fun t => t.reply cmd.toNat f 1 []

/-- USB_ATTACH (R545). -/
def execUsbAttach (s : State) : Host.Outcome State Fault Refusal :=
  .next (if s.mode == .noPower then s else { s with port := { s.port with attached := true } })

/-- USB_DETACH (R545, R547). -/
def execUsbDetach (s : State) : Host.Outcome State Fault Refusal :=
  .next { s.portEnd 2 with port := { (s.portEnd 2).port with attached := false } }

/-- USB_BUS_RESET (R547): a bus reset, or suspend. -/
def execUsbBusReset (s : State) : Host.Outcome State Fault Refusal := .next (s.portEnd 3)

/-- SESSION_GAP_TIMEOUT (R547): the gap runs only while no command is in progress. -/
def execSessionGapTimeout (s : State) : Host.Outcome State Fault Refusal :=
  .next (if s.portBusy then s else s.portEnd 1)

/-- TAPIN_FRAME_INVALID (R547). -/
def execTapinFrameInvalid (transfer : List Byte) (s : State) : Host.Outcome State Fault Refusal := .next (s.badFrame transfer)

/-- OPEN (R548). -/
def execOpen (f : Frame) (s : State) : Host.Outcome State Fault Refusal := .next (s.portOpen f)

/-- SHUT (R548). -/
def execShut (f : Frame) (s : State) : Host.Outcome State Fault Refusal :=
  .next (s.portRun 2 f .every fun t => (t.portEnd 0).reply 2 f 0 [])

/-- PING (R550). -/
def execPing (f : Frame) (s : State) : Host.Outcome State Fault Refusal :=
  .next (s.portRun 3 f .every fun t => t.reply 3 f 0 [])

/-- INFO (R550). -/
def execInfo (f : Frame) (s : State) : Host.Outcome State Fault Refusal :=
  .next (s.portRun 0x10 f .every fun t => t.reply 0x10 f 0 t.infoBytes)

/-- SENSORS (R550). -/
def execSensors (f : Frame) (s : State) : Host.Outcome State Fault Refusal :=
  .next (s.portRun 0x11 f .every fun t => t.reply 0x11 f 0 t.sensorBytes)

/-- HISTORY (R550). -/
def execHistory (f : Frame) (s : State) : Host.Outcome State Fault Refusal :=
  .next (s.portRun 0x12 f .notService fun t => t.reply 0x12 f 0 t.historyBytes)

/-- LOG_READ (R550). -/
def execLogRead (f : Frame) (first count : Word) (s : State) : Host.Outcome State Fault Refusal :=
  .next (s.portRun 0x13 f .every fun t => t.portLog f first.toNat count.toNat)

/-- ACK (R504). -/
def execAck (f : Frame) (seq : Word) (s : State) : Host.Outcome State Fault Refusal :=
  .next (s.portRun 0x14 f .notService fun t => t.portAck f seq.toNat)

/-- JOURNAL_READ (R550). -/
def execJournalRead (f : Frame) (h : Fin 256) (first count : Word) (s : State) : Host.Outcome State Fault Refusal :=
  .next (s.portRun 0x15 f (.only [.opening, .run, .hold, .limp]) fun t => t.portJournal f h.val first.toNat count.toNat)

/-- PATCH_BEGIN (R554). -/
def execPatchBegin (f : Frame) (payload : List Byte) (s : State) : Host.Outcome State Fault Refusal :=
  .next (s.portRun 0x20 f .every fun t => t.patchBegin f payload)

/-- PATCH_DATA (R555). -/
def execPatchData (f : Frame) (payload : List Byte) (s : State) : Host.Outcome State Fault Refusal :=
  .next (s.portRun 0x21 f .every fun t => t.patchData f payload)

/-- PATCH_END (R556). -/
def execPatchEnd (f : Frame) (_payload : List Byte) (s : State) : Host.Outcome State Fault Refusal :=
  .next (s.portRun 0x22 f .every fun t => t.patchEnd f)

/-- PATCH_ABORT (R556). -/
def execPatchAbort (f : Frame) (s : State) : Host.Outcome State Fault Refusal :=
  .next (s.portRun 0x23 f .every fun t => t.patchAbort f)

/-- PLAN_STAGE (R560). -/
def execPlanStage (f : Frame) (payload : List Byte) (s : State) : Host.Outcome State Fault Refusal :=
  .next (s.portRun 0x30 f .notService fun t => t.portPlan f payload)

/-- CARD_BEGIN (R561). -/
def execCardBegin (f : Frame) (payload : List Byte) (s : State) : Host.Outcome State Fault Refusal :=
  .next (s.portRun 0x31 f .notService fun t => t.cardBegin f payload)

/-- CARD_DATA (R561). -/
def execCardData (f : Frame) (payload : List Byte) (s : State) : Host.Outcome State Fault Refusal :=
  .next (s.portRun 0x32 f .notService fun t => t.cardData f payload)

/-- HOLD (R535). -/
def execHold (f : Frame) (s : State) : Host.Outcome State Fault Refusal :=
  .next (s.portRun 0x40 f (.only [.run, .doze]) fun t => t.portHold f)

/-- RELEASE (R535). -/
def execRelease (f : Frame) (s : State) : Host.Outcome State Fault Refusal :=
  .next (s.portRun 0x41 f (.only [.hold]) fun t => (t.holdEnd 9).dozeBegin.reply 0x41 f 0 [])

/-- CLOSE (R539). -/
def execClose (f : Frame) (s : State) : Host.Outcome State Fault Refusal :=
  .next (s.portRun 0x42 f (.only [.run, .doze, .hold, .limp]) fun t => t.portClose f)

/-- REBOOT (R559). -/
def execReboot (f : Frame) (payload : List Byte) (s : State) : Host.Outcome State Fault Refusal :=
  .next (s.portRun 0x43 f (.only [.standby, .service]) fun t => t.portReboot f payload)

/-- TEST (R514). -/
def execTest (f : Frame) (payload : List Byte) (s : State) : Host.Outcome State Fault Refusal :=
  .next (s.portRun 0x44 f (.only [.run]) fun t => t.portTest f payload)

/-- SETTINGS_CONFIRM (R563). -/
def execSettingsConfirm (f : Frame) (s : State) : Host.Outcome State Fault Refusal :=
  .next (s.portRun 0x45 f (.only [.opening, .run, .doze, .hold, .limp]) fun t => t.settingsConfirm.reply 0x45 f 0 [])

end Sys2Proof.Machine
end

