-- ==== Sys2Proof/Machine/Bus.lean ====
section
/-!
DEFINITION. Register accesses (R17 to R19, R29, R47 to R53, R61, R67, R71, R82, R91, R530): one word of a device register as
a requester writes or reads it, and the host's three BARs and configuration space.
-/
namespace Sys2Proof.Machine

/-! ### One word of a device register -/

/-- The word a narrow write would leave of an old value. -/
def merged (old v : Word) (be : Nat) : Word := storeWord old v be 0xFFFFFFFF 0

/-- A write of a word of ring g's block (R81). -/
def State.ringWordWrite (s : State) (g off : Nat) (v : Word) (be : Nat) : State :=
  if off = 0 || off = 4 then
    (if s.ringOn g || !(s.cached g).isEmpty then s else s.store (kRing g off) v be)
  else if off = 8 then s.ringCtl g (merged (s.rd (kRing g 8)) v be)
  else if off = 0xC then s.ringIndexWrite g true (merged (BitVec.ofNat 32 (s.ringShown g 0xC)) v be)
  else if off = 0x10 then s.ringIndexWrite g false (merged (BitVec.ofNat 32 (s.ringShown g 0x10)) v be)
  else if off = 0x18 then (if nbit be 0 && nbit v.toNat 3 then s.ringErrClear g else s)
  else s

/-- A word of ring g's block as it reads (R81). -/
def State.ringWordRead (s : State) (g off : Nat) : Word :=
  if off = 0xC then BitVec.ofNat 32 (s.ringShown g 0xC)
  else if off = 0x10 then BitVec.ofNat 32 (s.ringShown g 0x10)
  else if off = 0x14 then s.ringStat g
  else s.rd (kRing g off)

/-- A write of a word of the Bellwire block below 0x1_0000 (R453). -/
def State.bellWordWrite (s : State) (off : Nat) (v : Word) (be : Nat) : State :=
  let k := 0x3003600000 + off
  if 0x1000 ≤ off && off < 0x1800 then
    let n := (off - 0x1000) / 0x20
    match off % 0x20 with
    | 0 => s.cmpLo n (merged (s.cmp n).heldLo v be)
    | 4 => s.cmpHi n (merged (s.rd k) v be)
    | 8 => s.cmpCtl n v be
    | _ => s.store k v be
  else if 0x4000 ≤ off && off < 0x4800 && off % 0x10 = 0 then
    let n := (off - 0x4000) / 0x10
    let s := s.store k v be
    if nbit be 3 && nbit v.toNat 31 then (s.oneClock [] fun t => t.fire (t.plan.bellBench n) n).1 else s
  else s.store k v be

/-- A word of the Bellwire block below 0x1_0000 as it reads, and what the read changes (R434, R443, R453). -/
def State.bellWordRead (s : State) (r : Requester) (off : Nat) : Word × State :=
  let k := 0x3003600000 + off
  if off = 0 then
    let (v, t) := s.tbLoRead r
    (BitVec.ofNat 32 v, t)
  else if off = 4 then (BitVec.ofNat 32 (s.tbHiRead r), s)
  else if off = 8 then (BitVec.ofNat 32 s.tbStat, s)
  else if 0x2000 ≤ off && off < 0x2200 && off % 0x20 = 4 then
    let (v, t) := s.capPop ((off - 0x2000) / 0x20)
    (BitVec.ofNat 32 v, t)
  else if 0x2000 ≤ off && off < 0x2200 && off % 0x20 = 0x10 then (s.capStat ((off - 0x2000) / 0x20), s)
  else if 0x4000 ≤ off && off < 0x4800 && off % 0x10 = 4 then
    (s.chStat ((off - 0x4000) / 0x10), s.readClear k)
  else (s.rd k, s.readClear k)

/-- A write of a word of the interrupt controller (R464 to R470) by a requester of bench b, or the Clerk. -/
def State.icWordWrite (s : State) (b : Option Nat) (off : Nat) (v : Word) (be : Nat) : State :=
  let en := merged 0 v be
  if off < 0x2000 then s.icRouteWrite b (off / 8) (off % 8 == 4) v be
  else if off < 0x2080 then s.icEnWrite b ((off - 0x2000) / 4) v be
  else if off < 0x2100 then
    let w := (off - 0x2080) / 4
    let now := s.srcBits b w fun n => match (s.src n).st with
      | .pending => true
      | .offered _ => true
      | _ => false
    s.pendWrite b w (merged (BitVec.ofNat 32 now) v be)
  else if off < 0x2200 then s
  else if off < 0x2300 then (if s.groupMine b ((off - 0x2200) / 4) then s.store (kIc off) v be else s)
  else if off = 0x2304 then s.icComplete b (wfld en 9 0)
  else if 0x2400 ≤ off && off < 0x2500 then s.watchWrite b ((off - 0x2400) / 4) v be
  else s

/-- A word of the interrupt controller as a requester reads it, and what the read changes (R462, R466, R470). -/
def State.icWordRead (s : State) (r : Requester) (off : Nat) : Word × State :=
  let b := s.benchOf r
  let bits (p : Nat → Bool) : Word := BitVec.ofNat 32 (s.srcBits b (off % 0x80 / 4) p)
  if off < 0x2000 then (BitVec.ofNat 32 (s.icRouteRead b (off / 8) (off % 8 == 4)), s)
  else if off < 0x2080 then (bits s.srcEn, s)
  else if off < 0x2100 then
    (bits fun n => match (s.src n).st with
      | .pending => true
      | .offered _ => true
      | _ => false, s)
  else if off < 0x2180 then (bits fun n => (s.src n).st == .active, s)
  else if off < 0x2200 then (bits s.srcLevel, s)
  else if off < 0x2300 then (s.rd (kIc off), s)
  else if off = 0x2300 then
    let (v, t) := s.icClaim r
    (BitVec.ofNat 32 v, t)
  else if off = 0x2308 then
    match b with
    | some b => (s.rd (bankKey (b + 1) (kIc off)), s.wr (bankKey (b + 1) (kIc off)) 0)
    | none => (0, s)
  else if 0x2400 ≤ off && off < 0x2500 then
    (if b.isNone || b == some ((off - 0x2400) / 64) then s.rd (kIc off) else 0, s)
  else (0, s)

/-- The pins of word w that a requester may change. -/
def State.pinsOf (s : State) (b : Option Nat) (w : Nat) : Nat :=
  match b with
  | some b => s.pinMask b w
  | none => 0xFFFFFFFF

/-- A write of a word of cabinet I/O (R473, R477 to R491). -/
def State.cioWordWrite (s : State) (b : Option Nat) (off : Nat) (v : Word) (be : Nat) : State :=
  let k := kCio off
  if off < 0x180 then
    (if b.isNone || (s.plan.cioBench (off / 4)).isSome && s.plan.cioBench (off / 4) == b then s.pinCfg (off / 4) v be else s)
  else if (0x210 ≤ off && off < 0x21C) || (0x220 ≤ off && off < 0x22C) then
    s.wr k (storeWord (s.rd k) v be (s.pinsOf b (off % 16 / 4)) 0)
  else if 0x230 ≤ off && off < 0x23C then s.wr k (storeWord (s.rd k) v be 0 (s.pinsOf b (off % 16 / 4)))
  else if 0x1000 ≤ off && off < 0x10C0 then
    (if off % 16 = 4 then s.serWrite ((off - 0x1000) / 16) (merged 0 v be) else s.store k v be)
  else if 0x2000 ≤ off && off < 0x2030 then
    let g := (off - 0x2000) / 4
    let t := s.store k v be
    if t.rd k == s.rd k then t else t.setQd g { t.qd g with cond := true }
  else if 0x2200 ≤ off && off < 0x2260 then s.mtrAdd ((off - 0x2200) / 4) v be
  else s

/-- A word of cabinet I/O as a requester reads it, and what the read changes (R479, R485 to R491). -/
def State.cioWordRead (s : State) (b : Option Nat) (off : Nat) : Word × State :=
  let k := kCio off
  let w := off % 16 / 4
  let mask (v : Word) : Word := v &&& BitVec.ofNat 32 (s.pinsOf b w)
  if off < 0x180 then
    (if b.isNone || s.plan.cioBench (off / 4) == b then s.rd k else 0, s)
  else if 0x200 ≤ off && off < 0x20C then (mask (BitVec.ofNat 32 (pinBits w s.pinIn)), s)
  else if 0x210 ≤ off && off < 0x23C then (mask (s.rd k), s)
  else if 0x240 ≤ off && off < 0x24C then (mask (BitVec.ofNat 32 (pinBits w s.pinErr)), s)
  else if 0x1000 ≤ off && off < 0x10C0 then
    let g := (off - 0x1000) / 16
    match off % 16 with
    | 4 =>
      let (v, t) := s.serRead g
      (BitVec.ofNat 32 v, t)
    | 8 => (s.serStat g, s)
    | _ => (s.rd k, s)
  else if 0x2000 ≤ off && off < 0x2030 then
    let g := (off - 0x2000) / 4
    (s.rd k, s.setQd g { s.qd g with cond := false })
  else if 0x2100 ≤ off && off < 0x2130 then
    let g := (off - 0x2100) / 4
    (s.rd k, s.setMx g { s.mx g with cond := false })
  else if 0x2200 ≤ off && off < 0x2260 then (setFld (s.rd k) 15 0 (s.mtr ((off - 0x2200) / 4)).left, s)
  else (0, s)

/-- A write of a word of the memory system's registers by a requester of bench b (R428); the Clerk has no copy. -/
def State.memWordWrite (s : State) (b : Option Nat) (off : Nat) (v : Word) (be : Nat) : State :=
  match b with
  | none => s
  | some b => if off = 0x40 then s.marchCtl b v be else s.store (kMem b off) v be

/-- A word of the memory system's registers as a requester of bench b reads it (R428). -/
def State.memWordRead (s : State) (b : Option Nat) (off : Nat) : Word × State :=
  if off = 0x18 || off = 0x60 || off = 0x64 || off = 0x68 then (s.rd (kMemAll off), s)
  else match b with
    | none => (0, s)
    | some b =>
      if off = 0x10 then (BitVec.ofNat 32 (s.memRetired b), s)
      else if 0x20 ≤ off && off < 0x40 then (BitVec.ofNat 32 (s.memHeadBw b ((off - 0x20) / 4)), s)
      else (s.rd (kMem b off), s.readClear (kMem b off))

/-- The queue manager's bench registers as they read (R81). -/
def State.qmRead (s : State) (b : Option Nat) (a : Nat) : Word :=
  match b with
  | none => 0
  | some b =>
    if a = 0x3000080000 then BitVec.ofNat 32 (s.qmgrInfo b)
    else if a = 0x3000080004 then BitVec.ofNat 32 (s.qmgrCache b)
    else 0

/-- The head a requester's access would reach as its own line core (R173): none for the fabric port. -/
def ownHead : Requester → Option Nat
  | .core (.line h) => some h.val
  | _ => none

/-- The head, line-view address and span attribute of an address in an engine window or HEADn (R216, R272). -/
def headAt (a : Nat) : Nat × Nat × Bool :=
  let base := if a < 0x3002000000 then 0x3001000000 else 0x3002000000
  let off := a - base
  let span := decide (0x80000 ≤ off % 0x100000)
  (off / 0x100000, if span then a - 0x80000 else a, span)

/-- A word of the journeyman's window as it reads (R27): the head's that it holds, its RC fields cleared only where it serves the
head, or its own. -/
def State.jmRead (s : State) (key : Nat) : Word × State :=
  match s.jmView with
  | some h =>
    let k := kPe h (key - kPe 8 0)
    if (s.head h).engine = 8 then s.headReadOp h k
    else if s.jm.edited.contains (key - kPe 8 0) then (s.rd key, s)
    else (s.headRead h k, s)
  | none => (s.rd key, s)

/-- A word that the Counting-House writes to the journeyman's window (R27), through either view: to the head it serves, at that head's
fabric port; else to its own registers at once, also while it holds a copy of an engine that goes on serving (log 93). -/
def State.jmPut (s : State) (key : Nat) (span : Bool) (v : Word) (be : Nat) : State :=
  match s.jmView with
  | some h =>
    if (s.head h).engine = 8 then s.headWrite h (kPe h (key - kPe 8 0)) span true (.core .clerk) v be
    else
      let t := (s.wr key (s.jmRead key).1).store key v be
      { t with
        jm := { t.jm with edited := if t.jm.edited.contains (key - kPe 8 0) then t.jm.edited else (key - kPe 8 0) :: t.jm.edited }
        marks := t.marks.filter fun m => m != key }
  | none => s.store key v be

/-- The effects of a word written to a device register that its requester reaches: on-write effects, staging, and the stores
(R18, R19, R172). -/
def State.devPut (s : State) (r : Requester) (a : Nat) (v : Word) (be : Nat) : State :=
  let b := s.benchOf r
  if a < 0x3000080000 then s.ringWordWrite ((a - 0x3000000000) / 0x20) (a % 0x20) v be
  else if a < 0x3000100000 then s
  else if a < 0x3000128000 then s.coreBlockWrite ((a - 0x3000100000) / 0x1000) (a % 0x1000) v be
  else if a < 0x3001000000 then s
  else if a < 0x3003000000 then
    let (h, key, span) := headAt a
    if 8 ≤ h then s.jmPut key span v be
    else s.headWrite h key span (ownHead r != some h) r v be
  else if a < 0x3003400000 then s.audioWrite b a v be
  else if a < 0x3003420000 then s.blkWrite b ((a - 0x3003400000) / 0x10000) (a % 0x10000) v be
  else if a < 0x3003510000 then s.carWrite ((a - 0x3003500000) / 0x400) (a % 0x400) v be
  else if a < 0x3003610000 then s.bellWordWrite (a - 0x3003600000) v be
  else if a < 0x3003620000 then s.icWordWrite b (a - 0x3003610000) v be
  else if a < 0x3003630000 then s.cioWordWrite b (a - 0x3003620000) v be
  else if a < 0x3003700000 then s
  else if a < 0x3003710000 then s.memWordWrite b (a - 0x3003700000) v be
  else s.store a v be

/-- A word written to a device register that its requester reaches, with the route change it makes where the register
carries a route; that of a head's register comes as its port takes the write (R450). -/
def State.devWrite (s : State) (r : Requester) (a : Nat) (v : Word) (be : Nat) : State :=
  let t := s.devPut r a v be
  if 0x3003000000 ≤ a && carriesRoute a then t.routeWrite a s else t

/-- A word read from a device register that its requester reaches, and what the read changes (R18). -/
def State.devRead (s : State) (r : Requester) (a : Nat) : Word × State :=
  let b := s.benchOf r
  if a < 0x3000080000 then (s.ringWordRead ((a - 0x3000000000) / 0x20) (a % 0x20), s.readClear a)
  else if a < 0x3000100000 then (s.qmRead b a, s)
  else if a < 0x3000128000 then
    (s.coreBlockRead ((a - 0x3000100000) / 0x1000) (a % 0x1000), s.readClear a)
  else if a < 0x3001000000 then (0, s)
  else if a < 0x3003000000 then
    let (h, key, _) := headAt a
    if 8 ≤ h then s.jmRead key else s.headReadOp h key
  else if a < 0x3003400000 then (s.audioRead b a, s.readClear a)
  else if a < 0x3003420000 then
    (if a % 0x10000 = 0 then s.blkLendReg b ((a - 0x3003400000) / 0x10000) else s.rd a, s.readClear a)
  else if a < 0x3003510000 then (s.rd a, s.readClear a)
  else if a < 0x3003610000 then s.bellWordRead r (a - 0x3003600000)
  else if a < 0x3003620000 then s.icWordRead r (a - 0x3003610000)
  else if a < 0x3003630000 then s.cioWordRead b (a - 0x3003620000)
  else if a < 0x3003700000 then (0, s)
  else if a < 0x3003710000 then s.memWordRead b (a - 0x3003700000)
  else (s.chmRead ((a - 0x3003800000) / 0x1000) (a % 0x1000), s)

/-! ### The host's path -/

/-- How bench b's function takes a memory request now (R61, R67, R71, R519). -/
inductive HostGate where
  | absent
  | discard
  | unsupported
  | limp
  | serve
deriving DecidableEq, Repr

/-- How bench b's function takes a memory request now. -/
def State.hostGate (s : State) (b : Nat) : HostGate :=
  let q := s.fn b
  if !(s.plan.bench b).present || !(s.link (s.plan.bench b).link).up then .absent
  else if q.resetting then .discard
  else if q.d3 || !q.memSpace then .unsupported
  else if s.mode == .closing then .discard
  else if s.mode == .limp then .limp
  else .serve

/-- A function that bench b holds at a device address has not reported ready (R530). -/
def State.notReady (s : State) (b a : Nat) : Bool :=
  let p := s.plan.bench b
  let wait (held : Bool) (bit_ : Nat) : Bool := held && !s.bit (kBench b 0x14) bit_
  let head (h : Nat) : Bool := s.plan.headBench h == some b && !s.bit (kBench b 0x14) h
  if a < 0x2000000000 then wait (p.granules != 0) 13
  else if a < 0x2000200000 then
    let c := (a - 0x2000000000) / 0x10000
    s.plan.coreBench c == some b && !s.bit (kBench b 0x10) c
  else if a < 0x3000000000 then wait (p.scratchPages != 0) 14
  else if a < 0x3000100000 then wait (p.rings != 0) 8
  else if a < 0x3000120000 then
    let c := (a - 0x3000100000) / 0x1000
    s.plan.coreBench c == some b && !s.coreReady c
  else if a < 0x3000128000 then
    let h := (a - 0x3000120000) / 0x1000
    s.plan.headBench h == some b && !s.coreReady (32 + h)
  else if a < 0x3001000000 then false
  else if a < 0x3003000000 then head (headAt a).1
  else if a < 0x3003400000 then wait (p.voiceCount + p.toneCount + p.mixBuses + p.tdmPorts != 0) 11
  else if a < 0x3003420000 then wait (p.blockLend != 0) 10
  else if a < 0x3003510000 then wait (p.carter != 0) 9
  else if a < 0x3003700000 then wait (p.cmp + p.cap + p.bell + p.cio != 0) 12
  else if a < 0x3003800000 then false
  else wait true 15

/-- The device address that a BAR0 offset reaches (R48); none for bench control and for reserved offsets. -/
def bar0At (b off : Nat) : Option Nat :=
  let win (lo size base : Nat) : Option Nat := if lo ≤ off ∧ off < lo + size then some (base + (off - lo)) else none
  (win 0x100000 0x100000 0x3000000000)
    <|> (win 0x200000 0x100000 0x3000100000)
    <|> (win 0x300000 0x100000 0x3003600000)
    <|> (win 0x400000 0x10000 0x3003700000)
    <|> (win 0x410000 0x20000 0x3003400000)
    <|> (win 0x430000 0x10000 0x3003500000)
    <|> (win 0x440000 0x1000 (0x3003800000 + b * 0x1000))
    <|> (win 0x800000 0x800000 0x3001000000)
    <|> (win 0x1000000 0x800000 0x3002000000)
    <|> (win 0x1800000 0x400000 0x3003000000)
    <|> (win 0x1C00000 0x400000 0x2000000000)

/-- A word of the bench control registers written by the host or the Clerk (R53, R54, R63, R64). -/
def State.benchWrite (s : State) (b off : Nat) (v : Word) (be : Nat) : State :=
  if off = 0x40 then s.ptmWrite b v be
  else
    let s := s.store (kBench b off) v be
    if 0x8000 ≤ off ∧ off < 0x9000 then s.msixFlush b else s

/-- A word of the bench control registers as the host or the Clerk reads it, and what the read changes (R53, R54). -/
def State.benchRead (s : State) (b off : Nat) : Word × State :=
  let p := s.plan.bench b
  if off = 0 then
    (BitVec.ofNat 32 (p.granules * 2 ^ 23 + s.plan.granFirst b * 2 ^ 16 + p.heads * 2 ^ 8 + p.planner.toNat * 2 ^ 7
      + p.scrub.toNat * 2 ^ 6 + p.func * 2 ^ 4 + p.link * 2 ^ 2 + b), s)
  else if off = 4 then (BitVec.ofNat 32 p.sceneCores, s)
  else if off = 0x14 then (setBit (setBit (s.rd (kBench b 0x14)) 31 (s.readyAll b)) 16 s.unverified, s)
  else (s.rd (kBench b off), s.readClear (kBench b off))

/-- A word that bench b's host writes at a device address (R29, R48, R530). -/
def State.hostWrite (s : State) (b : BenchId) (a : Nat) (v : Word) : State :=
  if s.notReady b.val a then s
  else if a < 0x3000000000 then
    (if s.plainHeld b.val a then s.memStore a (leBytes 4 v.toNat) else s.hole b.val)
  else match s.devAt b.val a with
    | .held => s.devWrite (.host b) a v 15
    | .reserved => s
    | .hole => s.hole b.val

/-- A word that bench b's host reads at a device address: its value, whether the completion is poisoned, and what the read
changes (R29, R51, R530). -/
def State.hostRead (s : State) (b : BenchId) (a : Nat) : Word × Bool × State :=
  if s.notReady b.val a then (0, false, s)
  else if a < 0x3000000000 then
    if s.plainHeld b.val a then (BitVec.ofNat 32 (s.loadN a 4), s.marked a 4, s.meets a 4)
    else (0, false, s.hole b.val)
  else match s.devAt b.val a with
    | .held =>
      let (v, t) := s.devRead (.host b) a
      (v, false, t)
    | .reserved => (0, false, s)
    | .hole => (0, false, s.hole b.val)

/-- A word written at a device address by a host that is served: in Limp only mailboxes answer (R48, R519). -/
def State.servedWrite (s : State) (b : BenchId) (a : Nat) (v : Word) : State :=
  if s.mode == .limp && a < 0x3003800000 then s else s.hostWrite b a v

/-- A word read at a device address by a host that is served. -/
def State.servedRead (s : State) (b : BenchId) (a : Nat) : Word × Bool × State :=
  if s.mode == .limp && a < 0x3003800000 then (0, false, s) else s.hostRead b a

/-- A word written at a BAR0 offset by a host that is served (R48, R519). -/
def State.bar0Write (s : State) (b : BenchId) (off : Nat) (v : Word) : State :=
  if off < 0x10000 then s.benchWrite b.val off v 15
  else match bar0At b.val off with
    | none => s
    | some a => s.servedWrite b a v

/-- A word read at a BAR0 offset by a host that is served. -/
def State.bar0Read (s : State) (b : BenchId) (off : Nat) : Word × Bool × State :=
  if off < 0x10000 then
    let (v, t) := s.benchRead b.val off
    (v, false, t)
  else match bar0At b.val off with
    | none => (0, false, s)
    | some a => s.servedRead b a

/-- The width and alignment that BAR0 and BAR4 take (R49, R71, R82). -/
def hostSizeOk (off size : Nat) : Bool := (size == 4 || size == 8) && off % size == 0

/-- A write of 4 or 8 bytes that reaches BAR0, by a write of one word: two words, the lower address first, for 8 bytes (R49,
R61, R67, R71). At a width or alignment that BAR0 does not take the result is unpredictable (R71), and here the write has no
effect (DESIGN CHOICE, log 10). -/
def State.hostWords (s : State) (b : BenchId) (at_ size v : Nat) (word : State → Nat → Word → State) : State :=
  let s := s.hostArrive b.val
  match s.hostGate b.val with
  | .absent | .discard => s
  | .unsupported => s.emit (.unsupported b.val)
  | .limp | .serve =>
    if !hostSizeOk at_ size then s
    else
      let s := word s at_ (BitVec.ofNat 32 v)
      if size = 8 then word s (at_ + 4) (BitVec.ofNat 32 (v / 2 ^ 32)) else s

/-- A read of 4 or 8 bytes that reaches BAR0, answered by its completion, by a read of one word. At a width or alignment that
BAR0 does not take the value that returns is unpredictable (R13, R71): free, and the read has no other effect (log 10). -/
def State.hostWordsRead (s : State) (b : BenchId) (at_ size : Nat) (word : State → Nat → Word × Bool × State) : State :=
  let s := s.hostArrive b.val
  match s.hostGate b.val with
  | .absent => s
  | .discard => s.emit (.readReply b.val 0 size false)
  | .unsupported => s.emit (.unsupported b.val)
  | .limp | .serve =>
    if !hostSizeOk at_ size then
      let (v, s) := s.fresh
      s.emit (.readReply b.val v size false)
    else
      let (lo, p, s) := word s at_
      if size = 8 then
        let (hi, q, s) := word s (at_ + 4)
        s.emit (.readReply b.val (lo.toNat + hi.toNat * 2 ^ 32) 8 (p || q))
      else s.emit (.readReply b.val lo.toNat size p)

/-- A BAR0 write (R48, R49). -/
def State.hostBar0Write (s : State) (b : BenchId) (off size v : Nat) : State :=
  s.hostWords b off size v fun t o w => t.bar0Write b o w

/-- A BAR0 read (R48, R49). -/
def State.hostBar0Read (s : State) (b : BenchId) (off size : Nat) : State :=
  s.hostWordsRead b off size fun t o => t.bar0Read b o

/-! ### BAR2 -/

/-- The device address of a BAR2 range that lies within the bench's reachable granules (R50, R426). -/
def State.bar2At (s : State) (b off n : Nat) : Option Nat :=
  let a := s.plan.granFirst b * 0x40000000 + off
  let last := a + (n - 1)
  if off + (n - 1) < (s.plan.bench b).granules * 0x40000000 ∧ s.assetHeld b a ∧ s.assetHeld b last then some a else none

/-- How bench b's function takes a BAR2 request: one that reaches past BAR2's size (R47, R50) is no request of the function's,
and is unsupported (DESIGN CHOICE, log 7). -/
def State.bar2Gate (s : State) (b off n : Nat) : HostGate :=
  match s.hostGate b with
  | .absent => .absent
  | g => if s.plan.bar2Size b < off + n then .unsupported else g

/-- A BAR2 read (R50, R51, R62, R71): zeros where nothing is reached, and a poisoned completion over uncorrectable data. -/
def State.bar2Read (s : State) (b : BenchId) (off n : Nat) : State :=
  let s := s.hostArrive b.val
  let zeros : State := s.emit (.readBytes b.val (List.replicate n 0) false)
  match s.bar2Gate b.val off n with
  | .absent => s
  | .unsupported => s.emit (.unsupported b.val)
  | .discard | .limp => zeros
  | .serve =>
    if s.notReady b.val 0 then zeros
    else match s.bar2At b.val off n with
      | none => (s.hole b.val).emit (.readBytes b.val (List.replicate n 0) false)
      | some a => (s.meets a n).emit (.readBytes b.val (s.bytes a n) (s.marked a n))

/-- A poisoned write received by bench b's function: discarded and logged in AER (R51). -/
def State.poisonedWrite (s : State) (b : Nat) : State := s.setFn b { s.fn b with poisoned := (s.fn b).poisoned + 1 }

/-- A BAR2 write (R50, R51, R62, R71). -/
def State.bar2Write (s : State) (b : BenchId) (off : Nat) (bs : List Byte) (poisoned : Bool) : State :=
  let s := s.hostArrive b.val
  match s.bar2Gate b.val off bs.length with
  | .absent | .discard => s
  | .unsupported => s.emit (.unsupported b.val)
  | .limp => if poisoned then s.poisonedWrite b.val else s
  | .serve =>
    if poisoned then s.poisonedWrite b.val
    else if s.notReady b.val 0 then s
    else match s.bar2At b.val off bs.length with
      | none => s.hole b.val
      | some a => s.memStore a bs

/-! ### BAR4 -/

/-- The value of PTR in a doorbell write (R82). -/
def bellPtr (v : Nat) : Nat := v % 2 ^ 17

/-- A BAR4 write of 4 or 8 bytes at a natural alignment: a doorbell, the STOP page, or a reserved offset (R52, R82, R91). -/
def State.bar4Write (s : State) (b : BenchId) (off size v : Nat) : State :=
  let s := s.hostArrive b.val
  match s.hostGate b.val with
  | .absent | .discard => s
  | .unsupported => s.emit (.unsupported b.val)
  | .limp | .serve =>
    if !hostSizeOk off size then s
    else if off < 0x8000 then
      if off % 8 = 4 || s.notReady b.val 0x3000000000 then s
      else match s.ringOf b.val (off / 8) with
        | none => s.hole b.val
        | some g => s.doorbell g (bellPtr v)
    else if off < 0x9000 then s.stopWrite b.val (off - 0x8000) size v
    else s

/-- A BAR4 read: 0 but for the STOP page's registers (R82, R91). -/
def State.bar4Read (s : State) (b : BenchId) (off size : Nat) : State :=
  let s := s.hostArrive b.val
  match s.hostGate b.val with
  | .absent => s
  | .discard => s.emit (.readReply b.val 0 size false)
  | .unsupported => s.emit (.unsupported b.val)
  | .limp | .serve =>
    if hostSizeOk off size && 0x8000 ≤ off && off < 0x9000 then
      let (lo, s) := s.stopReadWord b.val (off - 0x8000)
      if size = 8 then
        let (hi, s) := s.stopReadWord b.val (off - 0x8000 + 4)
        s.emit (.readReply b.val (lo + hi * 2 ^ 32) 8 false)
      else s.emit (.readReply b.val lo size false)
    else s.emit (.readReply b.val 0 size false)

/-! ### Configuration space (R40, R41, R44 to R47, R61, R62, R66, R67)

The identity, the BARs and the features are the spec's; the offsets of the registers and the order of the capabilities are PCI
Express's and the family's (PRESUMED, log 7): Power Management at 0x40, PCI Express at 0x50, MSI-X at 0x90; AER at 0x100, the
serial number at 0x148, PTM at 0x158, L1 PM Substates at 0x168. -/

/-- Some error of a kind is logged. -/
def Fn.logged (q : Fn) (k : TlpError) : Bool := q.aer.contains k

/-- Configuration words below 0x40: identity, Command and Status, the BARs, the capability pointer (R41, R44, R45, R47). -/
def State.cfgHeader (s : State) (b off : Nat) : Nat :=
  let q := s.fn b
  match off with
  | 0x00 => 0x5C081D9A
  | 0x04 => q.memSpace.toNat * 2 + q.busMaster.toNat * 4 + 2 ^ 20
  | 0x08 => 0x03800001
  | 0x0C => (decide (1 < (s.linkBenches (s.plan.bench b).link).length)).toNat * 2 ^ 23
  | 0x10 => q.bar0 % 2 ^ 32 + 4
  | 0x14 => q.bar0 / 2 ^ 32
  | 0x18 => q.bar2 % 2 ^ 32 + 12
  | 0x1C => q.bar2 / 2 ^ 32
  | 0x20 => q.bar4 % 2 ^ 32 + 4
  | 0x24 => q.bar4 / 2 ^ 32
  | 0x2C => 0x00011D9A
  | 0x34 => 0x40
  | _ => 0

/-- The capabilities below 0x100: Power Management, PCI Express, MSI-X (R40, R45, R63, R66). -/
def State.cfgCaps (s : State) (b off : Nat) : Nat :=
  let q := s.fn b
  let l := (s.plan.bench b).link
  match off with
  | 0x40 => 0x00035001
  | 0x44 => q.d3.toNat * 3
  | 0x50 => 0x00029010
  | 0x54 => 0x10008022
  | 0x58 => q.devCtl.toNat
  | 0x5C => 5 + linkWidth s.plan.linkCfg l * 2 ^ 4 + 2 * 2 ^ 10 + 4 * 2 ^ 15 + 2 ^ 22 + l * 2 ^ 24
  | 0x60 => q.l1On.toNat * 2 + (s.link l).rate * 2 ^ 16 + (s.link l).width * 2 ^ 20
      + (!nbit s.plan.linkClock l).toNat * 2 ^ 28
  | 0x74 => 0x0003000F
  | 0x78 => q.devCtl2.toNat
  | 0x7C => 0x3E
  | 0x90 => 0x00FF0011 + q.fnMask.toNat * 2 ^ 30 + q.msixOn.toNat * 2 ^ 31
  | 0x94 => 0x8000
  | 0x98 => 0x9000
  | _ => 0

/-- The extended capabilities: AER, the serial number, PTM, L1 PM Substates (R40, R45, R51, R64, R66, R68). -/
def State.cfgExtended (s : State) (b off : Nat) : Nat :=
  let q := s.fn b
  match off with
  | 0x100 => 0x14820001
  | 0x104 => (decide (0 < q.poisoned)).toNat * 2 ^ 12 + (q.logged .malformed).toNat * 2 ^ 18 + (q.logged .ecrc).toNat * 2 ^ 19
  | 0x108 => q.aerMask.toNat
  | 0x10C => q.aerSevere.toNat
  | 0x110 => (q.logged .lcrc).toNat * 2 ^ 6
  | 0x114 => q.aerCorMask.toNat
  | 0x118 => 2 ^ 5 + q.ecrcGen.toNat * 2 ^ 6 + 2 ^ 7 + q.ecrcChk.toNat * 2 ^ 8
  | 0x148 => 0x15810003
  | 0x14C => Config.serialNumber.toNat % 2 ^ 32
  | 0x150 => Config.serialNumber.toNat / 2 ^ 32
  | 0x158 => 0x1681001F
  | 0x15C => 1
  | 0x160 => q.ptmOn.toNat
  | 0x168 => 0x0001001E
  | 0x16C => 0x1C
  | 0x170 => q.l12On.toNat * 4 + q.l11On.toNat * 8
  | _ => 0

/-- A configuration word as it reads. -/
def State.cfgRead (s : State) (b off : Nat) : Nat :=
  if off < 0x40 then s.cfgHeader b off else if off < 0x100 then s.cfgCaps b off else s.cfgExtended b off

/-- A BAR written: the bits below its size read 0. -/
def barSet (old size : Nat) (high : Bool) (n : Nat) : Nat :=
  let v := if high then old % 2 ^ 32 + n * 2 ^ 32 else n + old / 2 ^ 32 * 2 ^ 32
  v / size * size

/-- Command, the BARs, and the capabilities' controls, written (R40, R46, R60, R63, R65 to R67). A change of PowerState enters or
leaves D3hot, and Initiate Function Level Reset is one; an unsupported PowerState is ignored. -/
def State.cfgPut (s : State) (b off n : Nat) : State :=
  let q := s.fn b
  let v16 := BitVec.ofNat 16 n
  match off with
  | 0x04 => ((if nbit n 2 then s else s.carsIssue b).setFn b { q with memSpace := nbit n 1, busMaster := nbit n 2 }).msixFlush b
  | 0x10 => s.setFn b { q with bar0 := barSet q.bar0 0x2000000 false n }
  | 0x14 => s.setFn b { q with bar0 := barSet q.bar0 0x2000000 true n }
  | 0x18 => s.setFn b { q with bar2 := barSet q.bar2 (s.plan.bar2Size b) false n }
  | 0x1C => s.setFn b { q with bar2 := barSet q.bar2 (s.plan.bar2Size b) true n }
  | 0x20 => s.setFn b { q with bar4 := barSet q.bar4 0x10000 false n }
  | 0x24 => s.setFn b { q with bar4 := barSet q.bar4 0x10000 true n }
  | 0x44 => if n % 4 = 3 then s.d3Enter b else if n % 4 = 0 then s.d3Leave b else s
  | 0x58 =>
    let s := s.setFn b { q with devCtl := v16 &&& 0x7FFF }
    if nbit n 15 then s.flr b else s
  | 0x60 => s.setFn b { q with l1On := nbit n 1 }
  | 0x78 => s.setFn b { q with devCtl2 := v16 &&& 0x100F }
  | 0x90 => (s.setFn b { q with msixOn := nbit n 31, fnMask := nbit n 30 }).msixFlush b
  | 0x108 => s.setFn b { q with aerMask := BitVec.ofNat 32 n &&& 0x007FF030 }
  | 0x10C => s.setFn b { q with aerSevere := BitVec.ofNat 32 n &&& 0x007FF030 }
  | 0x114 => s.setFn b { q with aerCorMask := BitVec.ofNat 32 n &&& 0xF1C1 }
  | 0x118 => s.setFn b { q with ecrcGen := nbit n 6, ecrcChk := nbit n 8 }
  | 0x160 => s.setFn b { q with ptmOn := nbit n 0 }
  | 0x170 => s.setFn b { q with l12On := nbit n 2, l11On := nbit n 3 }
  | _ => s

/-- A configuration word written under byte enables; the AER status bits clear where a 1 is written. -/
def State.cfgWrite (s : State) (b off : Nat) (v : Word) (be : Nat) : State :=
  let q := s.fn b
  let one (k : Nat) : Bool := nbit be (k / 8) && nbit v.toNat k
  if off = 0x104 then
    s.setFn b { q with
      poisoned := if one 12 then 0 else q.poisoned
      aer := q.aer.filter fun k => !((k == .malformed && one 18) || (k == .ecrc && one 19)) }
  else if off = 0x110 then s.setFn b { q with aer := q.aer.filter fun k => !(k == .lcrc && one 6) }
  else s.cfgPut b off (merged (BitVec.ofNat 32 (s.cfgRead b off)) v be).toNat

/-- The byte enables of an access of some bytes at an address, within its word. -/
def beOf (a size : Nat) : Nat := (2 ^ min size 4 - 1) * 2 ^ (a % 4) % 16

/-- Bench b's function is being reset behind a link that is up, or Closing has begun: its accesses are discarded, and a read returns 0 (R61,
R71, R519; that a read in Closing does is the model's, log 107). -/
def State.configHeld (s : State) (b : Nat) : Bool :=
  (s.plan.bench b).present && (s.link (s.plan.bench b).link).up && ((s.fn b).resetting || s.mode == .closing)

/-- A configuration write by the host; one function of a link in L1 returns it to L0. -/
def State.hostCfgWrite (s : State) (b : BenchId) (off size v : Nat) : State :=
  if !s.configOpen b.val then s
  else (s.linkWake b.val).cfgWrite b.val (off / 4 * 4) (BitVec.ofNat 32 (v * 2 ^ (8 * (off % 4)))) (beOf off size)

/-- A configuration read by the host. -/
def State.hostCfgRead (s : State) (b : BenchId) (off size : Nat) : State :=
  if s.configHeld b.val then s.emit (.readReply b.val 0 size false)
  else if !s.configOpen b.val then s
  else
    let v := s.cfgRead b.val (off / 4 * 4) / 2 ^ (8 * (off % 4)) % 2 ^ (8 * min size 4)
    (s.linkWake b.val).emit (.readReply b.val v size false)

/-! ### Requesters at a device address -/

/-- A register write by a host at a device address: through the BAR0 window that reaches it (R48). -/
def State.hostDevWrite (s : State) (b : BenchId) (a size v : Nat) : State :=
  s.hostWords b a size v fun t o w => t.servedWrite b o w

/-- A register read by a host at a device address. -/
def State.hostDevRead (s : State) (b : BenchId) (a size : Nat) : State :=
  s.hostWordsRead b a size fun t o => t.servedRead b o

/-- Carter and block engines reach no register: each access to one is blocked and counts for their bench (R29, R377, R391). -/
def State.unitHole (s : State) (r : Requester) : State :=
  match s.benchOf r with
  | some b => s.hole b
  | none => s

end Sys2Proof.Machine
end

