-- ==== Sys2Proof/Machine/Flags.lean ====
section
/-!
DEFINITION. The result and the flags of every Pyriva operation (R129, R133, R143 to R149): pure functions of the operand
values, which are read exactly and narrowed at the end. `n` is the operand width in bits.
-/
namespace Sys2Proof.Machine

/-- The four arithmetic flags. -/
structure Flags where
  z : Bool
  n : Bool
  c : Bool
  v : Bool
deriving DecidableEq, Repr

/-- Z and N of a result, with C and V as given (R129). -/
def flagsOf (bits r : Nat) (c v : Bool) : Flags := { z := r == 0, n := nbit r (bits - 1), c := c, v := v }

/-- The flags of a FLAGS register word (R98). -/
def flagsRead (w : Nat) : Flags := { z := nbit w 0, n := nbit w 1, c := nbit w 2, v := nbit w 3 }

/-- FLAGS with its four arithmetic flags replaced; RB stays. -/
def flagsPut (w : Word) (f : Flags) : Word := setBit (setBit (setBit (setBit w 0 f.z) 1 f.n) 2 f.c) 3 f.v

/-- The signed value fits in the width. -/
def fits (bits : Nat) (i : Int) : Bool := decide (-(2 ^ (bits - 1) : Int) ≤ i) && decide (i < (2 ^ (bits - 1) : Int))

/-- a + b + carry: the result and its flags (R143, R144). -/
def opAdd (bits a b : Nat) (carry : Bool) : Nat × Flags :=
  let sum := a + b + carry.toNat
  let r := sum % 2 ^ bits
  (r, flagsOf bits r (decide (2 ^ bits ≤ sum)) (!fits bits (sgn bits a + sgn bits b + carry.toNat)))

/-- a − b − borrow: the result and its flags; C is 1 when no borrow occurs (R143, R144). -/
def opSub (bits a b : Nat) (borrow : Bool) : Nat × Flags :=
  let r := narrow bits (Int.ofNat a - Int.ofNat b - borrow.toNat)
  (r, flagsOf bits r (decide (b + borrow.toNat ≤ a)) (!fits bits (sgn bits a - sgn bits b - borrow.toNat)))

/-- A result with C and V cleared. -/
def plainFlags (bits r : Nat) : Nat × Flags := (r, flagsOf bits r false false)

/-- MUL, MULHS, MULHU (R143). -/
def opMul (bits a b : Nat) : Nat × Flags := plainFlags bits (a * b % 2 ^ bits)
def opMulHS (bits a b : Nat) : Nat × Flags :=
  plainFlags bits (narrow bits ((sgn bits a * sgn bits b) / (2 ^ bits : Int)))
def opMulHU (bits a b : Nat) : Nat × Flags := plainFlags bits (a * b / 2 ^ bits)

/-- DIVS with a non-zero divisor: rounded toward zero; the most negative value by −1 keeps it and sets V (R145). -/
def opDivS (bits a b : Nat) : Nat × Flags :=
  let q := Int.tdiv (sgn bits a) (sgn bits b)
  let r := narrow bits q
  (r, flagsOf bits r false (!fits bits q))
/-- DIVU with a non-zero divisor. -/
def opDivU (bits a b : Nat) : Nat × Flags := plainFlags bits (a / b)
/-- REMS with a non-zero divisor: the sign is the dividend's. -/
def opRemS (bits a b : Nat) : Nat × Flags := plainFlags bits (narrow bits (Int.tmod (sgn bits a) (sgn bits b)))
/-- REMU with a non-zero divisor. -/
def opRemU (bits a b : Nat) : Nat × Flags := plainFlags bits (a % b)
/-- ABS: the most negative value stays and sets V (R145). -/
def opAbs (bits a : Nat) : Nat × Flags :=
  let i := sgn bits a
  let m := if i < 0 then -i else i
  let r := narrow bits m
  (r, flagsOf bits r false (!fits bits m))

/-- The logic group (R146). -/
def opAnd (bits a b : Nat) : Nat × Flags := plainFlags bits (a &&& b)
def opOr (bits a b : Nat) : Nat × Flags := plainFlags bits (a ||| b)
def opXor (bits a b : Nat) : Nat × Flags := plainFlags bits (a ^^^ b)
def opNot (bits a : Nat) : Nat × Flags := plainFlags bits (2 ^ bits - 1 - a % 2 ^ bits)
def opAndn (bits a b : Nat) : Nat × Flags := plainFlags bits (a &&& (2 ^ bits - 1 - b % 2 ^ bits))

/-- SHL (R147). -/
def opShl (bits a n : Nat) : Nat × Flags :=
  if n = 0 then (a, flagsOf bits a false false)
  else if n ≤ bits then
    let r := a * 2 ^ n % 2 ^ bits
    (r, flagsOf bits r (nbit a (bits - n)) false)
  else (0, flagsOf bits 0 false false)
/-- SHR (R147). -/
def opShr (bits a n : Nat) : Nat × Flags :=
  if n = 0 then (a, flagsOf bits a false false)
  else if n ≤ bits then
    let r := a / 2 ^ n
    (r, flagsOf bits r (nbit a (n - 1)) false)
  else (0, flagsOf bits 0 false false)
/-- SAR (R147). -/
def opSar (bits a n : Nat) : Nat × Flags :=
  if n = 0 then (a, flagsOf bits a false false)
  else if n ≤ bits then
    let r := narrow bits (sgn bits a / (2 ^ n : Int))
    (r, flagsOf bits r (nbit a (n - 1)) false)
  else
    let sign := nbit a (bits - 1)
    let r := if sign then 2 ^ bits - 1 else 0
    (r, flagsOf bits r sign false)
/-- ROL (R147). -/
def opRol (bits a n : Nat) : Nat × Flags :=
  let k := n % bits
  if k = 0 then (a, flagsOf bits a false false)
  else
    let r := (a * 2 ^ k) % 2 ^ bits + a / 2 ^ (bits - k)
    (r, flagsOf bits r (nbit r 0) false)
/-- ROR (R147). -/
def opRor (bits a n : Nat) : Nat × Flags :=
  let k := n % bits
  if k = 0 then (a, flagsOf bits a false false)
  else
    let r := a / 2 ^ k + (a % 2 ^ k) * 2 ^ (bits - k)
    (r, flagsOf bits r (nbit r (bits - 1)) false)

/-- The number of leading zero bits of the low `k` bits, seen from bit k − 1 down. -/
def leadZeros (a : Nat) : Nat → Nat
  | 0 => 0
  | k + 1 => if nbit a k then 0 else 1 + leadZeros a k
/-- CLZ (R146). -/
def opClz (bits a : Nat) : Nat × Flags :=
  let r := leadZeros a bits
  (r, flagsOf bits r (a == 0) false)
/-- POPC (R146). -/
def opPopc (bits a : Nat) : Nat × Flags := plainFlags bits (popCount bits a)

/-- The position and the mask of a field operand (R148). -/
def fieldPos (f : Nat) : Nat := nfld f 5 0
def fieldMask (f : Nat) : Nat :=
  let w := nfld f 13 8
  2 ^ (if w = 0 then 64 else w) - 1
/-- BFX (R148). -/
def opBfx (bits a f : Nat) : Nat × Flags := plainFlags bits ((a / 2 ^ fieldPos f) &&& fieldMask f)
/-- BFI (R148). -/
def opBfi (bits a f d : Nat) : Nat × Flags :=
  let m := (fieldMask f * 2 ^ fieldPos f) % 2 ^ bits
  plainFlags bits ((d &&& (2 ^ bits - 1 - m)) ||| (((a &&& fieldMask f) * 2 ^ fieldPos f) % 2 ^ bits))

/-- Saturating sums and limits (R149). -/
def opQadd (bits a b : Nat) : Nat × Flags :=
  let i := sgn bits a + sgn bits b
  let r := narrow bits (clampI (-(2 ^ (bits - 1) : Int)) ((2 ^ (bits - 1) : Int) - 1) i)
  (r, flagsOf bits r false (!fits bits i))
def opQsub (bits a b : Nat) : Nat × Flags :=
  let i := sgn bits a - sgn bits b
  let r := narrow bits (clampI (-(2 ^ (bits - 1) : Int)) ((2 ^ (bits - 1) : Int) - 1) i)
  (r, flagsOf bits r false (!fits bits i))
def opQaddu (bits a b : Nat) : Nat × Flags :=
  let r := min (a + b) (2 ^ bits - 1)
  (r, flagsOf bits r (decide (2 ^ bits ≤ a + b)) false)
def opQsubu (bits a b : Nat) : Nat × Flags :=
  let r := a - b
  (r, flagsOf bits r (decide (a < b)) false)
def opMins (bits a b : Nat) : Nat × Flags := plainFlags bits (if sgn bits a ≤ sgn bits b then a else b)
def opMaxs (bits a b : Nat) : Nat × Flags := plainFlags bits (if sgn bits a ≤ sgn bits b then b else a)
def opMinu (bits a b : Nat) : Nat × Flags := plainFlags bits (min a b)
def opMaxu (bits a b : Nat) : Nat × Flags := plainFlags bits (max a b)

/-- A value with its bytes in reverse order (R140). -/
def byteSwap (size v : Nat) : Nat := leNat (leBytes size v).reverse

/-- A condition code on FLAGS (R133): code 0xF tests RB, code 0x7 is always true, and bit 3 names the opposite of codes
0x0 to 0x6. -/
def condTrue (cc : Nat) (w : Nat) : Bool :=
  let f := flagsRead w
  match cc % 16 with
  | 0 => f.z
  | 1 => f.c
  | 2 => f.n
  | 3 => f.v
  | 4 => f.c && !f.z
  | 5 => f.n == f.v
  | 6 => !f.z && f.n == f.v
  | 7 => true
  | 8 => !f.z
  | 9 => !f.c
  | 10 => !f.n
  | 11 => !f.v
  | 12 => !f.c || f.z
  | 13 => f.n != f.v
  | 14 => f.z || f.n != f.v
  | _ => nbit w 4

end Sys2Proof.Machine
end

