-- ==== Sys2Proof/Machine/Operands.lean ====
section
/-!
DEFINITION. The form of a Pyriva instruction (R99, R101, R102, R123, R126, R127): what makes a parcel illegal at decode,
how many extension parcels an operand has, and the base costs of the instructions.
-/
namespace Sys2Proof.Machine

/-- The kinds of operand (R127). -/
inductive OpKind where
  | r
  | w
  | m
  | a
deriving DecidableEq, Repr

/-- An operand in its place: its kind and its size in bytes. -/
structure Slot where
  kind : OpKind
  size : Nat
  op   : Operand
deriving DecidableEq, Repr

/-- The addressing mode of a specifier (R101). -/
def modeOf (spec : Parcel) : Nat := nfld spec.toNat 15 12

/-- A register number exists on this kind of core, and a 64-bit operand names an even one (R98, R99). -/
def regNumOk (line : Bool) (n size : Nat) : Bool :=
  (decide (n ≤ 9) || (line && (n == 10 || n == 11)) || (decide (16 ≤ n) && decide (n ≤ 41)))
    && !(size == 8 && n % 2 == 1)

/-- A specifier parcel that traps ILLEGAL at decode (R99, R101, R102, R127). `line`: the core has LINE and SPAN. -/
def specBad (line : Bool) (k : OpKind) (size : Nat) (spec : Parcel) : Bool :=
  let v := spec.toNat
  let any (hi lo : Nat) : Bool := nfld v hi lo != 0
  match modeOf spec with
  | 0 => k == .a || any 11 6 || !regNumOk line (nfld v 5 0) size
  | 1 => k != .r || any 11 0
  | 2 => k != .r || any 11 9
  | 3 => any 8 0
  | 4 => any 11 0
  | 5 => any 5 0
  | 6 => any 5 0
  | 7 => any 5 0
  | 8 => any 0 0
  | 9 => any 11 0
  | 10 => !line || any 8 0
  | 11 => !line || any 8 0
  | 12 => any 11 0
  | 13 => any 11 0
  | _ => true

/-- How many extension parcels an operand has (R101). -/
def extCount (mode size : Nat) : Nat :=
  match mode with
  | 1 => (size + 1) / 2
  | 3 => 1
  | 4 => 3
  | 5 => 1
  | 9 => 1
  | 10 => 2
  | 11 => 2
  | _ => 0

/-- Extension parcel i has a reserved bit set (R101, R102). -/
def extBad (mode size : Nat) (ext : Double) (i : Nat) : Bool :=
  let p := nfld ext.toNat (16 * i + 15) (16 * i)
  match mode with
  | 1 => size == 1 && nfld p 15 8 != 0
  | 4 => i == 2 && nfld p 15 8 != 0
  | _ => false

/-- The parcels of an operand, each with whether it is illegal. -/
def slotParcels (line : Bool) (x : Slot) : List Bool :=
  let mode := modeOf x.op.spec
  specBad line x.kind x.size x.op.spec ::
    (List.range (extCount mode x.size)).map fun i => extBad mode x.size x.op.ext i

/-- A size code (R126). -/
def sizeOfVar (v : Nat) : Nat := 2 ^ (v % 4)

/-- VAR of kind S: bits [3:2] are reserved. -/
def varBadS (v : BitVec 4) : Bool := nfld v.toNat 3 2 != 0
/-- VAR of kind S2: the source size is below the destination size. -/
def varBadS2 (v : BitVec 4) : Bool := decide (v.toNat % 4 ≤ nfld v.toNat 3 2)
/-- VAR of kind N: reserved. -/
def varBadN (v : BitVec 4) : Bool := v.toNat != 0

/-- The extra cycles of an addressing mode (R101). -/
def modeExtra (mode : Nat) : Nat := if mode = 8 ∨ mode = 10 ∨ mode = 11 then 1 else 0

/-- The base cost of MUL and MAC (R143). -/
def mulCost (size : Nat) : Nat := if size = 8 then 4 else 2
/-- The base cost of a division (R143). -/
def divCost (size : Nat) : Nat := if size = 8 then 34 else if size = 4 then 18 else 10

/-- A string instruction's operand slots (R153). -/
def stringSlots (op : StringOp) (size : Nat) : List Slot :=
  match op with
  | .sset a => [{ kind := .r, size := size, op := a }]
  | .sget d => [{ kind := .w, size := size, op := d }]
  | .sfind a => [{ kind := .r, size := size, op := a }]
  | _ => []

/-- A string instruction compares (R155). -/
def stringCompares : StringOp → Bool
  | .scmp => true
  | .sfind _ => true
  | _ => false

/-- The opcodes of the map that are defined (R128). -/
def opcodeDefined (op : Nat) : Bool :=
  decide (op ≤ 0x0A) || (decide (0x10 ≤ op) && decide (op ≤ 0x17)) || (decide (0x20 ≤ op) && decide (op ≤ 0x2E))
    || (decide (0x30 ≤ op) && decide (op ≤ 0x3E)) || (decide (0x40 ≤ op) && decide (op ≤ 0x47))
    || op == 0x50 || op == 0x51 || (decide (0x60 ≤ op) && decide (op ≤ 0x64))
    || (decide (0x70 ≤ op) && decide (op ≤ 0x74))

end Sys2Proof.Machine
end

