-- ==== Sys2Proof/Machine/Pyriva.lean ====
section
/-!
DEFINITION. How a Pyriva core carries out one instruction (R95 to R131): fetching its parcels, decoding, the guard, operand
addresses with their faults, reads, flags, writes, jumps, taking a trap and returning from one, and the instruction's
clocks. Every instruction is this one driver over its operand slots and its own operation.
-/
namespace Sys2Proof.Machine

/-! ### When a core begins an instruction -/

/-- LATE_EN is 1 and ICTL.TRAPPED is 0: a pending LATE is taken at this boundary (R183). -/
def State.lateDue (s : State) (c : Nat) : Bool :=
  (s.core c).late && s.bit (kCore c 0x40) 0 && !s.bit (kWin c 0xA0) 2

/-- INT is taken at this boundary: IE is 1, TRAPPED is 0 and a source is offered to the core (R113). -/
def State.intDue (s : State) (c : CoreId) : Bool :=
  match targetOf c with
  | none => false
  | some t => s.bit (kWin (coreNum c) 0xA0) 0 && !s.bit (kWin (coreNum c) 0xA0) 2 && (s.offerFor t).isSome

/-- The core's clock runs and nothing freezes it: scene cores and line cores in Opening and Run, and in Closing until its sequence
halts them; the Clerk wherever its firmware runs (R495, R519, R535, R539). -/
def State.coreMode (s : State) (c : Nat) : Bool :=
  if c < 40 then (s.mode == .opening || s.mode == .run || s.mode == .closing) && !(s.core c).frozen else !(s.mode == .noPower)

/-- The core is at an instruction boundary and nothing is taken before its next instruction. -/
def State.atBoundary (s : State) (c : CoreId) : Bool :=
  let n := coreNum c
  let q := s.core n
  !s.halted n && s.coreMode n && q.wait == .none && q.haltAsk == 0
    && !s.intDue c && !(decide (32 ≤ n) && s.lateDue n)

/-- The core begins an instruction. -/
def State.canRun (s : State) (c : CoreId) : Bool := s.atBoundary c && (s.core (coreNum c)).rep.isNone

/-! ### Traps (R109 to R113) -/

/-- What a fault records beside the trap: nothing, a blocked access, or an uncorrectable read. -/
inductive Note where
  | none
  | hole
  | ue (a n : Nat)
deriving DecidableEq, Repr

/-- Why an instruction does not complete: a trap with its cause, TPC and TADDR, or a wait inside it. -/
inductive Stop where
  | trap (cause tpc addr : Nat) (note : Note)
  | stall (w : CoreWait)
deriving DecidableEq, Repr

/-- Trap entry (R111), or the double trap that halts the core, or restarts the Clerk (R112, R497). A step ends with it. -/
def State.trapTake (s : State) (c cause tpc addr : Nat) : State :=
  let k := kWin c
  if cause ≠ 7 ∧ s.bit (k 0xA0) 2 then (if c = 40 then s.clerkRestart else s.haltCore c 4)
  else
    let s := (s.wr64 (k 0x88) (tpc % 2 ^ 40)).wr (k 0x90) (s.rd (k 0x20))
    let s := (s.wrN (k 0x94) cause).wr64 (k 0x98) (addr % 2 ^ 40)
    let s := s.setB (k 0xA0) 1 (s.bit (k 0xA0) 0)
    let s := (s.setB (k 0xA0) 0 false).setB (k 0xA0) 2 true
    let s := s.setPc c (s.rd64 (k 0x80) + 0x20 * cause)
    let q := s.core c
    let s := (s.setCore c { q with wait := .none, rep := none, jump := none, cntHit := false, late := false }).spend c 8
    if q.stepArm && cause ≠ 7 && cause ≠ 8 then s.haltCore c 3 else s

/-- The bench of a core, if it has one. -/
def State.coreHolder (s : State) (c : CoreId) : Option Nat := s.benchOf (.core c)

/-- What a fault leaves beside the trap: DECODE_HOLE, or the uncorrectable read's count. -/
def State.noted (s : State) (c : CoreId) (n : Note) : State :=
  match n with
  | .none => s
  | .hole => match s.coreHolder c with
    | some b => s.hole b
    | none => s
  | .ue a n => s.readUe a n

/-- An instruction that does not complete leaves the state as it was before it, but for the trap or the wait (R110). -/
def State.stopped (s : State) (c : CoreId) (e : Stop) : State :=
  let n := coreNum c
  match e with
  | .trap cause tpc addr note => (s.noted c note).trapTake n cause tpc addr
  | .stall w => s.setCore n { s.core n with wait := w }

/-! ### Fetch (R95, R114, R124, R125) -/

/-- The operand-cache line that holds an address. -/
def lineOf (a : Nat) : Nat := a / 64 * 64

/-- A line that core c's operand cache holds (R106). -/
def State.cacheHit (s : State) (c line : Nat) : Option (BitVec 512) :=
  ((s.core c).cache.find? fun e => e.1 == line).map (·.2)

/-- A core's read of a word of memory meets no fault; an asset read of a scene core needs its line in the operand cache,
unless the line holds uncorrectable words, which are read past the cache (R106, R411). -/
def State.readFault (s : State) (c : CoreId) (pc m a size : Nat) : Option Stop :=
  let miss := match c with
    | .scene n => m < 0x2000000000 && (s.cacheHit n.val (lineOf m)).isNone
    | _ => false
  let hit := match c with
    | .scene n => m < 0x2000000000 && (s.cacheHit n.val (lineOf m)).isSome
    | _ => false
  if hit then none
  else if s.marked m size then some (.trap 4 pc a (.ue m size))
  else if miss && !s.marked (lineOf m) 64 then some (.stall (.fill (lineOf m)))
  else none

/-- The fault of fetching the parcel at an address, if any (R95, R125). A place that the core reaches and cannot fetch from
refuses the fetch without a count in DECODE_HOLE. -/
def State.fetchFault (s : State) (c : CoreId) (pc a : Nat) : Option Stop :=
  let t := s.coreTarget c a
  let bus : Option Stop := some (.trap 3 pc a (if t == .hole then .hole else .none))
  match c with
  | .clerk => match t with
    | .house false _ => none
    | _ => bus
  | .line h => if lineMemHead a == some h.val then s.readFault c pc a a 2 else bus
  | .scene n =>
    match t with
    | .mem m =>
      if m < 0x2000000000 || m / 0x10000 == 0x200000 + n.val || (0x2000200000 ≤ m && m < 0x2000400000)
      then s.readFault c pc m a 2 else bus
    | _ => bus

/-- The parcels of an instruction, fetched and decoded in order: the first fault (R114). Each parcel comes with whether it
is illegal. -/
def State.fetchAll (s : State) (c : CoreId) (pc : Nat) : List Bool → Nat → Option Stop
  | [], _ => none
  | bad :: rest, i =>
    match s.fetchFault c pc ((pc + 2 * i) % 2 ^ 40) with
    | some e => some e
    | none => if bad then some (.trap 1 pc 0 .none) else s.fetchAll c pc rest (i + 1)

/-! ### Operands (R98 to R107, R127) -/

/-- Where an operand lies: a value of the instruction itself, an address that is only computed, or a place a core reaches. -/
inductive Loc where
  | imm (v : Nat)
  | addr (a : Nat)
  | place (a : Nat) (t : Target)
deriving DecidableEq, Repr

/-- Xr of a core. -/
def kX (c r : Nat) : Nat := kWin c (0x60 + 4 * r)

/-- The address of an operand of mode 0 or of a mode from 3 on, and the state with the mode's side effect (R98, R100,
R101). -/
def State.operandAddr (s : State) (c pc : Nat) (size : Nat) (o : Operand) : Nat × State :=
  let v := o.spec.toNat
  let ext := o.ext.toNat
  let e1 := nfld ext 15 0
  let e2 := nfld ext 31 16
  let page := s.rdN (kWin c (0x40 + 4 * nfld v 11 9)) % 2 ^ 24 * 65536
  let r := nfld v 8 6
  let x := s.rdN (kX c r)
  let long (a : Int) : Nat := narrow 40 a
  let (line, span) := s.beamOf c
  match modeOf o.spec with
  | 0 => (0xFFFFFF0000 + 4 * nfld v 5 0, s)
  | 3 => (page + e1, s)
  | 4 => (nfld ext 47 0 % 2 ^ 40, s)
  | 5 => (page + (x + e1) % 65536, s)
  | 6 => (page + x % 65536, s.wrN (kX c r) (x + size))
  | 7 =>
    let y := (x + 2 ^ 32 - size) % 2 ^ 32
    (page + y % 65536, s.wrN (kX c r) y)
  | 8 => (page + (x + s.rdN (kX c (nfld v 5 3)) * 2 ^ nfld v 2 1) % 65536, s)
  | 9 => (long (Int.ofNat pc + sgn 16 e1), s)
  | 10 => (page + (e1 + line * e2) % 65536, s)
  | 11 => (page + (e1 + span * e2) % 65536, s)
  | 12 =>
    let p := s.rd64 (kWin c 8) % 2 ^ 40
    (p, s.wr64 (kWin c 8) (long (Int.ofNat p + sgn 16 (s.fld (kWin c 0x18) 15 0))))
  | 13 =>
    let p := s.rd64 (kWin c 0x10) % 2 ^ 40
    (p, s.wr64 (kWin c 0x10) (long (Int.ofNat p + sgn 16 (s.fld (kWin c 0x18) 31 16))))
  | _ => (0, s)

/-- What a core's access of some bytes at an address reaches: both words of a device double must be reachable. -/
def State.reach (s : State) (c : CoreId) (a size : Nat) : Target :=
  match s.coreTarget c a with
  | .dev d =>
    if size = 8 then (match s.coreTarget c (a + 4) with
      | .dev _ => .dev d
      | _ => .hole)
    else .dev d
  | t => t

/-- A read of a head's register by a core comes behind the core's own writes that wait at that head's fabric port (R131). -/
def State.behindOwn (s : State) (c : CoreId) (a : Nat) : Option Stop :=
  if a < 0x3001000000 || 0x3003000000 ≤ a then none
  else
    let h := (headAt a).1
    if ownHead (.core c) != some h && h < 8 && s.fabHolds h (.core c) then some (.stall (.behind h)) else none

/-- The faults of a memory operand in their order, ALIGN, BUS, MEMERR (R107, R114); `reads`: the operand is read. -/
def State.placeFault (s : State) (c : CoreId) (pc a size : Nat) (reads : Bool) : Option Stop :=
  if a % size ≠ 0 then some (.trap 2 pc a .none)
  else match s.reach c a size with
    | .hole => some (.trap 3 pc a .hole)
    | .mem m => if reads then s.readFault c pc m a size else none
    | .setBits m => if reads then s.readFault c pc m a size else none
    | .clearBits m => if reads then s.readFault c pc m a size else none
    | .dev d => if reads then s.behindOwn c d else none
    | _ => none

/-- An operand's value, address or place, with the mode's side effect, or its first fault (R103, R114, R127). -/
def State.operand (s : State) (c : CoreId) (pc : Nat) (x : Slot) : Except Stop (Loc × State) :=
  let n := coreNum c
  match modeOf x.op.spec with
  | 1 => .ok (.imm (x.op.ext.toNat % 2 ^ (8 * x.size)), s)
  | 2 => .ok (.imm (sext 9 (8 * x.size) (nfld x.op.spec.toNat 8 0)), s)
  | _ =>
    let (a, t) := s.operandAddr n pc x.size x.op
    match x.kind with
    | .a => .ok (.addr a, t)
    | k =>
      match s.placeFault c pc a x.size (k != .w) with
      | some e => .error e
      | none => .ok (.place a (s.reach c a x.size), t)

/-- Every operand in its order (R103, R154). -/
def State.operands (s : State) (c : CoreId) (pc : Nat) : List Slot → Except Stop (List Loc × State)
  | [] => .ok ([], s)
  | x :: rest =>
    match s.operand c pc x with
    | .error e => .error e
    | .ok (l, t) =>
      match t.operands c pc rest with
      | .error e => .error e
      | .ok (ls, u) => .ok (l :: ls, u)

/-! ### Reads and writes -/

/-- A value of up to 8 bytes read as words, lower word first, by a read of one word. A byte or a halfword of a register is read by
a read of its whole word, so that all the word's RC fields clear: the spec does not say which part a narrow read clears
(DESIGN CHOICE, log 72). -/
def readWords (s : State) (rd : State → Nat → Word × State) (a size : Nat) : Nat × State :=
  let (lo, t) := rd s (a / 4 * 4)
  if size = 8 then
    let (hi, u) := rd t (a + 4)
    (lo.toNat + hi.toNat * 2 ^ 32, u)
  else (lo.toNat / 2 ^ (8 * (a % 4)) % 2 ^ (8 * size), t)

/-- A value of up to 8 bytes written as words, lower word first, by a write of one word under byte enables. -/
def writeWords (s : State) (wr : State → Nat → Word → Nat → State) (a size v : Nat) : State :=
  let t := wr s (a / 4 * 4) (BitVec.ofNat 32 (v * 2 ^ (8 * (a % 4)))) (beOf a size)
  if size = 8 then wr t (a + 4) (BitVec.ofNat 32 (v / 2 ^ 32)) 15 else t

/-- The bytes of house flash or the Counting-House SRAM from an offset. -/
def State.houseBytes (s : State) (flash : Bool) (off : Nat) : Nat → List Byte
  | 0 => []
  | n + 1 =>
    (if flash then Sparse.get (fun _ => 0xFF) s.flash off else Sparse.get (fun _ => 0xFF) s.sram off)
      :: s.houseBytes flash (off + 1) n

/-- The bytes of the safe cards' images in the house working area (R416, R537). -/
def State.cardBytes (s : State) (off n : Nat) : List Byte := imageBytes s.cards (cardAt 0 + off) n

/-- The bytes of the sensor words from an offset, two to a word, low byte first (R28, R498). -/
def State.sensorAt (s : State) (off : Nat) : Nat → List Byte
  | 0 => []
  | n + 1 => BitVec.ofNat 8 (s.sensorWord (off / 2) / 256 ^ (off % 2)) :: s.sensorAt (off + 1) n

/-- A flash offset lies in a slot record, which only Cobbler and the boot ROM write (R553). -/
def inSlotRecord (off : Nat) : Bool := decide (off < 0x10000000) && decide (0x7FFF000 ≤ off % 0x8000000)

/-- Bytes stored in the Counting-House's private space; a store to a slot record is discarded (R553). -/
def State.housePut (s : State) (flash : Bool) (off : Nat) : List Byte → State
  | [] => s
  | b :: t =>
    (if flash then (if inSlotRecord off then s else { s with flash := Sparse.set (fun _ => (0xFF : Byte)) s.flash off b })
      else { s with sram := Sparse.set (fun _ => (0xFF : Byte)) s.sram off b }).housePut flash (off + 1) t

/-- A read of memory by a core: a scene core reads asset memory from the line its operand cache holds (R106). -/
def State.coreLoad (s : State) (c : CoreId) (m size : Nat) : Nat :=
  let line := match c with
    | .scene n => if m < 0x2000000000 then s.cacheHit n.val (lineOf m) else none
    | _ => none
  match line with
  | some v => v.toNat / 2 ^ (8 * (m % 64)) % 2 ^ (8 * size)
  | none => s.loadN m size

/-- The errors that a core's read of memory corrects: none where the line comes from the core's operand cache (R106, R411). -/
def State.coreMends (s : State) (c : CoreId) (m size : Nat) : State :=
  match c with
  | .scene n => if m < 0x2000000000 && (s.cacheHit n.val (lineOf m)).isSome then s else s.mends m size
  | _ => s.mends m size

/-- What a core reads at a place (R98, R104, R420). -/
def State.readPlace (s : State) (c : CoreId) (size : Nat) (t : Target) : Nat × State :=
  match t with
  | .mem m => (s.coreLoad c m size, s.coreMends c m size)
  | .setBits m => (s.loadN m size, s.mends m size)
  | .clearBits m => (s.loadN m size, s.mends m size)
  | .window off => readWords s (fun s off => (s.winRead (coreNum c) off, s)) off size
  | .dev a => readWords s (fun s a => s.devRead (.core c) a) a size
  | .house f off => (leNat (s.houseBytes f off size), s)
  | .card off => (leNat (s.cardBytes off size), s)
  | .sensors off => (leNat (s.sensorAt off size), s)
  | .bench b off => readWords s (fun s off => s.benchRead b off) off size
  | .hole => (0, s)

/-- A cached line with bytes of it replaced from an address. -/
def linePut (v : BitVec 512) (m : Nat) (bs : List Byte) : BitVec 512 :=
  let n := v.toNat
  let lo := 8 * (m % 64)
  let len := 8 * bs.length
  BitVec.ofNat 512 (n - n / 2 ^ lo % 2 ^ len * 2 ^ lo + leNat bs * 2 ^ lo)

/-- A core's store to memory: it goes to memory, and into the core's own cached line (R106). -/
def State.coreStore (s : State) (c : CoreId) (m : Nat) (bs : List Byte) : State :=
  let s := s.memStore m bs
  match c with
  | .scene n =>
    if m < 0x2000000000 then
      s.setCore n.val { s.core n.val with
        cache := (s.core n.val).cache.map fun e => if e.1 == lineOf m then (e.1, linePut e.2 m bs) else e }
    else s
  | _ => s

/-- An alias write (R420): a corrected error is mended first, and bits are set or cleared in place; a mark stays, and counts as an
uncorrectable read for the bench whose page it is. -/
def State.aliasStore (s : State) (m size v : Nat) (set : Bool) : State :=
  let s := s.mends m size
  let old := s.loadN m size
  let new := if set then old ||| v else old &&& (2 ^ (8 * size) - 1 - v % 2 ^ (8 * size))
  let t := { s with mem := putBytes s.mem m (leBytes size new) }
  if s.marked m size then (match s.eccHolder m with
    | some b => t.countUe b (s.firstMark m size |>.getD m)
    | none => t)
  else t

/-- A core's write at a place (R98, R107, R168, R420). -/
def State.writePlace (s : State) (c : CoreId) (size v : Nat) (t : Target) : State :=
  match t with
  | .mem m => s.coreStore c m (leBytes size v)
  | .setBits m => s.aliasStore m size v true
  | .clearBits m => s.aliasStore m size v false
  | .window off => writeWords s (fun s off w be => s.winWrite (coreNum c) off w be true) off size v
  | .dev a => writeWords s (fun s a w be => s.devWrite (.core c) a w be) a size v
  | .house f off => s.housePut f off (leBytes size v)
  | .card off => { s with cards := putFlash s.cards (cardAt 0 + off) (leBytes size v) }
  | .sensors _ => s
  | .bench b off => writeWords s (fun s off w be => s.benchWrite b off w be) off size v
  | .hole => s

/-- Reads of the operands in order: their values; the address of an address operand, 0 for one that is only written. -/
def State.readAll (s : State) (c : CoreId) : List Slot → List Loc → List Nat × State
  | x :: xs, l :: ls =>
    let (v, t) := match x.kind, l with
      | _, .imm v => (v, s)
      | _, .addr a => (a, s)
      | .w, .place _ _ => (0, s)
      | _, .place _ p => s.readPlace c x.size p
    let (vs, u) := t.readAll c xs ls
    (v :: vs, u)
  | _, _ => ([], s)

/-- Destination writes in operand order. -/
def State.writeAll (s : State) (c : CoreId) : List Slot → List Loc → List (Option Nat) → State
  | x :: xs, .place _ p :: ls, some v :: vs => (s.writePlace c x.size (v % 2 ^ (8 * x.size)) p).writeAll c xs ls vs
  | _ :: xs, _ :: ls, _ :: vs => s.writeAll c xs ls vs
  | _, _, _ => s

/-! ### Clocks (R104, R105, R168) -/

/-- The access cost of one operand for a line core; a scratchpad read adds a wait of up to 7 clocks. -/
def State.accessCost (s : State) (x : Slot) (l : Loc) : Nat × State :=
  let reads := x.kind == .r || x.kind == .m
  let writes := x.kind == .w || x.kind == .m
  let cost (rd wr : Nat) : Nat := (if reads then rd else 0) + (if writes then wr else 0)
  match l with
  | .place _ (.mem m) =>
    if 0x2001000000 ≤ m then (cost 1 1, s)
    else if reads then
      let (v, t) := s.fresh
      (cost 2 1 + v % 8, t)
    else (cost 2 1, s)
  | .place _ (.setBits _) | .place _ (.clearBits _) =>
    if reads then
      let (v, t) := s.fresh
      (cost 2 1 + v % 8, t)
    else (cost 2 1, s)
  | .place _ (.dev a) => (if a < 0x3003000000 then cost 4 1 else cost 24 1, s)
  | _ => (0, s)

/-- The clocks of an instruction's operands, with the extra cycles of their modes. -/
def State.operandCost (s : State) : List Slot → List Loc → Nat × State
  | x :: xs, l :: ls =>
    let (a, t) := s.accessCost x l
    let (b, u) := t.operandCost xs ls
    (modeExtra (modeOf x.op.spec) + a + b, u)
  | _, _ => (0, s)

/-- A line core spends an instruction's clocks: base, modes and accesses (R105). -/
def State.spendAll (s : State) (c base : Nat) (xs : List Slot) (ls : List Loc) : State :=
  if (s.core c).counting then
    let (n, t) := s.operandCost xs ls
    t.spend c (base + n)
  else s

/-! ### The instruction -/

/-- What an operation sees: its operands' values, FLAGS, the instruction's address and the next one. -/
structure Ctx where
  vals  : List Nat
  locs  : List Loc
  flags : Word
  pc    : Nat
  next  : Nat

/-- Value i of the operands. -/
def Ctx.val (x : Ctx) (i : Nat) : Nat := x.vals.getD i 0

/-- The carry flag as a borrow or carry in. -/
def Ctx.carry (x : Ctx) : Bool := (flagsRead x.flags.toNat).c

/-- What an operation brings: the value of each destination in operand order, the flags it sets, a jump, and its base
cost. -/
structure Out where
  writes : List (Option Nat)
  flags  : Option Flags
  jump   : Option Nat
  base   : Nat

/-- The flags of an operation are set (R129, R130). -/
def State.putFlags (s : State) (c : Nat) (f : Option Flags) : State :=
  match f with
  | none => s
  | some f => s.wr (kWin c 0x20) (flagsPut (s.rd (kWin c 0x20)) f)

/-- How many writes wait at the beam port of a core's head. -/
def State.portQueue (s : State) (c : Nat) : Nat :=
  match lineHead c with
  | some h => (s.head h).waitCore.length
  | none => 0

/-- A line core remains in an instruction that left a write at its beam port, since the state `u` (R176). -/
def State.portStall (s : State) (c : Nat) (u : State) : State :=
  if u.portQueue c < s.portQueue c then s.setCore c { s.core c with wait := .port } else s

/-- The errors that a line core's fetch of the instruction just carried out has corrected: its parcels lie between PC and the address after
it (R411, R591); a scene core's come from the lines of its operand cache. -/
def State.fetchMends (s : State) (c next : Nat) : State :=
  if (lineHead c).isSome && decide (s.pc c ≤ next) && decide (next ≤ s.pc c + 64) then s.mends (s.pc c) (next - s.pc c) else s

/-- The instruction completes: the core goes on at its jump target or at the next address, and a step halts it (R117,
R124); where a write of it waits at the port, all that follows the wait (R176). -/
def State.retire (s : State) (c next : Nat) : State :=
  let q := s.core c
  let dest := q.jump.getD next
  if q.wait == .port then s.setCore c { q with waitNext := dest, jump := none, cntHit := false }
  else
    let s := s.fetchMends c next
    let s := (s.setPc c dest).setCore c { s.core c with wait := .none, jump := none, cntHit := false }
    if q.stepArm then s.haltCore c 3 else s

/-- The core as an instruction begins in it: a pending LATE that is not taken is dropped (R183). -/
def State.begin_ (s : State) (c : Nat) : State :=
  s.setCore c { s.core c with late := false, jump := none, cntHit := false, atOnce := none }

/-- The instruction writes PC as a destination, which costs one cycle more than its base (R98, R152). -/
def writesPc : List Loc → List (Option Nat) → Bool
  | .place _ (.window off) :: ls, some _ :: vs => decide (off < 8) || writesPc ls vs
  | _ :: ls, _ :: vs => writesPc ls vs
  | _, _ => false

/-- Reads, operation, flags and writes of an instruction whose operands are addressed (R130), or why it does not complete. A
jump to an odd address is its own trap (R125). -/
def State.operate (s : State) (c : CoreId) (pc next : Nat) (slots : List Slot) (locs : List Loc)
    (op : Ctx → Except Stop Out) : Except Stop State :=
  let n := coreNum c
  let (vals, t) := s.readAll c slots locs
  match op { vals := vals, locs := locs, flags := t.rd (kWin n 0x20), pc := pc, next := next } with
  | .error e => .error e
  | .ok out =>
    let u := ((t.putFlags n out.flags).writeAll c slots locs out.writes).portStall n t
    let u := match out.jump with
      | some j => u.setCore n { u.core n with jump := some (j % 2 ^ 40) }
      | none => u
    let base := out.base + (writesPc locs out.writes).toNat
    match (u.core n).jump with
    | some j => if j % 2 = 1 then .error (.trap 2 pc j .none) else .ok (u.spendAll n base slots locs)
    | none => .ok (u.spendAll n base slots locs)

/-- The guard of an instruction is true (R108). -/
def State.guardTrue (s : State) (g : Guard) : Bool := s.bit (kWin (coreNum g.core) 0x24) g.pred.val != g.neg

/-- A core meets an instruction (R114, R130): `parcels` says of each parcel, in order, whether it is illegal; `run` is what
follows once it is fetched, decoded and its guard is true. -/
def State.meet (s : State) (g : Guard) (parcels : List Bool) (run : State → Nat → Nat → Except Stop State) : State :=
  let n := coreNum g.core
  if !s.canRun g.core then s
  else
    let pc := s.pc n
    let next := (pc + 2 * parcels.length) % 2 ^ 40
    let s := s.begin_ n
    match s.fetchAll g.core pc parcels 0 with
    | some e => s.stopped g.core e
    | none =>
      if !s.guardTrue g then (s.spend n 1).retire n next
      else match run s pc next with
        | .error e => s.stopped g.core e
        | .ok t => t

/-- The parcels of an instruction with operands, and whether each is illegal (R99, R102, R126). -/
def parcelsOf (c : CoreId) (bad : Bool) (slots : List Slot) : List Bool :=
  bad :: slots.flatMap (slotParcels (match c with
    | .line _ => true
    | _ => false))

/-- An instruction that computes: operands, operation, writes, and on to the next one. `slots` are in the order they are
addressed; `parcels` are as they stand in the instruction. -/
def State.computeWith (s : State) (g : Guard) (parcels : List Bool) (slots : List Slot) (op : Ctx → Except Stop Out) :
    State :=
  s.meet g parcels fun t pc next =>
    match t.operands g.core pc slots with
    | .error e => .error e
    | .ok (locs, u) =>
      match u.operate g.core pc next slots locs op with
      | .error e => .error e
      | .ok w => .ok (w.retire (coreNum g.core) next)

/-- An instruction that computes, whose operands are addressed as they are written. -/
def State.compute (s : State) (g : Guard) (bad : Bool) (slots : List Slot) (op : Ctx → Except Stop Out) : State :=
  s.computeWith g (parcelsOf g.core bad slots) slots op

/-- An instruction whose operands are read before it acts on its core in a way of its own: the state before its operands, the
state after the reads, the values and the places. -/
def State.acts (s : State) (g : Guard) (bad : Bool) (slots : List Slot)
    (run : State → State → Nat → Nat → List Nat → List Loc → Except Stop State) : State :=
  s.meet g (parcelsOf g.core bad slots) fun t pc next =>
    match t.operands g.core pc slots with
    | .error e => .error e
    | .ok (locs, u) =>
      let (vals, w) := u.readAll g.core slots locs
      run t w pc next vals locs

/-- An instruction that acts on its core in a way of its own, with its clocks spent first. -/
def State.act_ (s : State) (g : Guard) (bad : Bool) (base : Nat) (slots : List Slot)
    (run : State → Nat → Nat → List Nat → List Loc → Except Stop State) : State :=
  s.acts g bad slots fun _ w pc next vals locs => run (w.spendAll (coreNum g.core) base slots locs) pc next vals locs

/-- The core is a line core, with LINE and SPAN. -/
def isLine : CoreId → Bool
  | .line _ => true
  | _ => false

/-- A source operand. -/
def srcSlot (size : Nat) (o : Operand) : Slot := { kind := .r, size := size, op := o }
/-- A destination operand. -/
def dstSlot (size : Nat) (o : Operand) : Slot := { kind := .w, size := size, op := o }
/-- An operand that is read and written. -/
def modSlot (size : Nat) (o : Operand) : Slot := { kind := .m, size := size, op := o }
/-- An address operand. -/
def adrSlot (size : Nat) (o : Operand) : Slot := { kind := .a, size := size, op := o }

/-- The operand size of kind S. -/
def sizeS (g : Guard) : Nat := sizeOfVar g.var.toNat

/-- One source, one destination: `f` gives the value and the flags. -/
def State.compute1 (s : State) (g : Guard) (a d : Operand) (base : Nat) (f : Nat → Nat → Nat × Option Flags) : State :=
  let n := sizeS g
  s.compute g (varBadS g.var) [srcSlot n a, dstSlot n d] fun x =>
    let (r, fl) := f (8 * n) (x.val 0)
    .ok { writes := [none, some r], flags := fl, jump := none, base := base }

/-- Two sources, one destination. -/
def State.compute2 (s : State) (g : Guard) (a b d : Operand) (base : Nat) (f : Nat → Nat → Nat → Nat × Flags) : State :=
  let n := sizeS g
  s.compute g (varBadS g.var) [srcSlot n a, srcSlot n b, dstSlot n d] fun x =>
    let (r, fl) := f (8 * n) (x.val 0) (x.val 1)
    .ok { writes := [none, none, some r], flags := some fl, jump := none, base := base }

/-- Two sources whose flags alone are kept. -/
def State.computeTest (s : State) (g : Guard) (a b : Operand) (f : Nat → Nat → Nat → Nat × Flags) : State :=
  let n := sizeS g
  s.compute g (varBadS g.var) [srcSlot n a, srcSlot n b] fun x =>
    .ok { writes := [none, none], flags := some (f (8 * n) (x.val 0) (x.val 1)).2, jump := none, base := 1 }

/-- A division: a zero divisor traps DIVZ (R145). -/
def State.computeDiv (s : State) (g : Guard) (a b d : Operand) (f : Nat → Nat → Nat → Nat × Flags) : State :=
  let n := sizeS g
  s.compute g (varBadS g.var) [srcSlot n a, srcSlot n b, dstSlot n d] fun x =>
    if x.val 1 = 0 then .error (.trap 5 x.pc 0 .none)
    else
      let (r, fl) := f (8 * n) (x.val 0) (x.val 1)
      .ok { writes := [none, none, some r], flags := some fl, jump := none, base := divCost n }

/-! ### Accesses that a core's store or load brings to a register -/

/-- A running core waits in its store at `pc` where that left a write at its beam port, since the state `u` (R176). -/
def State.storeStall (s : State) (c : CoreId) (pc : Nat) (u : State) : State :=
  if (s.core (coreNum c)).wait == .none && u.portQueue (coreNum c) < s.portQueue (coreNum c)
  then s.setCore (coreNum c) { s.core (coreNum c) with wait := .port, waitNext := pc } else s

/-- A core's store reaches a register: the instruction that makes it traps at a hole, and a running core waits where its write
waits at its beam port. A halted core makes no access. -/
def State.corePut (s : State) (c : CoreId) (a size v : Nat) : State :=
  if s.halted (coreNum c) then s
  else
    let pc := s.pc (coreNum c)
    match s.placeFault c pc a size false with
    | some e => s.stopped c e
    | none =>
      (s.writePlace c size v (s.reach c a size)).storeStall c pc s

/-- A core's load reaches a register: what the read changes. -/
def State.coreGet (s : State) (c : CoreId) (a size : Nat) : State :=
  if s.halted (coreNum c) then s
  else
    let pc := s.pc (coreNum c)
    match s.placeFault c pc a size true with
    | some e => s.stopped c e
    | none => (s.readPlace c size (s.reach c a size)).2

/-- A requester writes a register at a device address. -/
def State.reqWrite (s : State) (r : Requester) (a size v : Nat) : State :=
  match r with
  | .host b => s.hostDevWrite b a size v
  | .core c => s.corePut c a size v
  | _ => s.unitHole r

/-- A requester reads a register at a device address. -/
def State.reqRead (s : State) (r : Requester) (a size : Nat) : State :=
  match r with
  | .host b => s.hostDevRead b a size
  | .core c => s.coreGet c a size
  | _ => s.unitHole r

end Sys2Proof.Machine
end

