-- ==== Sys2Proof/Machine/Access.lean ====
section
/-!
DEFINITION. Register accesses from every requester, the BAR rows, doorbells and the STOP page as the host writes them (R17 to R19,
R47 to R54, R71, R82, R91).
-/
namespace Sys2Proof.Machine

/-- A write at a device address by a requester. -/
def State.regWrite (s : State) (r : Requester) (a size v : Nat) : Host.Outcome State Fault Refusal :=
  .next (match r with
    | .host b => s.hostDevWrite b a size v
    | _ => s.reqWrite r a size v)

/-- A read at a device address by a requester. -/
def State.regRead (s : State) (r : Requester) (a size : Nat) : Host.Outcome State Fault Refusal :=
  .next (match r with
    | .host b => s.hostDevRead b a size
    | _ => s.reqRead r a size)

/-- A write by bench b's host in one of its spaces (R47 to R52). -/
def State.spaceWrite (s : State) (b : BenchId) (space : HostSpace) (off size v : Nat) : Host.Outcome State Fault Refusal :=
  .next (match space with
    | .bar0 => s.hostBar0Write b off size v
    | .bar2 => s.bar2Write b off (leBytes size v) false
    | .bar4 => s.bar4Write b off size v
    | .config => s.hostCfgWrite b off size v)

/-- A read by bench b's host in one of its spaces (R47 to R52). -/
def State.spaceRead (s : State) (b : BenchId) (space : HostSpace) (off size : Nat) : Host.Outcome State Fault Refusal :=
  .next (match space with
    | .bar0 => s.hostBar0Read b off size
    | .bar2 => s.bar2Read b off size
    | .bar4 => s.bar4Read b off size
    | .config => s.hostCfgRead b off size)

/-- A poisoned write received by bench b's function (R51): discarded and logged, where the function takes it at all. -/
def State.spacePoisoned (s : State) (b : BenchId) : State :=
  let s := s.hostArrive b.val
  match s.hostGate b.val with
  | .absent | .discard => s
  | .unsupported => s.emit (.unsupported b.val)
  | .limp | .serve => s.poisonedWrite b.val

/-- A configuration write that arrives poisoned. -/
def State.cfgPoisoned (s : State) (b : BenchId) : State :=
  if s.configOpen b.val then (s.linkWake b.val).poisonedWrite b.val else s

/-- REGISTER_WRITE (R18, R19). -/
def execRegisterWrite (at_ : AccessAt) (size : Nat) (value : Double) (s : State) : Host.Outcome State Fault Refusal :=
  match at_ with
  | .device r a => s.regWrite r a.toNat size value.toNat
  | .host b space off => s.spaceWrite b space off.toNat size value.toNat
  | .hostPoisoned b .config _ => .next (s.cfgPoisoned b)
  | .hostPoisoned b _ _ => .next (s.spacePoisoned b)

/-- READ_CLEAR (R18): a register read; its RC fields clear. -/
def execReadClear (at_ : AccessAt) (size : Nat) (s : State) : Host.Outcome State Fault Refusal :=
  match at_ with
  | .device r a => s.regRead r a.toNat size
  | .host b space off => s.spaceRead b space off.toNat size
  | .hostPoisoned b space off => s.spaceRead b space off.toNat size

/-- BAR0_ACCESS_BAD (R13, R71): at a width or alignment that BAR0 does not take, a read returns a free value and a write has no
effect (log 10); any other is an access. -/
def execBar0AccessBad (b : BenchId) (off : Addr) (size : Nat) (write : Bool) (value : Double) (s : State) :
    Host.Outcome State Fault Refusal :=
  if write then s.spaceWrite b .bar0 off.toNat size value.toNat else s.spaceRead b .bar0 off.toNat size

/-- BAR2_READ (R50, R51, R411). -/
def execBar2Read (b : BenchId) (off : Addr) (data : HostFetch) (s : State) : Host.Outcome State Fault Refusal :=
  .next ((s.upset data.found).bar2Read b off.toNat data.size)

/-- BAR2_WRITE (R50, R51). -/
def execBar2Write (b : BenchId) (off : Addr) (bytes : List Byte) (poisoned : Bool) (s : State) :
    Host.Outcome State Fault Refusal :=
  .next (s.bar2Write b off.toNat bytes poisoned)

/-- BAR4_BAD_ACCESS (R82, R91): discarded, and a read returns 0; at a width and alignment BAR4 takes, an access. -/
def execBar4BadAccess (b : BenchId) (off : Addr) (size : Nat) (write : Bool) (value : Double) (s : State) :
    Host.Outcome State Fault Refusal :=
  .next (if write then s.bar4Write b off.toNat size value.toNat else s.bar4Read b off.toNat size)

/-- DOORBELL_WRITE (R82, R83). -/
def execDoorbellWrite (b : BenchId) (off : Addr) (size : Nat) (value : Double) (s : State) :
    Host.Outcome State Fault Refusal :=
  .next (s.bar4Write b off.toNat size value.toNat)

/-- STOP_CARTER (R91, R92). -/
def execStopCarter (b : BenchId) (half : StopHalf) (mask : Double) (s : State) : Host.Outcome State Fault Refusal :=
  .next (match half with
    | .low => s.bar4Write b 0x8000 4 (mask.toNat % 2 ^ 32)
    | .high => s.bar4Write b 0x8004 4 (mask.toNat % 2 ^ 32)
    | .both => s.bar4Write b 0x8000 8 mask.toNat)

/-- STOP_CORES (R92). -/
def execStopCores (b : BenchId) (mask : Word) (s : State) : Host.Outcome State Fault Refusal :=
  .next (s.bar4Write b 0x8008 4 mask.toNat)

/-- STOP_UNITS (R92). -/
def execStopUnits (b : BenchId) (value : Word) (s : State) : Host.Outcome State Fault Refusal :=
  .next (s.bar4Write b 0x800C 4 value.toNat)

/-- STOP_RELEASE (R94). -/
def execStopRelease (b : BenchId) (value : Word) (s : State) : Host.Outcome State Fault Refusal :=
  .next (s.bar4Write b 0x8010 4 value.toNat)

/-- PTM_REQ (R64): PTM_CTL written with REQ set, PERIOD as it stands and FAIL not cleared. -/
def execPtmReq (b : BenchId) (s : State) : Host.Outcome State Fault Refusal :=
  .next (s.hostBar0Write b 0x40 4 (setBit (setBit (s.rd (kBench b.val 0x40)) 0 true) 1 false).toNat)

end Sys2Proof.Machine
end

