-- ==== Sys2Proof/Machine/Arith.lean ====
section
/-!
DEFINITION. The arithmetic instructions (R143 to R145) and saturating arithmetic and limits (R149).
-/
namespace Sys2Proof.Machine

/-- ADD (R143). -/
def execAdd (g : Guard) (a b d : Operand) (s : State) : Host.Outcome State Fault Refusal :=
  .next (s.compute2 g a b d 1 fun n x y => opAdd n x y false)

/-- Two sources and the carry flag, one destination. -/
def State.computeCarry (s : State) (g : Guard) (a b d : Operand) (f : Nat → Nat → Nat → Bool → Nat × Flags) : State :=
  let n := sizeS g
  s.compute g (varBadS g.var) [srcSlot n a, srcSlot n b, dstSlot n d] fun x =>
    let (r, fl) := f (8 * n) (x.val 0) (x.val 1) x.carry
    .ok { writes := [none, none, some r], flags := some fl, jump := none, base := 1 }

/-- ADC (R143). -/
def execAdc (g : Guard) (a b d : Operand) (s : State) : Host.Outcome State Fault Refusal :=
  .next (s.computeCarry g a b d fun n x y c => opAdd n x y c)

/-- SUB (R143). -/
def execSub (g : Guard) (a b d : Operand) (s : State) : Host.Outcome State Fault Refusal :=
  .next (s.compute2 g a b d 1 fun n x y => opSub n x y false)

/-- SBC (R143). -/
def execSbc (g : Guard) (a b d : Operand) (s : State) : Host.Outcome State Fault Refusal :=
  .next (s.computeCarry g a b d fun n x y c => opSub n x y !c)

/-- NEG (R143). -/
def execNeg (g : Guard) (a d : Operand) (s : State) : Host.Outcome State Fault Refusal :=
  .next (s.compute1 g a d 1 fun n x => ((opSub n 0 x false).1, some (opSub n 0 x false).2))

/-- CMP (R143). -/
def execCmp (g : Guard) (a b : Operand) (s : State) : Host.Outcome State Fault Refusal :=
  .next (s.computeTest g a b fun n x y => opSub n x y false)

/-- MUL (R143). -/
def execMul (g : Guard) (a b d : Operand) (s : State) : Host.Outcome State Fault Refusal :=
  .next (s.compute2 g a b d (mulCost (sizeS g)) opMul)

/-- MULHS (R143). -/
def execMulhs (g : Guard) (a b d : Operand) (s : State) : Host.Outcome State Fault Refusal :=
  .next (s.compute2 g a b d (mulCost (sizeS g)) opMulHS)

/-- MULHU (R143). -/
def execMulhu (g : Guard) (a b d : Operand) (s : State) : Host.Outcome State Fault Refusal :=
  .next (s.compute2 g a b d (mulCost (sizeS g)) opMulHU)

/-- MAC (R143, R144). -/
def execMac (g : Guard) (a b c : Operand) (s : State) : Host.Outcome State Fault Refusal :=
  .next (
    let n := sizeS g
    s.compute g (varBadS g.var) [srcSlot n a, srcSlot n b, modSlot n c] fun x =>
      let (r, fl) := opAdd (8 * n) (x.val 2) (opMul (8 * n) (x.val 0) (x.val 1)).1 false
      .ok { writes := [none, none, some r], flags := some fl, jump := none, base := mulCost n })

/-- DIVS (R143, R145). -/
def execDivs (g : Guard) (a b d : Operand) (s : State) : Host.Outcome State Fault Refusal :=
  .next (s.computeDiv g a b d opDivS)

/-- DIVU (R143, R145). -/
def execDivu (g : Guard) (a b d : Operand) (s : State) : Host.Outcome State Fault Refusal :=
  .next (s.computeDiv g a b d opDivU)

/-- REMS (R143, R145). -/
def execRems (g : Guard) (a b d : Operand) (s : State) : Host.Outcome State Fault Refusal :=
  .next (s.computeDiv g a b d opRemS)

/-- REMU (R143, R145). -/
def execRemu (g : Guard) (a b d : Operand) (s : State) : Host.Outcome State Fault Refusal :=
  .next (s.computeDiv g a b d opRemU)

/-- ABS (R143, R145). -/
def execAbs (g : Guard) (a d : Operand) (s : State) : Host.Outcome State Fault Refusal :=
  .next (s.compute1 g a d 1 fun n x => ((opAbs n x).1, some (opAbs n x).2))

/-- QADD (R149). -/
def execQadd (g : Guard) (a b d : Operand) (s : State) : Host.Outcome State Fault Refusal :=
  .next (s.compute2 g a b d 1 opQadd)

/-- QADDU (R149). -/
def execQaddu (g : Guard) (a b d : Operand) (s : State) : Host.Outcome State Fault Refusal :=
  .next (s.compute2 g a b d 1 opQaddu)

/-- QSUB (R149). -/
def execQsub (g : Guard) (a b d : Operand) (s : State) : Host.Outcome State Fault Refusal :=
  .next (s.compute2 g a b d 1 opQsub)

/-- QSUBU (R149). -/
def execQsubu (g : Guard) (a b d : Operand) (s : State) : Host.Outcome State Fault Refusal :=
  .next (s.compute2 g a b d 1 opQsubu)

/-- MINS (R149). -/
def execMins (g : Guard) (a b d : Operand) (s : State) : Host.Outcome State Fault Refusal :=
  .next (s.compute2 g a b d 1 opMins)

/-- MAXS (R149). -/
def execMaxs (g : Guard) (a b d : Operand) (s : State) : Host.Outcome State Fault Refusal :=
  .next (s.compute2 g a b d 1 opMaxs)

/-- MINU (R149). -/
def execMinu (g : Guard) (a b d : Operand) (s : State) : Host.Outcome State Fault Refusal :=
  .next (s.compute2 g a b d 1 opMinu)

/-- MAXU (R149). -/
def execMaxu (g : Guard) (a b d : Operand) (s : State) : Host.Outcome State Fault Refusal :=
  .next (s.compute2 g a b d 1 opMaxu)

end Sys2Proof.Machine
end

