-- ==== Sys2Proof/Machine/Control.lean ====
section
/-!
DEFINITION. The control and waiting instructions, and what happens to a core between instructions (R33, R105, R111 to R117,
R128, R134 to R139, R169, R170, R183).
-/
namespace Sys2Proof.Machine

/-! ### Waits -/

/-- A core begins to wait (R136 to R138). The side effects of its operands stand, also where the core halts in the wait and RUN
executes the instruction again from its start (R160; DESIGN CHOICE, log 88). -/
def State.beginWait (s : State) (c : Nat) (w : CoreWait) (next : Nat) : State :=
  s.setCore c { s.core c with wait := w, waitNext := next, moved := false }

/-- A beam wait, which line cores have: a line's occupancy ends in the clock in which it begins (R137, R184). -/
def State.beamWait (s : State) (g : Guard) (slots : List Slot) (run : State → Nat → List Nat → State) : State :=
  s.acts g (varBadN g.var || !isLine g.core) slots fun _ w _ next vals _ => .ok (run (w.occEnd (coreNum g.core)) next vals)

/-- A beam wait whose condition already holds completes at once; the core notes it, for a change of LINE in the clock in which it began
(R137, R186). -/
def State.waitsNot (s : State) (c : Nat) (w : CoreWait) (next : Nat) : State :=
  let t := s.retire c next
  t.setCore c { t.core c with atOnce := some (w, s.pc c, (s.core c).jump.getD next) }

/-- A wait completes: the core goes on at the next instruction; at a line boundary a line's occupancy begins in clock 2
(R169, R184). A step ends with it (R170). -/
def State.endWait (s : State) (c : Nat) (atLine : Bool) : State :=
  let q := s.core c
  let s := s.fetchMends c q.waitNext
  let s := (s.setPc c q.waitNext).setCore c { q with
    wait := .none
    counting := q.counting || atLine
    clocks := if atLine then 2 else q.clocks }
  if q.stepArm then s.haltCore c 3 else s

/-- A wake condition of WAIT holds (R136). -/
def State.wakeNow (s : State) (c : CoreId) : Bool :=
  let offered := match targetOf c with
    | some t => (s.offerFor t).isSome
    | none => false
  let mail := match c with
    | .scene n => s.bit (kWin n.val 0x170) 31
    | _ => false
  offered || mail

/-- A waiting core is free to go on: its clock runs and no halt is asked of it. -/
def State.waitFree (s : State) (c : Nat) : Bool := !s.halted c && s.coreMode c && (s.core c).haltAsk == 0

/-- Every earlier write of the core is complete: none of its own waits at a head's port (R131, R138). -/
def State.writesDone (s : State) (c : CoreId) : Bool :=
  (List.range 8).all fun h =>
    ((s.head h).waitCore ++ (s.head h).waitFab).all fun e => e.who != .core c

/-- Z and C as WAITS sets them (R137). -/
def waitsFlags (f : Word) (past changed : Bool) : Option Flags :=
  let o := flagsRead f.toNat
  some { o with z := past, c := changed }

/-! ### Meanings -/

/-- NOP (R134). -/
def execNop (g : Guard) (s : State) : Host.Outcome State Fault Refusal :=
  .next (s.compute g (varBadN g.var) [] fun _ => .ok { writes := [], flags := none, jump := none, base := 1 })

/-- HALT (R134, R135). -/
def execHalt (g : Guard) (s : State) : Host.Outcome State Fault Refusal :=
  .next (s.act_ g (varBadN g.var) 1 [] fun t _ next _ _ =>
    .ok ((t.setPc (coreNum g.core) next).haltCore (coreNum g.core) 5))

/-- TRAP (R103, R109, R110, R134): it traps, so that none of its operand's side effects happens; its own clocks are spent. -/
def execTrap (g : Guard) (n : Operand) (s : State) : Host.Outcome State Fault Refusal :=
  .next (s.acts g (varBadN g.var) [srcSlot 1 n] fun t _ _ next vals locs =>
    let c := coreNum g.core
    .ok ((t.spendAll c 1 [srcSlot 1 n] locs).trapTake c 6 next (vals.getD 0 0)))

/-- RETT (R111, R125, R135). -/
def execRett (g : Guard) (s : State) : Host.Outcome State Fault Refusal :=
  .next (s.act_ g (varBadN g.var) 6 [] fun t pc _ _ _ =>
    let c := coreNum g.core
    let dest := t.rd64 (kWin c 0x88) % 2 ^ 40
    if dest % 2 = 1 then .error (.trap 2 pc dest .none)
    else
      let t := t.wrN (kWin c 0x20) (t.rdN (kWin c 0x90) % 32)
      let t := (t.setB (kWin c 0xA0) 0 (t.bit (kWin c 0xA0) 1)).setB (kWin c 0xA0) 2 false
      .ok (t.retire c dest))

/-- WAIT (R136): a line core has none. -/
def execWait (g : Guard) (s : State) : Host.Outcome State Fault Refusal :=
  .next (s.act_ g (varBadN g.var || isLine g.core) 1 [] fun t _ next _ _ =>
    .ok (if t.wakeNow g.core then t.retire (coreNum g.core) next else t.beginWait (coreNum g.core) .wait next))

/-- WAIT_COMPLETE (R136). -/
def execWaitComplete (c : CoreId) (s : State) : Host.Outcome State Fault Refusal :=
  .next (if s.waitFree (coreNum c) && (s.core (coreNum c)).wait == .wait && s.wakeNow c
    then s.endWait (coreNum c) false else s)

/-- WAITL (R137). -/
def execWaitl (g : Guard) (n : Operand) (s : State) : Host.Outcome State Fault Refusal :=
  .next (s.beamWait g [srcSlot 4 n] fun t next vals =>
    let c := coreNum g.core
    if (t.beamOf c).1 = vals.getD 0 0 then t.waitsNot c (.waitl (vals.getD 0 0)) next
    else t.beginWait c (.waitl (vals.getD 0 0)) next)

/-- WAITL_COMPLETE (R169). -/
def execWaitlComplete (h : HeadId) (s : State) : Host.Outcome State Fault Refusal :=
  .next (if s.waitFree (32 + h.val) && (s.core (32 + h.val)).wait == .waitl (s.head h.val).line
    then s.endWait (32 + h.val) true else s)

/-- WAITS (R137). -/
def execWaits (g : Guard) (n : Operand) (s : State) : Host.Outcome State Fault Refusal :=
  .next (s.beamWait g [srcSlot 4 n] fun t next vals =>
    let c := coreNum g.core
    let v := vals.getD 0 0
    let span := (t.beamOf c).2
    if v ≤ span then (t.putFlags c (waitsFlags (t.rd (kWin c 0x20)) (decide (v < span)) false)).waitsNot c (.waits v false) next
    else t.beginWait c (.waits v false) next)

/-- WAITS_COMPLETE (R137). -/
def execWaitsComplete (h : HeadId) (s : State) : Host.Outcome State Fault Refusal :=
  .next (
    let c := 32 + h.val
    let q := s.head h.val
    if !s.waitFree c then s
    else match (s.core c).wait with
      | .waits v past =>
        let f (changed : Bool) : State := s.putFlags c (waitsFlags (s.rd (kWin c 0x20)) past changed)
        if (s.core c).moved then (f true).endWait c true
        else if v ≤ q.span then (f false).endWait c false
        else s
      | _ => s)

/-- WAITN (R137). -/
def execWaitn (g : Guard) (s : State) : Host.Outcome State Fault Refusal :=
  .next (s.beamWait g [] fun t next _ => t.beginWait (coreNum g.core) .waitn next)

/-- WAITN_COMPLETE (R169). -/
def execWaitnComplete (h : HeadId) (s : State) : Host.Outcome State Fault Refusal :=
  .next (
    let c := 32 + h.val
    if s.waitFree c && (s.core c).wait == .waitn && (s.core c).moved then s.endWait c true else s)

/-- SYNC (R138). -/
def execSync (g : Guard) (s : State) : Host.Outcome State Fault Refusal :=
  .next (s.act_ g (varBadN g.var) 1 [] fun t _ next _ _ => .ok (t.beginWait (coreNum g.core) .sync next))

/-- SYNC_COMPLETE (R138); the clocks it took are open. -/
def execSyncComplete (c : CoreId) (s : State) : Host.Outcome State Fault Refusal :=
  .next (
    let n := coreNum c
    if s.waitFree n && (s.core n).wait == .sync && s.writesDone c then
      if (s.core n).counting then
        let (v, t) := s.fresh
        (t.spend n (v % 2 ^ 24)).endWait n false
      else s.endWait n false
    else s)

/-- Lines that hold a byte of [p, p + n) modulo 2^40 (R139). -/
def lineTouched (p n line : Nat) : Bool :=
  n != 0 && (decide ((line + 2 ^ 40 - p % 2 ^ 40) % 2 ^ 40 < n) || lineOf (p % 2 ^ 40) == line)

/-- CINV (R139). -/
def execCinv (g : Guard) (p n : Operand) (s : State) : Host.Outcome State Fault Refusal :=
  .next (s.act_ g (varBadN g.var) 2 [adrSlot 1 p, srcSlot 4 n] fun t _ next vals _ =>
    let c := coreNum g.core
    let t := t.setCore c { t.core c with
      cache := (t.core c).cache.filter fun e => !lineTouched (vals.getD 0 0) (vals.getD 1 0) e.1 }
    .ok (t.retire c next))

/-! ### Between instructions -/

/-- INT_TRAP (R113): taken at a boundary, or between iterations, where it is due. -/
def execIntTrap (c : CoreId) (s : State) : Host.Outcome State Fault Refusal :=
  .next (
    let n := coreNum c
    let q := s.core n
    if !s.halted n && s.coreMode n && q.haltAsk == 0 && (q.wait == .none) && s.intDue c
    then s.trapTake n 7 (s.pc n) 0 else s)

/-- LATE_TRAP (R183): taken at a boundary, or between iterations, where it is due. -/
def execLateTrap (h : HeadId) (s : State) : Host.Outcome State Fault Refusal :=
  .next (
    let n := 32 + h.val
    let q := s.core n
    if !s.halted n && s.coreMode n && q.haltAsk == 0 && (q.wait == .none) && s.lateDue n
    then s.trapTake n 8 (s.pc n) 0 else s)

/-- UNDEFINED_OPCODE (R114, R128): the parcel is fetched, and traps ILLEGAL where its OP is an undefined slot, whatever the
guard. A parcel of a defined OP is another command's. -/
def execUndefinedOpcode (c : CoreId) (first : Parcel) (s : State) : Host.Outcome State Fault Refusal :=
  .next (if opcodeDefined (nfld first.toNat 11 4) then s
    else s.meet { core := c, pred := 0, neg := false, var := 0 } [true] fun t _ _ => .ok t)

/-- INSTRUCTION_FETCH_FILL (R105, R106): the line that a stalled fetch or operand waits for enters the operand cache, in
place of another one where the cache is full; the instruction then goes on from its start. -/
def execInstructionFetchFill (c : Fin 32) (s : State) : Host.Outcome State Fault Refusal :=
  .next (
    let q := s.core c.val
    match q.wait with
    | .fill line =>
      if !s.coreMode c.val then s
      else if s.marked line 64 then s.setCore c.val { q with wait := .none }
      else
        let s := s.mends line 64
        let (kept, s) :=
          if q.cache.length < 256 then (q.cache, s)
          else
            let (_, t) := s.fresh
            (q.cache.eraseIdx (Config.cacheVictim s.free % q.cache.length), t)
        s.setCore c.val { q with wait := .none, cache := kept ++ [(line, BitVec.ofNat 512 (s.loadN line 64))] }
    | _ => s)

/-- CORE_HALT_TAKEN (R33). -/
def execCoreHaltTaken (c : CoreId) (s : State) : Host.Outcome State Fault Refusal :=
  .next (if s.coreMode (coreNum c) then s.haltTaken (coreNum c) else s)

/-- LC_START (R170). -/
def execLcStart (h : HeadId) (s : State) : Host.Outcome State Fault Refusal :=
  .next (if s.coreMode (32 + h.val) && (s.core (32 + h.val)).haltAsk == 0 then s.holdLeave (32 + h.val) else s)

end Sys2Proof.Machine
end

