-- ==== Sys2Proof/Machine/CoreRows.lean ====
section
/-!
DEFINITION. Commands of the rings, the mailboxes and core control (R81 to R88, R115 to R118).
-/
namespace Sys2Proof.Machine

/-- RING_ENABLE (R88). -/
def execRingEnable (req : Requester) (g : RingId) (ctl : Word) (s : State) : Host.Outcome State Fault Refusal :=
  .next (s.reqWrite req (kRing g.val 8) 4 (setBit ctl 31 true).toNat)

/-- RING_DISABLE (R88). -/
def execRingDisable (req : Requester) (g : RingId) (ctl : Word) (s : State) : Host.Outcome State Fault Refusal :=
  .next (s.reqWrite req (kRing g.val 8) 4 (setBit ctl 31 false).toNat)

/-- RING_ERR_CLEAR (R85). -/
def execRingErrClear (req : Requester) (g : RingId) (s : State) : Host.Outcome State Fault Refusal :=
  .next (s.reqWrite req (kRing g.val 0x18) 4 8)

/-- RING_ENTRY_FETCHED (R84, R85). -/
def execRingEntryFetched (g : RingId) (host : HostRead) (s : State) : Host.Outcome State Fault Refusal :=
  .next (s.ringFetch g.val host)

/-- A fetch from host memory gets no completion in time: the ring stops with code FETCH (R85). -/
def State.ringTimeout (s : State) (g : Nat) : State :=
  match s.plan.ringBench g with
  | none => s
  | some b => if s.ringFetching g && s.ringRoom b g && s.ringHost g then s.ringFail g 1 else s

/-- RING_FETCH_TIMEOUT (R85). -/
def execRingFetchTimeout (g : RingId) (s : State) : Host.Outcome State Fault Refusal := .next (s.ringTimeout g.val)

/-- MBOX_DELIVER (R77, R115). -/
def execMboxDeliver (c : Fin 32) (s : State) : Host.Outcome State Fault Refusal := .next (s.mboxDeliver c.val)

/-- MBOX_DONE (R116): a running core writes the register of its own window. -/
def execMboxDone (c : Fin 32) (status : BitVec 16) (s : State) : Host.Outcome State Fault Refusal :=
  .next (if s.halted c.val then s else s.mboxDone c.val status.toNat)

/-- CORE_RUN (R117). -/
def execCoreRun (req : Requester) (c : CoreId) (s : State) : Host.Outcome State Fault Refusal :=
  .next (s.reqWrite req (kCore (coreNum c) 0) 4 1)

/-- CORE_HALT (R33, R117). -/
def execCoreHalt (req : Requester) (c : CoreId) (s : State) : Host.Outcome State Fault Refusal :=
  .next (s.reqWrite req (kCore (coreNum c) 0) 4 2)

/-- CORE_STEP (R117). -/
def execCoreStep (req : Requester) (c : CoreId) (s : State) : Host.Outcome State Fault Refusal :=
  .next (s.reqWrite req (kCore (coreNum c) 0) 4 4)

/-- CORE_WIN_WRITE (R116, R118). -/
def execCoreWinWrite (req : Requester) (c : CoreId) (off : Fin 512) (size : Nat) (value : Double) (s : State) :
    Host.Outcome State Fault Refusal :=
  s.regWrite req (kCore (coreNum c) (0x800 + off.val)) size value.toNat

/-- LC_LOAD_DATA (R116). -/
def execLcLoadData (req : Requester) (h : HeadId) (data : Word) (s : State) : Host.Outcome State Fault Refusal :=
  .next (s.reqWrite req (kCore (32 + h.val) 0x24) 4 data.toNat)

end Sys2Proof.Machine
end

