-- ==== Sys2Proof/Machine/Flow.lean ====
section
/-!
DEFINITION. The flow instructions (R151, R152).
-/
namespace Sys2Proof.Machine

/-- A branch target: a signed word from the instruction's address, modulo 2^40 (R152). -/
def branchTo (pc disp : Nat) : Nat := narrow 40 (Int.ofNat pc + sgn 32 disp)

/-- B (R151). -/
def execB (g : Guard) (disp : Operand) (s : State) : Host.Outcome State Fault Refusal :=
  .next (s.compute g false [srcSlot 4 disp] fun x =>
    if condTrue g.var.toNat x.flags.toNat
    then .ok { writes := [none], flags := none, jump := some (branchTo x.pc (x.val 0)), base := 2 }
    else .ok { writes := [none], flags := none, jump := none, base := 1 })

/-- JMP (R151). -/
def execJmp (g : Guard) (t : Operand) (s : State) : Host.Outcome State Fault Refusal :=
  .next (s.compute g (varBadN g.var) [srcSlot 8 t] fun x =>
    .ok { writes := [none], flags := none, jump := some (x.val 0 % 2 ^ 40), base := 2 })

/-- CALL (R151, R152). -/
def execCall (g : Guard) (t link : Operand) (s : State) : Host.Outcome State Fault Refusal :=
  .next (s.compute g (varBadN g.var) [srcSlot 8 t, dstSlot 8 link] fun x =>
    .ok { writes := [none, some x.next], flags := none, jump := some (x.val 0 % 2 ^ 40), base := 2 })

/-- CALLR (R151, R152). -/
def execCallr (g : Guard) (disp link : Operand) (s : State) : Host.Outcome State Fault Refusal :=
  .next (s.compute g (varBadN g.var) [srcSlot 4 disp, dstSlot 8 link] fun x =>
    .ok { writes := [none, some x.next], flags := none, jump := some (branchTo x.pc (x.val 0)), base := 2 })

/-- DBNZ (R151). -/
def execDbnz (g : Guard) (c disp : Operand) (s : State) : Host.Outcome State Fault Refusal :=
  .next (
    let n := sizeS g
    s.compute g (varBadS g.var) [modSlot n c, srcSlot 4 disp] fun x =>
      let v := (opSub (8 * n) (x.val 0) 1 false).1
      if v ≠ 0 then .ok { writes := [some v, none], flags := none, jump := some (branchTo x.pc (x.val 1)), base := 2 }
      else .ok { writes := [some v, none], flags := none, jump := none, base := 1 })

end Sys2Proof.Machine
end

