-- ==== Sys2Proof/Machine/HeadRows.lean ====
section
/-!
DEFINITION. Commands that write a register of a head: staging, flips, timing, the link, the daybook (R172 to R178, R261 to R268,
R279 to R301, R328, R331).
-/
namespace Sys2Proof.Machine

/-- STAGED_WRITE (R173). -/
def execStagedWrite (req : Requester) (addr : Addr) (size : Nat) (value : Double) (s : State) :
    Host.Outcome State Fault Refusal :=
  s.regWrite req addr.toNat size value.toNat

/-- PALETTE_WRITE (R178). -/
def execPaletteWrite (req : Requester) (addr : Addr) (size : Nat) (value : Double) (s : State) :
    Host.Outcome State Fault Refusal :=
  s.regWrite req addr.toNat size value.toNat

/-- SHADOW_WRITE (R261). -/
def execShadowWrite (req : Requester) (addr : Addr) (size : Nat) (value : Double) (s : State) :
    Host.Outcome State Fault Refusal :=
  s.regWrite req addr.toNat size value.toNat

/-- A bit of a head's register written 1, its other fields as they stand. -/
def State.headPulse (s : State) (r : Requester) (h off b : Nat) : State :=
  s.reqWrite r (kHead h off) 4 (setBit (s.rd (kHead h off)) b true).toNat

/-- COMMIT (R262). -/
def execCommit (req : Requester) (h : HeadId) (planes : BitVec 4) (s : State) : Host.Outcome State Fault Refusal :=
  .next (s.reqWrite req (kHead h.val 0x10) 4 planes.toNat)

/-- FENCE_ARM (R264). -/
def execFenceArm (req : Requester) (h : HeadId) (p : Fin 4) (en : Bool) (chan : BellId) (s : State) :
    Host.Outcome State Fault Refusal :=
  .next (s.reqWrite req (kMb h.val p.val 4) 4 (2 ^ 31 + en.toNat * 2 ^ 30 + chan.val))

/-- FLAT_INVAL (R268). -/
def execFlatInval (req : Requester) (h : HeadId) (s : State) : Host.Outcome State Fault Refusal :=
  .next (s.reqWrite req (kHead h.val 0x20) 4 1)

/-- HEAD_START (R279). -/
def execHeadStart (req : Requester) (h : HeadId) (s : State) : Host.Outcome State Fault Refusal :=
  .next (s.reqWrite req (kHead h.val 0x1000) 4 1)

/-- HEAD_STOP (R281). -/
def execHeadStop (req : Requester) (h : HeadId) (s : State) : Host.Outcome State Fault Refusal :=
  .next (s.reqWrite req (kHead h.val 0x1000) 4 0)

/-- HEAD_STOP_IMMEDIATE (R281). -/
def execHeadStopImmediate (req : Requester) (h : HeadId) (s : State) : Host.Outcome State Fault Refusal :=
  .next (s.reqWrite req (kHead h.val 0x1000) 4 2)

/-- PRESENT_GO (R282). -/
def execPresentGo (req : Requester) (h : HeadId) (s : State) : Host.Outcome State Fault Refusal :=
  .next (s.reqWrite req (kHead h.val 0x1048) 4 1)

/-- LINK_RETRAIN (R295). -/
def execLinkRetrain (req : Requester) (h : HeadId) (s : State) : Host.Outcome State Fault Refusal :=
  .next (s.headPulse req h.val 0x1030 15)

/-- AUX_GO (R298). -/
def execAuxGo (req : Requester) (h : HeadId) (ctl : Word) (s : State) : Host.Outcome State Fault Refusal :=
  .next (s.reqWrite req (kHead h.val 0x1080) 4 (setBit ctl 31 true).toNat)

/-- PSR_ENTER (R301). -/
def execPsrEnter (req : Requester) (h : HeadId) (s : State) : Host.Outcome State Fault Refusal :=
  .next (s.headPulse req h.val 0x1050 31)

/-- PSR_EXIT (R301). -/
def execPsrExit (req : Requester) (h : HeadId) (s : State) : Host.Outcome State Fault Refusal :=
  .next (s.headPulse req h.val 0x1050 30)

/-- PSR_SU_GO (R301). -/
def execPsrSuGo (req : Requester) (h : HeadId) (s : State) : Host.Outcome State Fault Refusal :=
  .next (s.headPulse req h.val 0x1050 29)

/-- CKPT_REQ (R328). -/
def execCkptReq (req : Requester) (h : HeadId) (s : State) : Host.Outcome State Fault Refusal :=
  .next (s.headPulse req h.val 0x10010 31)

/-- DRAIN_ENABLE (R331). -/
def execDrainEnable (req : Requester) (h : HeadId) (size : Fin 32) (s : State) : Host.Outcome State Fault Refusal :=
  .next (s.reqWrite req (kHead h.val 0x10030) 4 (2 ^ 31 + size.val))

/-- DRAIN_DISABLE (R331). -/
def execDrainDisable (req : Requester) (h : HeadId) (size : Fin 32) (s : State) : Host.Outcome State Fault Refusal :=
  .next (s.reqWrite req (kHead h.val 0x10030) 4 size.val)

end Sys2Proof.Machine
end

