-- ==== Sys2Proof/Machine/Logic.lean ====
section
/-!
DEFINITION. The logic instructions, shifts, bit fields (R146 to R148) and predicates (R150).
-/
namespace Sys2Proof.Machine

/-- AND (R146). -/
def execAnd (g : Guard) (a b d : Operand) (s : State) : Host.Outcome State Fault Refusal :=
  .next (s.compute2 g a b d 1 opAnd)

/-- OR (R146). -/
def execOr (g : Guard) (a b d : Operand) (s : State) : Host.Outcome State Fault Refusal :=
  .next (s.compute2 g a b d 1 opOr)

/-- XOR (R146). -/
def execXor (g : Guard) (a b d : Operand) (s : State) : Host.Outcome State Fault Refusal :=
  .next (s.compute2 g a b d 1 opXor)

/-- NOT (R146). -/
def execNot (g : Guard) (a d : Operand) (s : State) : Host.Outcome State Fault Refusal :=
  .next (s.compute1 g a d 1 fun n x => ((opNot n x).1, some (opNot n x).2))

/-- ANDN (R146). -/
def execAndn (g : Guard) (a b d : Operand) (s : State) : Host.Outcome State Fault Refusal :=
  .next (s.compute2 g a b d 1 opAndn)

/-- TST (R146). -/
def execTst (g : Guard) (a b : Operand) (s : State) : Host.Outcome State Fault Refusal :=
  .next (s.computeTest g a b opAnd)

/-- SHL (R146, R147). -/
def execShl (g : Guard) (a n d : Operand) (s : State) : Host.Outcome State Fault Refusal :=
  .next (s.compute2 g a n d 1 opShl)

/-- SHR (R146, R147). -/
def execShr (g : Guard) (a n d : Operand) (s : State) : Host.Outcome State Fault Refusal :=
  .next (s.compute2 g a n d 1 opShr)

/-- SAR (R146, R147). -/
def execSar (g : Guard) (a n d : Operand) (s : State) : Host.Outcome State Fault Refusal :=
  .next (s.compute2 g a n d 1 opSar)

/-- ROL (R146, R147). -/
def execRol (g : Guard) (a n d : Operand) (s : State) : Host.Outcome State Fault Refusal :=
  .next (s.compute2 g a n d 1 opRol)

/-- ROR (R146, R147). -/
def execRor (g : Guard) (a n d : Operand) (s : State) : Host.Outcome State Fault Refusal :=
  .next (s.compute2 g a n d 1 opRor)

/-- CLZ (R146). -/
def execClz (g : Guard) (a d : Operand) (s : State) : Host.Outcome State Fault Refusal :=
  .next (s.compute1 g a d 1 fun n x => ((opClz n x).1, some (opClz n x).2))

/-- POPC (R146). -/
def execPopc (g : Guard) (a d : Operand) (s : State) : Host.Outcome State Fault Refusal :=
  .next (s.compute1 g a d 1 fun n x => ((opPopc n x).1, some (opPopc n x).2))

/-- BFX (R146, R148): the field operand is a word. -/
def execBfx (g : Guard) (a f d : Operand) (s : State) : Host.Outcome State Fault Refusal :=
  .next (
    let n := sizeS g
    s.compute g (varBadS g.var) [srcSlot n a, srcSlot 4 f, dstSlot n d] fun x =>
      let (r, fl) := opBfx (8 * n) (x.val 0) (x.val 1)
      .ok { writes := [none, none, some r], flags := some fl, jump := none, base := 1 })

/-- BFI (R146, R148): the field operand is a word. -/
def execBfi (g : Guard) (a f d : Operand) (s : State) : Host.Outcome State Fault Refusal :=
  .next (
    let n := sizeS g
    s.compute g (varBadS g.var) [srcSlot n a, srcSlot 4 f, modSlot n d] fun x =>
      let (r, fl) := opBfi (8 * n) (x.val 0) (x.val 1) (x.val 2)
      .ok { writes := [none, none, some r], flags := some fl, jump := none, base := 1 })

/-- PSET (R150): P0 ignores writes. -/
def execPset (g : Guard) (k : Operand) (s : State) : Host.Outcome State Fault Refusal :=
  .next (s.act_ g false 1 [srcSlot 1 k] fun t _ next vals _ =>
    let c := coreNum g.core
    let i := vals.getD 0 0 % 8
    let hit := condTrue g.var.toNat (t.rdN (kWin c 0x20))
    .ok ((if i = 0 then t else t.setB (kWin c 0x24) i hit).retire c next))

/-- SET (R150). -/
def execSet (g : Guard) (d : Operand) (s : State) : Host.Outcome State Fault Refusal :=
  .next (s.compute g false [dstSlot 4 d] fun x =>
    .ok { writes := [some (condTrue g.var.toNat x.flags.toNat).toNat], flags := none, jump := none, base := 1 })

end Sys2Proof.Machine
end

