-- ==== Sys2Proof/Machine/Moves.lean ====
section
/-!
DEFINITION. The move instructions and the atomic compare (R139 to R142).
-/
namespace Sys2Proof.Machine

/-- The source and destination sizes of kind S2 (R126). -/
def sizeSrc (g : Guard) : Nat := sizeOfVar (nfld g.var.toNat 3 2)
def sizeDst (g : Guard) : Nat := sizeOfVar (nfld g.var.toNat 1 0)

/-- MOV (R140). -/
def execMov (g : Guard) (a d : Operand) (s : State) : Host.Outcome State Fault Refusal :=
  .next (s.compute1 g a d 1 fun _ v => (v, none))

/-- ZXT (R140). -/
def execZxt (g : Guard) (a d : Operand) (s : State) : Host.Outcome State Fault Refusal :=
  .next (s.compute g (varBadS2 g.var) [srcSlot (sizeSrc g) a, dstSlot (sizeDst g) d] fun x =>
    .ok { writes := [none, some (x.val 0)], flags := none, jump := none, base := 1 })

/-- SXT (R140). -/
def execSxt (g : Guard) (a d : Operand) (s : State) : Host.Outcome State Fault Refusal :=
  .next (s.compute g (varBadS2 g.var) [srcSlot (sizeSrc g) a, dstSlot (sizeDst g) d] fun x =>
    .ok { writes := [none, some (sext (8 * sizeSrc g) (8 * sizeDst g) (x.val 0))], flags := none, jump := none, base := 1 })

/-- LEA (R127, R140): the address is not accessed. -/
def execLea (g : Guard) (p d : Operand) (s : State) : Host.Outcome State Fault Refusal :=
  .next (s.compute g (varBadN g.var) [adrSlot 1 p, dstSlot 8 d] fun x =>
    .ok { writes := [none, some (x.val 0)], flags := none, jump := none, base := 1 })

/-- SWAP (R140, R142). -/
def execSwap (g : Guard) (x y : Operand) (s : State) : Host.Outcome State Fault Refusal :=
  .next (s.compute g (varBadS g.var) [modSlot (sizeS g) x, modSlot (sizeS g) y] fun z =>
    .ok { writes := [some (z.val 1), some (z.val 0)], flags := none, jump := none, base := 1 })

/-- CLR (R140). -/
def execClr (g : Guard) (d : Operand) (s : State) : Host.Outcome State Fault Refusal :=
  .next (s.compute g (varBadS g.var) [dstSlot (sizeS g) d] fun _ =>
    .ok { writes := [some 0], flags := none, jump := none, base := 1 })

/-- BSWAP (R140). -/
def execBswap (g : Guard) (a d : Operand) (s : State) : Host.Outcome State Fault Refusal :=
  .next (s.compute1 g a d 1 fun bits v => (byteSwap (bits / 8) v, none))

/-- What CAS meets at its address: ALIGN, then BUS outside plain scratchpad, then MEMERR (R107, R114, R141, R427). -/
def State.casFault (s : State) (c : CoreId) (pc a size : Nat) : Option Stop :=
  if a % size ≠ 0 then some (.trap 2 pc a .none)
  else match s.coreTarget c a with
    | .mem m =>
      if 0x2000000000 ≤ m ∧ m < 0x2000400000 then
        (if s.marked m size then some (.trap 4 pc a (.ue m size)) else none)
      else some (.trap 3 pc a .none)
    | .hole => some (.trap 3 pc a .hole)
    | _ => some (.trap 3 pc a .none)

/-- The clocks of a line core's scratchpad read: 2 to 9, as its bank is busy (R104). -/
def State.scratchRead (s : State) (c : Nat) : State :=
  if (s.core c).counting then
    let (v, t) := s.fresh
    t.spend c (2 + v % 8)
  else s

/-- CAS (R141): one access of the bank reads, compares and, where equal, writes; Z tells. -/
def execCas (g : Guard) (e n p : Operand) (s : State) : Host.Outcome State Fault Refusal :=
  .next (
    let k := sizeS g
    s.act_ g (varBadS g.var) 4 [srcSlot k e, srcSlot k n, adrSlot k p] fun t pc next vals _ =>
      let c := coreNum g.core
      let a := vals.getD 2 0
      match t.casFault g.core pc a k with
      | some f => .error f
      | none =>
        let t := t.mends a k
        let same := t.loadN a k == vals.getD 0 0
        let o := flagsRead (t.rdN (kWin c 0x20))
        let t := (t.scratchRead c).putFlags c (some { o with z := same })
        .ok ((if same then t.memStore a (leBytes k (vals.getD 1 0)) else t).retire c next))

end Sys2Proof.Machine
end

