-- ==== Sys2Proof/Machine/Strings.lean ====
section
/-!
DEFINITION. String instructions and repeats (R153 to R159).
-/
namespace Sys2Proof.Machine

/-- The memory that a string instruction reaches through SRCP and DSTP, as operands of modes 12 and 13 (R154). -/
def srcStream : Operand := { spec := 0xC000, ext := 0 }
def dstStream : Operand := { spec := 0xD000, ext := 0 }

/-- The operands of a string instruction in the order it addresses them (R154). -/
def stringOrder (op : StringOp) (n : Nat) : List Slot :=
  match op with
  | .smov => [srcSlot n srcStream, dstSlot n dstStream]
  | .sset a => [srcSlot n a, dstSlot n dstStream]
  | .sget d => [srcSlot n srcStream, dstSlot n d]
  | .scmp => [srcSlot n srcStream, srcSlot n dstStream]
  | .sfind a => [srcSlot n srcStream, srcSlot n a]

/-- The operation of a string instruction (R153). -/
def stringApply (op : StringOp) (n : Nat) (x : Ctx) : Except Stop Out :=
  let move : Out := { writes := [none, some (x.val 0)], flags := none, jump := none, base := 1 }
  let test (p q : Nat) : Out := { writes := [none, none], flags := some (opSub (8 * n) p q false).2, jump := none, base := 1 }
  match op with
  | .smov => .ok move
  | .sset _ => .ok move
  | .sget _ => .ok move
  | .scmp => .ok (test (x.val 1) (x.val 0))
  | .sfind _ => .ok (test (x.val 0) (x.val 1))

/-- A string instruction without a prefix (R154). -/
def State.stringOnce (s : State) (g : Guard) (op : StringOp) : State :=
  let n := sizeS g
  s.computeWith g (parcelsOf g.core (varBadS g.var) (stringSlots op n)) (stringOrder op n) (stringApply op n)

/-- SMOV (R153). -/
def execSmov (g : Guard) (s : State) : Host.Outcome State Fault Refusal := .next (s.stringOnce g .smov)

/-- SSET (R153). -/
def execSset (g : Guard) (a : Operand) (s : State) : Host.Outcome State Fault Refusal := .next (s.stringOnce g (.sset a))

/-- SGET (R153). -/
def execSget (g : Guard) (d : Operand) (s : State) : Host.Outcome State Fault Refusal := .next (s.stringOnce g (.sget d))

/-- SCMP (R153). -/
def execScmp (g : Guard) (s : State) : Host.Outcome State Fault Refusal := .next (s.stringOnce g .scmp)

/-- SFIND (R153). -/
def execSfind (g : Guard) (a : Operand) (s : State) : Host.Outcome State Fault Refusal := .next (s.stringOnce g (.sfind a))

/-! ### Repeats -/

/-- One iteration of a repeat, and whether the repeat goes on (R157, R158). -/
def State.iterate (s : State) (c : CoreId) (pc : Nat) (q : RepRec) : Except Stop (Bool × State) :=
  let k := coreNum c
  let n := sizeOfVar q.var.toNat
  let slots := stringOrder q.op n
  match (s.setCore k { s.core k with cntHit := false }).operands c pc slots with
  | .error e => .error e
  | .ok (locs, t) =>
    match t.operate c pc q.next slots locs (stringApply q.op n) with
    | .error e => .error e
    | .ok u =>
      if (u.core k).cntHit then .ok (false, u.setB (kWin k 0x20) 4 true)
      else
        let cnt := (u.rdN (kWin k 0x1C) + 2 ^ 32 - 1) % 2 ^ 32
        let u := u.wrN (kWin k 0x1C) cnt
        let z := u.bit (kWin k 0x20) 0
        .ok (cnt != 0 && !(q.mode == 1 && z) && !(q.mode == 2 && !z), u)

/-- After an iteration: the repeat waits for its next one, a step halts at the prefix, or the instruction completes (R157,
R159), once no write of the iteration waits at the port (R176). -/
def State.afterIteration (s : State) (c : Nat) (q : RepRec) (more : Bool) : State :=
  if more then
    let s := s.setCore c { s.core c with rep := some q, waitNext := s.pc c, cntHit := false }
    if (s.core c).stepArm && (s.core c).wait != .port then s.haltCore c 3 else s
  else (s.setCore c { s.core c with rep := none }).retire c q.next

/-- The prefix parcel is no prefix, or one with a reserved field (R155, R156). -/
def prefixBad (pre : Parcel) : Bool :=
  nfld pre.toNat 15 12 != 0 || nfld pre.toNat 11 4 != 1 || decide (3 ≤ nfld pre.toNat 3 0)

/-- The first parcel after a prefix is illegal: no string instruction, a reserved VAR, or one that REPM or REPD may not
precede (R155, R156). -/
def afterPrefixBad (g : Guard) (pre : Parcel) (op : Prefixed) : Bool :=
  match op with
  | .other _ => true
  | .str o => varBadS g.var || (nfld pre.toNat 3 0 != 0 && !stringCompares o)

/-- The parcels of a repeated instruction: prefix, first parcel, the operand's. -/
def repParcels (g : Guard) (pre : Parcel) (op : Prefixed) : List Bool :=
  prefixBad pre :: match op with
    | .other _ => [true]
    | .str o => parcelsOf g.core (afterPrefixBad g pre op) (stringSlots o (sizeS g))

/-- A repeated string instruction: its prefix and first iteration (R157). A fault in the first iteration changes nothing
(R110). -/
def State.repeat_ (s : State) (g : Guard) (pre : Parcel) (op : Prefixed) : State :=
  let c := coreNum g.core
  s.meet g (repParcels g pre op) fun t pc next =>
    match op with
    | .other _ => .ok t
    | .str o =>
      let q : RepRec := { op := o, mode := nfld pre.toNat 3 0, var := g.var, next := next }
      let u := (t.spend c 1).setB (kWin c 0x20) 4 false
      if u.rdN (kWin c 0x1C) = 0 then .ok (u.retire c next)
      else match u.iterate g.core pc q with
        | .error e => .error e
        | .ok (more, w) => .ok (w.afterIteration c q more)

/-- REP (R157). -/
def execRep (g : Guard) (pre : Parcel) (op : Prefixed) (s : State) : Host.Outcome State Fault Refusal :=
  .next (s.repeat_ g pre op)

/-- REPM (R157). -/
def execRepm (g : Guard) (pre : Parcel) (op : Prefixed) (s : State) : Host.Outcome State Fault Refusal :=
  .next (s.repeat_ g pre op)

/-- REPD (R157). -/
def execRepd (g : Guard) (pre : Parcel) (op : Prefixed) (s : State) : Host.Outcome State Fault Refusal :=
  .next (s.repeat_ g pre op)

/-- REP_ITERATION (R157, R159): one further iteration, where nothing is taken between iterations. -/
def execRepIteration (c : CoreId) (s : State) : Host.Outcome State Fault Refusal :=
  .next (
    let k := coreNum c
    match (s.core k).rep with
    | none => s
    | some q =>
      if !s.atBoundary c then s
      else
        let t := s.setCore k { s.core k with late := false }
        match t.iterate c (t.pc k) q with
        | .error e => t.stopped c e
        | .ok (more, u) => u.afterIteration k q more)

end Sys2Proof.Machine
end

