-- ==== Sys2Proof/Machine/TimeRows.lean ====
section
/-!
DEFINITION. Commands that reach a register of the time base, Bellwire, the interrupt controller or cabinet I/O (R434 to R451, R462 to
R466, R478 to R491).
-/
namespace Sys2Proof.Machine

/-- TB_LO_READ (R434). -/
def execTbLoRead (req : Requester) (s : State) : Host.Outcome State Fault Refusal :=
  .next (s.reqRead req 0x3003600000 4)

/-- CMP_VAL_LO_WRITE (R435). -/
def execCmpValLoWrite (req : Requester) (n : Fin 64) (lo : Word) (s : State) : Host.Outcome State Fault Refusal :=
  .next (s.reqWrite req (kCmp n.val 0) 4 lo.toNat)

/-- CMP_VAL_WRITE (R435): one write of 8 bytes, or a write of the high half. -/
def execCmpValWrite (req : Requester) (n : Fin 64) (full : Bool) (value : Double) (s : State) :
    Host.Outcome State Fault Refusal :=
  .next (if full then s.reqWrite req (kCmp n.val 0) 8 value.toNat
    else s.reqWrite req (kCmp n.val 4) 4 (value.toNat % 2 ^ 32))

/-- CAP_POP (R443). -/
def execCapPop (req : Requester) (n : Fin 16) (s : State) : Host.Outcome State Fault Refusal :=
  .next (s.reqRead req (kCap n.val 4) 4)

/-- CHANNEL_FIRE (R445): CUT_EN is written as it stands. -/
def execChannelFire (req : Requester) (c : BellId) (s : State) : Host.Outcome State Fault Refusal :=
  .next (s.reqWrite req (kCh c.val 0) 4 (setBit (s.rd (kCh c.val 0)) 31 true).toNat)

/-- CUT_RESUME (R451). -/
def execCutResume (req : Requester) (c : BellId) (s : State) : Host.Outcome State Fault Refusal :=
  .next (s.reqWrite req (kCh c.val 4) 4 (2 ^ 29))

/-- IC_CLAIM (R462). -/
def execIcClaim (req : Requester) (s : State) : Host.Outcome State Fault Refusal := .next (s.reqRead req (kIc 0x2300) 4)

/-- IC_COMPLETE (R464). -/
def execIcComplete (req : Requester) (n : SrcId) (s : State) : Host.Outcome State Fault Refusal :=
  .next (s.reqWrite req (kIc 0x2304) 4 n.val)

/-- IC_PEND_WRITE (R466). -/
def execIcPendWrite (req : Requester) (w : Fin 32) (value : Word) (s : State) : Host.Outcome State Fault Refusal :=
  .next (s.reqWrite req (kIc (0x2080 + 4 * w.val)) 4 value.toNat)

/-- CIO_HANDOVER (R478). -/
def execCioHandover (req : Requester) (p : PinId) (cfg : Word) (s : State) : Host.Outcome State Fault Refusal :=
  .next (s.reqWrite req (kPin p.val) 4 cfg.toNat)

/-- SER_DATA_WRITE (R491). -/
def execSerDataWrite (req : Requester) (g : Fin 12) (value : Word) (s : State) : Host.Outcome State Fault Refusal :=
  .next (s.reqWrite req (kCio (0x1004 + 16 * g.val)) 4 value.toNat)

/-- SER_DATA_READ (R491). -/
def execSerDataRead (req : Requester) (g : Fin 12) (s : State) : Host.Outcome State Fault Refusal :=
  .next (s.reqRead req (kCio (0x1004 + 16 * g.val)) 4)

/-- QD_COUNT_READ (R485). -/
def execQdCountRead (req : Requester) (g : Fin 12) (s : State) : Host.Outcome State Fault Refusal :=
  .next (s.reqRead req (kCio (0x2000 + 4 * g.val)) 4)

/-- MX_KEYS_READ (R486). -/
def execMxKeysRead (req : Requester) (g : Fin 12) (s : State) : Host.Outcome State Fault Refusal :=
  .next (s.reqRead req (kCio (0x2100 + 4 * g.val)) 4)

/-- MTR_ADD (R487). -/
def execMtrAdd (req : Requester) (m : Fin 24) (value : Word) (s : State) : Host.Outcome State Fault Refusal :=
  .next (s.reqWrite req (kCio (0x2200 + 4 * m.val)) 4 value.toNat)

end Sys2Proof.Machine
end

