-- ==== Sys2Proof/Machine/UnitRows.lean ====
section
/-!
DEFINITION. Commands that write a register of audio, a block engine, a Carter channel or the memory system (R348 to R351, R373 to
R385, R401 to R404, R426).
-/
namespace Sys2Proof.Machine

/-- KEY_ON (R349). -/
def execKeyOn (req : Requester) (v : VoiceId) (s : State) : Host.Outcome State Fault Refusal :=
  .next (s.reqWrite req (kVoice (voiceNum v) 0x40) 4 1)

/-- KEY_OFF (R349). -/
def execKeyOff (req : Requester) (v : VoiceId) (s : State) : Host.Outcome State Fault Refusal :=
  .next (s.reqWrite req (kVoice (voiceNum v) 0x40) 4 2)

/-- KILL (R351). -/
def execKill (req : Requester) (v : VoiceId) (s : State) : Host.Outcome State Fault Refusal :=
  .next (s.reqWrite req (kVoice (voiceNum v) 0x40) 4 4)

/-- AUD_SWAP (R348). -/
def execAudSwap (req : Requester) (value : Word) (s : State) : Host.Outcome State Fault Refusal :=
  .next (s.reqWrite req 0x3003071000 4 value.toNat)

/-- BLK_TAKE (R373). -/
def execBlkTake (req : Requester) (e : BlkId) (s : State) : Host.Outcome State Fault Refusal :=
  .next (s.reqWrite req (kBlk e.val 0) 4 (2 ^ 31))

/-- BLK_GIVE (R373). -/
def execBlkGive (req : Requester) (e : BlkId) (s : State) : Host.Outcome State Fault Refusal :=
  .next (s.reqWrite req (kBlk e.val 0) 4 (2 ^ 30))

/-- BLK_GO (R378). -/
def execBlkGo (req : Requester) (e : BlkId) (s : State) : Host.Outcome State Fault Refusal :=
  .next (s.reqWrite req (kBlk e.val 4) 4 (2 ^ 31))

/-- BLK_ABORT (R385). -/
def execBlkAbort (req : Requester) (e : BlkId) (s : State) : Host.Outcome State Fault Refusal :=
  .next (s.reqWrite req (kBlk e.val 4) 4 (2 ^ 30))

/-- CARTER_START (R401). -/
def execCarterStart (req : Requester) (c : ChanId) (s : State) : Host.Outcome State Fault Refusal :=
  .next (s.reqWrite req (kCar c.val 0) 4 (2 ^ 31))

/-- CARTER_PAUSE (R402). -/
def execCarterPause (req : Requester) (c : ChanId) (s : State) : Host.Outcome State Fault Refusal :=
  .next (s.reqWrite req (kCar c.val 0) 4 (2 ^ 30))

/-- CARTER_RESUME (R403). -/
def execCarterResume (req : Requester) (c : ChanId) (s : State) : Host.Outcome State Fault Refusal :=
  .next (s.reqWrite req (kCar c.val 0) 4 (2 ^ 29))

/-- CARTER_DISABLE (R404). -/
def execCarterDisable (req : Requester) (c : ChanId) (s : State) : Host.Outcome State Fault Refusal :=
  .next (s.reqWrite req (kCar c.val 0) 4 (2 ^ 28))

/-- MARCH_GO (R426): GO without ABORT. -/
def execMarchGo (req : Requester) (ctl : Word) (s : State) : Host.Outcome State Fault Refusal :=
  .next (s.reqWrite req (kMemAll 0x40) 4 (setBit (setBit ctl 30 false) 31 true).toNat)

/-- What MEM_MARCH_CTL holds for the requester's bench. -/
def State.marchWord (s : State) (r : Requester) : Word :=
  match s.benchOf r with
  | some b => s.rd (kMem b 0x40)
  | none => 0

/-- MARCH_ABORT (R426): its other fields as they stand. -/
def execMarchAbort (req : Requester) (s : State) : Host.Outcome State Fault Refusal :=
  .next (s.reqWrite req (kMemAll 0x40) 4 (setBit (s.marchWord req) 30 true).toNat)

end Sys2Proof.Machine
end

