-- ==== Sys2Proof/Machine/Dispatch.lean ====
section
/-!
DEFINITION. One arm per command: each is one direct call of the command's meaning, or rejected by name.
-/
namespace Sys2Proof.Machine

/-- The effect of a command on everything but the queue. -/
def exec (i : Instr) (s : State) : Host.Outcome State Fault Refusal :=
  match i with
  | .registerWrite at_ size value => Sys2Proof.Machine.execRegisterWrite at_ size value s
  | .perstAssert => Sys2Proof.Machine.execPerstAssert s
  | .perstDeassert => Sys2Proof.Machine.execPerstDeassert s
  | .functionLevelReset b => Sys2Proof.Machine.execFunctionLevelReset b s
  | .flrComplete b => Sys2Proof.Machine.execFlrComplete b s
  | .scrubFillDone b unit => Sys2Proof.Machine.execScrubFillDone b unit s
  | .d3hotEntry b => Sys2Proof.Machine.execD3hotEntry b s
  | .d3hotToD0 b => Sys2Proof.Machine.execD3hotToD0 b s
  | .hotReset l => Sys2Proof.Machine.execHotReset l s
  | .linkUp l width rate => Sys2Proof.Machine.execLinkUp l width rate s
  | .linkTrainTimeout l => Sys2Proof.Machine.execLinkTrainTimeout l s
  | .refclkLoss => Sys2Proof.Machine.execRefclkLoss s
  | .pcieErrorTlp l kind => Sys2Proof.Machine.execPcieErrorTlp l kind s
  | .bar0AccessBad b off size write value => Sys2Proof.Machine.execBar0AccessBad b off size write value s
  | .bar2Read b off data => Sys2Proof.Machine.execBar2Read b off data s
  | .bar2Write b off bytes poisoned => Sys2Proof.Machine.execBar2Write b off bytes poisoned s
  | .msixVectorUnmask b act => Sys2Proof.Machine.execMsixVectorUnmask b act s
  | .ptmReq b => Sys2Proof.Machine.execPtmReq b s
  | .ptmPeriodTimer b => Sys2Proof.Machine.execPtmPeriodTimer b s
  | .ptmMeasurementEnd b tbReq master prop => Sys2Proof.Machine.execPtmMeasurementEnd b tbReq master prop s
  | .ptmTimeout b => Sys2Proof.Machine.execPtmTimeout b s
  | .aspmL1Entry l => Sys2Proof.Machine.execAspmL1Entry l s
  | .smbusReadWord call cmd => Sys2Proof.Machine.execSmbusReadWord call cmd s
  | .smbusTimeout => Sys2Proof.Machine.execSmbusTimeout s
  | .doorbellWrite b off size value => Sys2Proof.Machine.execDoorbellWrite b off size value s
  | .bar4BadAccess b off size write value => Sys2Proof.Machine.execBar4BadAccess b off size write value s
  | .ringEnable req g ctl => Sys2Proof.Machine.execRingEnable req g ctl s
  | .ringDisable req g ctl => Sys2Proof.Machine.execRingDisable req g ctl s
  | .ringEntryFetched g host => Sys2Proof.Machine.execRingEntryFetched g host s
  | .ringErrClear req g => Sys2Proof.Machine.execRingErrClear req g s
  | .mboxDeliver c => Sys2Proof.Machine.execMboxDeliver c s
  | .mboxDone c status => Sys2Proof.Machine.execMboxDone c status s
  | .stopCarter b half mask => Sys2Proof.Machine.execStopCarter b half mask s
  | .stopCores b mask => Sys2Proof.Machine.execStopCores b mask s
  | .stopUnits b value => Sys2Proof.Machine.execStopUnits b value s
  | .stopRelease b value => Sys2Proof.Machine.execStopRelease b value s
  | .stopHalted b => Sys2Proof.Machine.execStopHalted b s
  | .stopQuiet b => Sys2Proof.Machine.execStopQuiet b s
  | .coreRun req c => Sys2Proof.Machine.execCoreRun req c s
  | .coreHalt req c => Sys2Proof.Machine.execCoreHalt req c s
  | .coreStep req c => Sys2Proof.Machine.execCoreStep req c s
  | .coreHaltTaken c => Sys2Proof.Machine.execCoreHaltTaken c s
  | .coreWinWrite req c off size value => Sys2Proof.Machine.execCoreWinWrite req c off size value s
  | .lcLoadData req h data => Sys2Proof.Machine.execLcLoadData req h data s
  | .lcStart h => Sys2Proof.Machine.execLcStart h s
  | .instructionFetchFill c => Sys2Proof.Machine.execInstructionFetchFill c s
  | .intTrap c => Sys2Proof.Machine.execIntTrap c s
  | .lateTrap h => Sys2Proof.Machine.execLateTrap h s
  | .undefinedOpcode c first => Sys2Proof.Machine.execUndefinedOpcode c first s
  | .nop g => Sys2Proof.Machine.execNop g s
  | .rep g pre op => Sys2Proof.Machine.execRep g pre op s
  | .repm g pre op => Sys2Proof.Machine.execRepm g pre op s
  | .repd g pre op => Sys2Proof.Machine.execRepd g pre op s
  | .repIteration c => Sys2Proof.Machine.execRepIteration c s
  | .halt g => Sys2Proof.Machine.execHalt g s
  | .trap g n => Sys2Proof.Machine.execTrap g n s
  | .rett g => Sys2Proof.Machine.execRett g s
  | .wait g => Sys2Proof.Machine.execWait g s
  | .waitComplete c => Sys2Proof.Machine.execWaitComplete c s
  | .waitl g n => Sys2Proof.Machine.execWaitl g n s
  | .waitlComplete h => Sys2Proof.Machine.execWaitlComplete h s
  | .waits g n => Sys2Proof.Machine.execWaits g n s
  | .waitsComplete h => Sys2Proof.Machine.execWaitsComplete h s
  | .waitn g => Sys2Proof.Machine.execWaitn g s
  | .waitnComplete h => Sys2Proof.Machine.execWaitnComplete h s
  | .sync g => Sys2Proof.Machine.execSync g s
  | .syncComplete c => Sys2Proof.Machine.execSyncComplete c s
  | .cinv g p n => Sys2Proof.Machine.execCinv g p n s
  | .mov g a d => Sys2Proof.Machine.execMov g a d s
  | .zxt g a d => Sys2Proof.Machine.execZxt g a d s
  | .sxt g a d => Sys2Proof.Machine.execSxt g a d s
  | .lea g p d => Sys2Proof.Machine.execLea g p d s
  | .swap g x y => Sys2Proof.Machine.execSwap g x y s
  | .clr g d => Sys2Proof.Machine.execClr g d s
  | .bswap g a d => Sys2Proof.Machine.execBswap g a d s
  | .cas g e n p => Sys2Proof.Machine.execCas g e n p s
  | .add g a b d => Sys2Proof.Machine.execAdd g a b d s
  | .adc g a b d => Sys2Proof.Machine.execAdc g a b d s
  | .sub g a b d => Sys2Proof.Machine.execSub g a b d s
  | .sbc g a b d => Sys2Proof.Machine.execSbc g a b d s
  | .neg g a d => Sys2Proof.Machine.execNeg g a d s
  | .cmp g a b => Sys2Proof.Machine.execCmp g a b s
  | .mul g a b d => Sys2Proof.Machine.execMul g a b d s
  | .mulhs g a b d => Sys2Proof.Machine.execMulhs g a b d s
  | .mulhu g a b d => Sys2Proof.Machine.execMulhu g a b d s
  | .mac g a b c => Sys2Proof.Machine.execMac g a b c s
  | .divs g a b d => Sys2Proof.Machine.execDivs g a b d s
  | .divu g a b d => Sys2Proof.Machine.execDivu g a b d s
  | .rems g a b d => Sys2Proof.Machine.execRems g a b d s
  | .remu g a b d => Sys2Proof.Machine.execRemu g a b d s
  | .abs g a d => Sys2Proof.Machine.execAbs g a d s
  | .and g a b d => Sys2Proof.Machine.execAnd g a b d s
  | .or g a b d => Sys2Proof.Machine.execOr g a b d s
  | .xor g a b d => Sys2Proof.Machine.execXor g a b d s
  | .not g a d => Sys2Proof.Machine.execNot g a d s
  | .andn g a b d => Sys2Proof.Machine.execAndn g a b d s
  | .tst g a b => Sys2Proof.Machine.execTst g a b s
  | .shl g a n d => Sys2Proof.Machine.execShl g a n d s
  | .shr g a n d => Sys2Proof.Machine.execShr g a n d s
  | .sar g a n d => Sys2Proof.Machine.execSar g a n d s
  | .rol g a n d => Sys2Proof.Machine.execRol g a n d s
  | .ror g a n d => Sys2Proof.Machine.execRor g a n d s
  | .clz g a d => Sys2Proof.Machine.execClz g a d s
  | .popc g a d => Sys2Proof.Machine.execPopc g a d s
  | .bfx g a f d => Sys2Proof.Machine.execBfx g a f d s
  | .bfi g a f d => Sys2Proof.Machine.execBfi g a f d s
  | .qadd g a b d => Sys2Proof.Machine.execQadd g a b d s
  | .qaddu g a b d => Sys2Proof.Machine.execQaddu g a b d s
  | .qsub g a b d => Sys2Proof.Machine.execQsub g a b d s
  | .qsubu g a b d => Sys2Proof.Machine.execQsubu g a b d s
  | .mins g a b d => Sys2Proof.Machine.execMins g a b d s
  | .maxs g a b d => Sys2Proof.Machine.execMaxs g a b d s
  | .minu g a b d => Sys2Proof.Machine.execMinu g a b d s
  | .maxu g a b d => Sys2Proof.Machine.execMaxu g a b d s
  | .pset g k => Sys2Proof.Machine.execPset g k s
  | .set g d => Sys2Proof.Machine.execSet g d s
  | .b g disp => Sys2Proof.Machine.execB g disp s
  | .jmp g t => Sys2Proof.Machine.execJmp g t s
  | .call g t link => Sys2Proof.Machine.execCall g t link s
  | .callr g disp link => Sys2Proof.Machine.execCallr g disp link s
  | .dbnz g c disp => Sys2Proof.Machine.execDbnz g c disp s
  | .smov g => Sys2Proof.Machine.execSmov g s
  | .sset g a => Sys2Proof.Machine.execSset g a s
  | .sget g d => Sys2Proof.Machine.execSget g d s
  | .scmp g => Sys2Proof.Machine.execScmp g s
  | .sfind g a => Sys2Proof.Machine.execSfind g a s
  | .renderLineBoundary h assay => Sys2Proof.Machine.execRenderLineBoundary h assay s
  | .spanBoundary h => Sys2Proof.Machine.execSpanBoundary h s
  | .sortDescriptorRead h => Sys2Proof.Machine.execSortDescriptorRead h s
  | .peFetchReturn h what addr data => Sys2Proof.Machine.execPeFetchReturn h what addr data s
  | .bitmapFetchReturn h p addr data => Sys2Proof.Machine.execBitmapFetchReturn h p addr data s
  | .surfaceReadReturn h firstCol lastCol uncorrectable => Sys2Proof.Machine.execSurfaceReadReturn h firstCol lastCol uncorrectable s
  | .stagedWrite req addr size value => Sys2Proof.Machine.execStagedWrite req addr size value s
  | .paletteWrite req addr size value => Sys2Proof.Machine.execPaletteWrite req addr size value s
  | .shadowWrite req addr size value => Sys2Proof.Machine.execShadowWrite req addr size value s
  | .commit req h planes => Sys2Proof.Machine.execCommit req h planes s
  | .scanLineBoundary h => Sys2Proof.Machine.execScanLineBoundary h s
  | .fenceArm req h p en chan => Sys2Proof.Machine.execFenceArm req h p en chan s
  | .flatInval req h => Sys2Proof.Machine.execFlatInval req h s
  | .headStart req h => Sys2Proof.Machine.execHeadStart req h s
  | .beamsStart h => Sys2Proof.Machine.execBeamsStart h s
  | .headStop req h => Sys2Proof.Machine.execHeadStop req h s
  | .headStopImmediate req h => Sys2Proof.Machine.execHeadStopImmediate req h s
  | .syncEdge h src => Sys2Proof.Machine.execSyncEdge h src s
  | .presentGo req h => Sys2Proof.Machine.execPresentGo req h s
  | .scanLineActiveEnd at_ => Sys2Proof.Machine.execScanLineActiveEnd at_ s
  | .hpdPlug h => Sys2Proof.Machine.execHpdPlug h s
  | .hpdUnplug h => Sys2Proof.Machine.execHpdUnplug h s
  | .irqHpd h lockLost => Sys2Proof.Machine.execIrqHpd h lockLost s
  | .hpdGlitch h => Sys2Proof.Machine.execHpdGlitch h s
  | .linkTrainingDone h result => Sys2Proof.Machine.execLinkTrainingDone h result s
  | .linkRetryTimer h => Sys2Proof.Machine.execLinkRetryTimer h s
  | .linkLost h => Sys2Proof.Machine.execLinkLost h s
  | .linkRetrain req h => Sys2Proof.Machine.execLinkRetrain req h s
  | .auxGo req h ctl => Sys2Proof.Machine.execAuxGo req h ctl s
  | .auxReply h reply => Sys2Proof.Machine.execAuxReply h reply s
  | .psrEnter req h => Sys2Proof.Machine.execPsrEnter req h s
  | .psrExit req h => Sys2Proof.Machine.execPsrExit req h s
  | .psrSuGo req h => Sys2Proof.Machine.execPsrSuGo req h s
  | .mirrorCopyDone h => Sys2Proof.Machine.execMirrorCopyDone h s
  | .engineInternalCheckFail unit => Sys2Proof.Machine.execEngineInternalCheckFail unit s
  | .journalBlockSeal h => Sys2Proof.Machine.execJournalBlockSeal h s
  | .gapRecord h => Sys2Proof.Machine.execGapRecord h s
  | .ckptReq req h => Sys2Proof.Machine.execCkptReq req h s
  | .ckptEnd h => Sys2Proof.Machine.execCkptEnd h s
  | .drainEnable req h size => Sys2Proof.Machine.execDrainEnable req h size s
  | .drainDisable req h size => Sys2Proof.Machine.execDrainDisable req h size s
  | .drainBlock h => Sys2Proof.Machine.execDrainBlock h s
  | .sampleBoundary => Sys2Proof.Machine.execSampleBoundary s
  | .keyOn req v => Sys2Proof.Machine.execKeyOn req v s
  | .keyOff req v => Sys2Proof.Machine.execKeyOff req v s
  | .kill req v => Sys2Proof.Machine.execKill req v s
  | .audSwap req value => Sys2Proof.Machine.execAudSwap req value s
  | .gainTimeout unit => Sys2Proof.Machine.execGainTimeout unit s
  | .crossfadeEnd unit => Sys2Proof.Machine.execCrossfadeEnd unit s
  | .voiceFetchReturn v addr data => Sys2Proof.Machine.execVoiceFetchReturn v addr data s
  | .audioCmdWrite => Sys2Proof.Machine.execAudioCmdWrite s
  | .audioCmdMark => Sys2Proof.Machine.execAudioCmdMark s
  | .audioCmdUnknown => Sys2Proof.Machine.execAudioCmdUnknown s
  | .tdmFrame portB slotsIn => Sys2Proof.Machine.execTdmFrame portB slotsIn s
  | .wclkEdge portB inRange => Sys2Proof.Machine.execWclkEdge portB inRange s
  | .wclkLoss portB => Sys2Proof.Machine.execWclkLoss portB s
  | .wclkReturn portB => Sys2Proof.Machine.execWclkReturn portB s
  | .bridgeLock portB => Sys2Proof.Machine.execBridgeLock portB s
  | .blkTake req e => Sys2Proof.Machine.execBlkTake req e s
  | .blkGive req e => Sys2Proof.Machine.execBlkGive req e s
  | .blkGo req e => Sys2Proof.Machine.execBlkGo req e s
  | .blkAbort req e => Sys2Proof.Machine.execBlkAbort req e s
  | .blkPieceDone e => Sys2Proof.Machine.execBlkPieceDone e s
  | .blkDeadTimeEnd e => Sys2Proof.Machine.execBlkDeadTimeEnd e s
  | .carterStart req c => Sys2Proof.Machine.execCarterStart req c s
  | .carterPause req c => Sys2Proof.Machine.execCarterPause req c s
  | .carterResume req c => Sys2Proof.Machine.execCarterResume req c s
  | .carterDisable req c => Sys2Proof.Machine.execCarterDisable req c s
  | .carterDescriptorFetched c host => Sys2Proof.Machine.execCarterDescriptorFetched c host s
  | .carterReadReturn c host => Sys2Proof.Machine.execCarterReadReturn c host s
  | .carterWriteComplete c => Sys2Proof.Machine.execCarterWriteComplete c s
  | .carterBusError c err => Sys2Proof.Machine.execCarterBusError c err s
  | .scrubStep found => Sys2Proof.Machine.execScrubStep found s
  | .retireCopyDone => Sys2Proof.Machine.execRetireCopyDone s
  | .marchGo req ctl => Sys2Proof.Machine.execMarchGo req ctl s
  | .marchAbort req => Sys2Proof.Machine.execMarchAbort req s
  | .marchEnd b failing => Sys2Proof.Machine.execMarchEnd b failing s
  | .marchZeroFillDone b => Sys2Proof.Machine.execMarchZeroFillDone b s
  | .bankRotationCopyDone => Sys2Proof.Machine.execBankRotationCopyDone s
  | .bankMarchDone pass => Sys2Proof.Machine.execBankMarchDone pass s
  | .tbTick => Sys2Proof.Machine.execTbTick s
  | .tbStep => Sys2Proof.Machine.execTbStep s
  | .tbLoRead req => Sys2Proof.Machine.execTbLoRead req s
  | .cmpValLoWrite req n lo => Sys2Proof.Machine.execCmpValLoWrite req n lo s
  | .cmpValWrite req n full value => Sys2Proof.Machine.execCmpValWrite req n full value s
  | .capture n rise => Sys2Proof.Machine.execCapture n rise s
  | .capPop req n => Sys2Proof.Machine.execCapPop req n s
  | .channelFire req c => Sys2Proof.Machine.execChannelFire req c s
  | .channelDeliver c done => Sys2Proof.Machine.execChannelDeliver c done s
  | .routeChangeApply c forced => Sys2Proof.Machine.execRouteChangeApply c forced s
  | .stormWindow => Sys2Proof.Machine.execStormWindow s
  | .cutResume req c => Sys2Proof.Machine.execCutResume req c s
  | .sourceLevelChange n => Sys2Proof.Machine.execSourceLevelChange n s
  | .interruptOffer n => Sys2Proof.Machine.execInterruptOffer n s
  | .icClaim req => Sys2Proof.Machine.execIcClaim req s
  | .icComplete req n => Sys2Proof.Machine.execIcComplete req n s
  | .holdoffEnd n => Sys2Proof.Machine.execHoldoffEnd n s
  | .icPendWrite req w value => Sys2Proof.Machine.execIcPendWrite req w value s
  | .watchWake k => Sys2Proof.Machine.execWatchWake k s
  | .cioHandover req p cfg => Sys2Proof.Machine.execCioHandover req p cfg s
  | .pinFilterPass p level => Sys2Proof.Machine.execPinFilterPass p level s
  | .serDataWrite req g value => Sys2Proof.Machine.execSerDataWrite req g value s
  | .serDataRead req g => Sys2Proof.Machine.execSerDataRead req g s
  | .serByteDone g rx => Sys2Proof.Machine.execSerByteDone g rx s
  | .serBusTimeout g => Sys2Proof.Machine.execSerBusTimeout g s
  | .qdSample g a b => Sys2Proof.Machine.execQdSample g a b s
  | .qdCountRead req g => Sys2Proof.Machine.execQdCountRead req g s
  | .mxRowDwell g columns => Sys2Proof.Machine.execMxRowDwell g columns s
  | .mxKeysRead req g => Sys2Proof.Machine.execMxKeysRead req g s
  | .mtrAdd req m value => Sys2Proof.Machine.execMtrAdd req m value s
  | .mtrPulseTimer m => Sys2Proof.Machine.execMtrPulseTimer m s
  | .sensorSample samples => Sys2Proof.Machine.execSensorSample samples s
  | .throttleStep => Sys2Proof.Machine.execThrottleStep s
  | .supplyComparatorTrip word => Sys2Proof.Machine.execSupplyComparatorTrip word s
  | .clockLoss => Sys2Proof.Machine.execClockLoss s
  | .lfXtal => Sys2Proof.Machine.execLfXtal s
  | .clerkWatchdog => Sys2Proof.Machine.execClerkWatchdog s
  | .faultReport => Sys2Proof.Machine.execFaultReport s
  | .reportsLost => Sys2Proof.Machine.execReportsLost s
  | .logBlockSeal => Sys2Proof.Machine.execLogBlockSeal s
  | .chmAck => Sys2Proof.Machine.execChmAck s
  | .stagePlan => Sys2Proof.Machine.execStagePlan s
  | .testEngine => Sys2Proof.Machine.execTestEngine s
  | .testBank => Sys2Proof.Machine.execTestBank s
  | .engineTestDone pass => Sys2Proof.Machine.execEngineTestDone pass s
  | .chmLogRead => Sys2Proof.Machine.execChmLogRead s
  | .setStorm => Sys2Proof.Machine.execSetStorm s
  | .dozeOn => Sys2Proof.Machine.execDozeOn s
  | .dozeOff => Sys2Proof.Machine.execDozeOff s
  | .chmClose => Sys2Proof.Machine.execChmClose s
  | .chmSettingsConfirm => Sys2Proof.Machine.execChmSettingsConfirm s
  | .chmUnknownOp => Sys2Proof.Machine.execChmUnknownOp s
  | .auxPowerUp => Sys2Proof.Machine.execAuxPowerUp s
  | .firmwareRunning => Sys2Proof.Machine.execFirmwareRunning s
  | .mainRailsInWindow => Sys2Proof.Machine.execMainRailsInWindow s
  | .openingStart => Sys2Proof.Machine.execOpeningStart s
  | .openingCheckDone failing => Sys2Proof.Machine.execOpeningCheckDone failing s
  | .granuleZeroFillDone g => Sys2Proof.Machine.execGranuleZeroFillDone g s
  | .openingComplete => Sys2Proof.Machine.execOpeningComplete s
  | .warmOpeningComplete => Sys2Proof.Machine.execWarmOpeningComplete s
  | .dozeEntryComplete => Sys2Proof.Machine.execDozeEntryComplete s
  | .dozeWake cause => Sys2Proof.Machine.execDozeWake cause s
  | .mainPowerRemoval => Sys2Proof.Machine.execMainPowerRemoval s
  | .closingHeadTimeout => Sys2Proof.Machine.execClosingHeadTimeout s
  | .closingTestDone res => Sys2Proof.Machine.execClosingTestDone res s
  | .closingComplete => Sys2Proof.Machine.execClosingComplete s
  | .usbAttach => Sys2Proof.Machine.execUsbAttach s
  | .usbDetach => Sys2Proof.Machine.execUsbDetach s
  | .usbBusReset => Sys2Proof.Machine.execUsbBusReset s
  | .sessionGapTimeout => Sys2Proof.Machine.execSessionGapTimeout s
  | .tapinFrameInvalid transfer => Sys2Proof.Machine.execTapinFrameInvalid transfer s
  | .open_ f => Sys2Proof.Machine.execOpen f s
  | .shut f => Sys2Proof.Machine.execShut f s
  | .ping f => Sys2Proof.Machine.execPing f s
  | .info f => Sys2Proof.Machine.execInfo f s
  | .sensors f => Sys2Proof.Machine.execSensors f s
  | .history f => Sys2Proof.Machine.execHistory f s
  | .logRead f first count => Sys2Proof.Machine.execLogRead f first count s
  | .ack f seq => Sys2Proof.Machine.execAck f seq s
  | .journalRead f h first count => Sys2Proof.Machine.execJournalRead f h first count s
  | .patchBegin f payload => Sys2Proof.Machine.execPatchBegin f payload s
  | .patchData f payload => Sys2Proof.Machine.execPatchData f payload s
  | .patchEnd f payload => Sys2Proof.Machine.execPatchEnd f payload s
  | .patchAbort f => Sys2Proof.Machine.execPatchAbort f s
  | .planStage f payload => Sys2Proof.Machine.execPlanStage f payload s
  | .cardBegin f payload => Sys2Proof.Machine.execCardBegin f payload s
  | .cardData f payload => Sys2Proof.Machine.execCardData f payload s
  | .hold f => Sys2Proof.Machine.execHold f s
  | .release f => Sys2Proof.Machine.execRelease f s
  | .close f => Sys2Proof.Machine.execClose f s
  | .reboot f payload => Sys2Proof.Machine.execReboot f payload s
  | .test f payload => Sys2Proof.Machine.execTest f payload s
  | .settingsConfirm f => Sys2Proof.Machine.execSettingsConfirm f s
  | .readClear at_ size => Sys2Proof.Machine.execReadClear at_ size s
  | .functionReportsReady b f => Sys2Proof.Machine.execFunctionReportsReady b f s
  | .ringFetchTimeout g => Sys2Proof.Machine.execRingFetchTimeout g s
  | .auxPowerLoss => Sys2Proof.Machine.execAuxPowerLoss s

end Sys2Proof.Machine
end

