-- ==== Sys2Proof/Safety.lean ====
section
/-!
DEFINITION. What a sound state and a completed command are, in the terms the statements use: the canonical form of the stores,
an access that a register's holder serves, and an instruction that its core carries out.
-/
namespace Sys2Proof.Machine

/-! ### The stores -/

/-- Memory is in its canonical form: addresses strictly rising, and no byte listed that reads as an unlisted one does. -/
def Memory.wf (m : List Host.Cell) : Bool := Sparse.wf (fun _ => (0 : Byte)) m

/-- House flash, and the Counting-House's SRAM, is in its canonical form: a byte that is not listed reads 0xFF. -/
def Flash.wf (m : List Host.Cell) : Bool := Sparse.wf (fun _ => (0xFF : Byte)) m

/-- Every store of the module is in its canonical form: memory, house flash, the Counting-House's SRAM, the registers. -/
structure State.Canonical (s : State) : Prop where
  mem   : Memory.wf s.mem = true
  flash : Flash.wf s.flash = true
  sram  : Flash.wf s.sram = true
  regs  : Sparse.wf regReset s.regs = true

/-- A command completes: it answers a next state. -/
def Completes (o : Host.Outcome State Fault Refusal) : Prop := ∃ t, o = .next t

/-! ### Register accesses -/

/-- The state once a requester's access has arrived: a host's access first acts on its link and on a dozing module (R66,
R533). -/
def State.arrived (s : State) (r : Requester) : State :=
  match r with
  | .host b => s.hostArrive b.val
  | _ => s

/-- A 4-byte access of a requester to the register at a device address reaches it: a host whose function serves requests,
where the unit is held and has reported ready (R29, R61, R530), or a running core whose map holds the register (R96). -/
def Served (s : State) (r : Requester) (a : Nat) : Prop :=
  match r with
  | .host b => (s.arrived r).hostGate b.val = .serve ∧ (s.arrived r).notReady b.val a = false
      ∧ (s.arrived r).devAt b.val a = .held
  | .core c => s.halted (coreNum c) = false ∧ s.reach c a 4 = .dev a
  | _ => False

/-- The same for a read, which a core makes behind its own writes that wait at the fabric port of the register's head (R131). -/
def ServedRead (s : State) (r : Requester) (a : Nat) : Prop :=
  Served s r a ∧ match r with
    | .core c => s.behindOwn c a = none
    | _ => True

/-- The requester after its write from the state `u`: a line core waits where the write waits at its head's beam port (R176). -/
def State.issued (s : State) (r : Requester) (u : State) : State :=
  match r with
  | .core c => s.storeStall c (u.pc (coreNum c)) u
  | _ => s

/-- What a read of a 4-byte register answers its requester: a host gets a completion (R49). -/
def State.answered (s : State) (r : Requester) (v : Nat) : State :=
  match r with
  | .host b => s.emit (.readReply b.val v 4 false)
  | _ => s

/-- A command frame that the service port takes up (R548 to R550): the island has power and USB is attached, no command is in
progress, the frame carries the open session, and the mode is one that the command's table row allows. -/
structure PortServes (s : State) (f : Frame) (modes : PortModes) : Prop where
  power   : s.mode ≠ .noPower
  usb     : s.port.attached = true
  mode    : modes.has s.mode = true
  idle    : s.portWake.portBusy = false
  session : s.portWake.port.session = some f.session.toNat

/-! ### Pyriva instructions -/

/-- The address after an instruction of those parcels (R124). -/
def State.nextPc (s : State) (g : Guard) (parcels : List Bool) : Nat :=
  (s.pc (coreNum g.core) + 2 * parcels.length) % 2 ^ 40

/-- The core of an instruction begins it, its parcels are fetched and defined, its guard is true, and its operands are
addressed without a fault: they lie at `locs`, and `u` is the state with the addressing modes' side effects (R103, R108,
R114). -/
structure Begins (s : State) (g : Guard) (parcels : List Bool) (slots : List Slot) (locs : List Loc) (u : State) : Prop where
  runs    : s.canRun g.core = true
  fetched : (s.begin_ (coreNum g.core)).fetchAll g.core (s.pc (coreNum g.core)) parcels 0 = none
  guarded : (s.begin_ (coreNum g.core)).guardTrue g = true
  placed  : (s.begin_ (coreNum g.core)).operands g.core (s.pc (coreNum g.core)) slots = .ok (locs, u)

/-- The flags and writes of an instruction that has been read up to `v` leave `w`, in which a line core waits where a write of it
waits at its beam port (R176); a jump that a write of PC made is to an even address (R125, R130). -/
structure Accepts (v : State) (g : Guard) (slots : List Slot) (locs : List Loc) (flags : Option Flags)
    (writes : List (Option Nat)) (w : State) : Prop where
  written : ((v.putFlags (coreNum g.core) flags).writeAll g.core slots locs writes).portStall (coreNum g.core) v = w
  even    : ∀ j, (w.core (coreNum g.core)).jump = some j → j % 2 = 0

/-- What a computing instruction writes, in operand order, the flags it sets, and its base cost. -/
structure Result where
  writes : List (Option Nat)
  flags  : Option Flags
  base   : Nat

/-- The parcels of an instruction of VAR kind S. -/
def partsS (g : Guard) (slots : List Slot) : List Bool := parcelsOf g.core (varBadS g.var) slots

/-- An instruction computes: wherever it begins, its operands are read, the result follows from their values and the flags
in force, the flags are set, the destinations are written, and the core goes on at the next instruction (R130). `order` is
the order its operands are addressed in. -/
def Computes (i : Instr) (g : Guard) (parcels : List Bool) (order : List Slot) (f : (Nat → Nat) → Flags → Result) : Prop :=
  ∀ (s : State) (locs : List Loc) (u : State) (vals : List Nat) (v w : State),
    Begins s g parcels order locs u →
    u.readAll g.core order locs = (vals, v) →
    let c := coreNum g.core
    let r := f (fun k => vals.getD k 0) (flagsRead (v.rdN (kWin c 0x20)))
    Accepts v g order locs r.flags r.writes w →
    exec i s = .next ((w.spendAll c (r.base + (writesPc locs r.writes).toNat) order locs).retire c (s.nextPc g parcels))

/-- An instruction acts: wherever it begins, its operands are read, its clocks are spent, and `f` gives the rest from the
values, the state and the next address. -/
def Acts (i : Instr) (g : Guard) (parcels : List Bool) (order : List Slot) (base : Nat)
    (f : (Nat → Nat) → State → Nat → State) : Prop :=
  ∀ (s : State) (locs : List Loc) (u : State) (vals : List Nat) (v : State),
    Begins s g parcels order locs u →
    u.readAll g.core order locs = (vals, v) →
    exec i s = .next (f (fun k => vals.getD k 0) (v.spendAll (coreNum g.core) base order locs) (s.nextPc g parcels))

/-- One iteration of a repeated string instruction at `pc` from `s` completes and leaves `w`, CNT not being its destination
(R157, R158). -/
def Iterates (s : State) (c : CoreId) (pc : Nat) (q : RepRec) (w : State) : Prop :=
  ∃ locs t, (s.setCore (coreNum c) { s.core (coreNum c) with cntHit := false }).operands c pc
      (stringOrder q.op (sizeOfVar q.var.toNat)) = .ok (locs, t)
    ∧ t.operate c pc q.next (stringOrder q.op (sizeOfVar q.var.toNat)) locs (stringApply q.op (sizeOfVar q.var.toNat)) = .ok w
    ∧ (w.core (coreNum c)).cntHit = false

/-- A trap has been entered (R111): what it saves, what becomes of ICTL, and where the core goes on; the flags and every
other register of the core's window stay, and so does memory. -/
structure Trapped (s t : State) (c cause tpc addr : Nat) : Prop where
  tpc     : t.rd64 (kWin c 0x88) = tpc % 2 ^ 40
  tflags  : t.rd (kWin c 0x90) = s.rd (kWin c 0x20)
  tcause  : t.rdN (kWin c 0x94) = cause
  taddr   : t.rd64 (kWin c 0x98) = addr % 2 ^ 40
  pie     : t.bit (kWin c 0xA0) 1 = s.bit (kWin c 0xA0) 0
  ie      : t.bit (kWin c 0xA0) 0 = false
  trapped : t.bit (kWin c 0xA0) 2 = true
  pc      : t.pc c = (s.rd64 (kWin c 0x80) + 0x20 * cause) % 2 ^ 40 / 2 * 2
  rest    : ∀ off, 8 ≤ off → off < 0x88 → t.rd (kWin c off) = s.rd (kWin c off)
  mem     : t.mem = s.mem

end Sys2Proof.Machine
end

