-- ==== Sys2Proof/Certificates/Slice0/Obligations.lean ====
section
/-!
DEFINITION. The statements for the provers, chapter by chapter of the specification. A docstring names the rules a statement is
read from; where it rests on a choice of the model it says so and names the log entry.
-/
open Sys2Proof Sys2Proof.Machine

/-! ### The queue -/

/-- A step carries out the command at the front of the queue, with the queue's rest; with no command waiting the module idles (the
model's choice: log 1; the table has no row for a tick). -/
def Obligations.StepTakesFront : Prop :=
  (∀ (c : Instr) (s : State) (rest : List Instr), step { s with pending := c :: rest } = exec c { s with pending := rest })
  ∧ ∀ s : State, s.pending = [] → step s = .next s

/-- A command leaves the queue as it was: a step takes its own command and no other (log 1). -/
def Obligations.CommandsLeaveTheQueue : Prop :=
  ∀ (c : Instr) (s t : State), exec c s = .next t → t.pending = s.pending

/-- Every step keeps memory, house flash, the Counting-House's SRAM and the registers in their canonical form, so that equal
contents are equal data. -/
def Obligations.StepsKeepTheStoresCanonical : Prop :=
  ∀ s t : State, s.Canonical → step s = .next t → t.Canonical

/-- The time base moves only at its own ticks and steps, and with the auxiliary rail: no other command, no register write and no
reset changes TB (R31, R431). -/
def Obligations.OnlyTicksMoveTheTimeBase : Prop :=
  ∀ (c : Instr) (s t : State), c ∉ [Instr.tbTick, .tbStep, .auxPowerUp, .auxPowerLoss] → exec c s = .next t → t.tb = s.tb

/-- The state after reset (R59, R120, R431, R520): no command waits, the mode is Standby, TB is 0, every register reads its reset
value, a scene core and a line core are halted, memory reads 0 and house flash reads erased; the stores are canonical. That the
unwritten memory reads 0 is the model's choice (logs 5, 6). -/
def Obligations.ResetStateIsAsSpecified : Prop :=
  State.reset.pending = [] ∧ State.reset.mode = .standby ∧ State.reset.tb = 0 ∧ (∀ k, State.reset.rd k = regReset k)
  ∧ (∀ c, c < 40 → State.reset.halted c = true) ∧ (∀ a, State.reset.byte a = 0)
  ∧ (∀ a n, State.reset.houseBytes true a n = List.replicate n 0xFF) ∧ State.reset.Canonical

/-- Every command completes: each of the 303 rows answers a next state, whatever its operands and the state. BAR0_ACCESS_BAD, an
access of bench b's host to BAR0, is among them: at a width or an alignment that BAR0 does not take, where R71 calls the result
unpredictable, a write has no effect and a read is answered with a free value (the model's choices: log 10); at a width and an
alignment that BAR0 takes it is an ordinary access. -/
def Obligations.EveryCommandCompletes : Prop :=
  (∀ (c : Instr) (s : State), ∃ t, exec c s = .next t)
  ∧ ∀ (s : State) (b : BenchId) (off : Addr) (size : Nat) (write : Bool) (v : Double),
    let a := s.arrived (.host b)
    (¬((size = 4 ∨ size = 8) ∧ off.toNat % size = 0) → (a.hostGate b.val = .serve ∨ a.hostGate b.val = .limp) →
      exec (.bar0AccessBad b off size true v) s = .next a
      ∧ exec (.bar0AccessBad b off size false v) s = .next (a.fresh.2.emit (.readReply b.val a.fresh.1 size false)))
    ∧ ((size = 4 ∨ size = 8) ∧ off.toNat % size = 0 →
      exec (.bar0AccessBad b off size true v) s = exec (.registerWrite (.host b .bar0 off) size v) s
      ∧ exec (.bar0AccessBad b off size false v) s = exec (.readClear (.host b .bar0 off) size) s
      ∧ ∃ t, exec (.bar0AccessBad b off size write v) s = .next t)

/-- A register reads what was last written to it, and a store to memory reads back byte for byte; each leaves every other register
or byte alone, whoever stores and whatever journal records it (R107, R325). -/
def Obligations.StoresReadBack : Prop :=
  (∀ (s : State) (k j : Nat) (v : Word), (s.wr k v).rd j = if j = k then v else s.rd j)
  ∧ ∀ (s : State) (a x : Nat) (bs : List Byte), a < 2 ^ 40 → x < 2 ^ 40 → bs.length ≤ 2 ^ 40 →
    (s.memStore a bs).byte x
      = if (x + 2 ^ 40 - a) % 2 ^ 40 < bs.length then bs.getD ((x + 2 ^ 40 - a) % 2 ^ 40) 0 else s.byte x

/-- What a write under byte enables leaves of a register word (R18, R19): an enabled RW bit takes the written value, an enabled W1C
bit clears where a 1 is written, and every other bit stays. -/
def Obligations.WritesFollowTheAccessCodes : Prop :=
  ∀ (old v : Word) (be rw w1c k : Nat), k < 32 → rw &&& w1c = 0 →
    let on := be.testBit (k / 8)
    (storeWord old v be rw w1c).getLsbD k
      = if on && rw.testBit k then v.getLsbD k else if on && w1c.testBit k && v.getLsbD k then false else old.getLsbD k

/-! ### Register accesses, BARs and doorbells -/

/-- REGISTER_WRITE and READ_CLEAR at a device address that the requester reaches (R18, R29): the register's effects of the write
happen, or its read is answered and its RC fields clear; an address through a BAR0 window acts as the register it reaches
(R48). A poisoned write is discarded and logged (R51). -/
def Obligations.ServedRegisterAccesses : Prop :=
  ∀ (s t : State) (r : Requester) (b : BenchId) (a off : Addr) (v : Double) (w : Word),
    (Served s r a.toNat → 0x3000000000 ≤ a.toNat → a.toNat % 4 = 0 →
      exec (.registerWrite (.device r a) 4 v) s
        = .next (((s.arrived r).devWrite r a.toNat (BitVec.ofNat 32 v.toNat) 15).issued r (s.arrived r)))
    ∧ (ServedRead s r a.toNat → 0x3000000000 ≤ a.toNat → a.toNat % 4 = 0 → (s.arrived r).devRead r a.toNat = (w, t) →
      exec (.readClear (.device r a) 4) s = .next (t.answered r w.toNat))
    ∧ ((s.arrived (.host b)).hostGate b.val = .serve → 0x10000 ≤ off.toNat → off.toNat % 4 = 0 →
      bar0At b.val off.toNat = some a.toNat →
      exec (.registerWrite (.host b .bar0 off) 4 v) s = exec (.registerWrite (.device (.host b) a) 4 v) s
        ∧ exec (.readClear (.host b .bar0 off) 4) s = exec (.readClear (.device (.host b) a) 4) s)
    ∧ ((s.arrived (.host b)).hostGate b.val = .serve →
      let q := (s.arrived (.host b)).fn b.val
      exec (.registerWrite (.hostPoisoned b .bar0 a) 4 v) s
        = .next ((s.arrived (.host b)).setFn b.val { q with poisoned := q.poisoned + 1 }))

/-- BAR2_READ and BAR2_WRITE (R29, R50, R51): offset o reaches GRAN_FIRST × 1 GiB + o within the bench's granules; a read brings the
bytes, poisoned where a word of them is uncorrectable, and a word with one bit in error is returned corrected and counted (R411: the
error that a read finds comes with its row, log 55); a write stores them; beyond the granules a read brings zeros, a write is
discarded, and DECODE_HOLE counts. A poisoned write is discarded and logged. A request past BAR2's size is none of the function's
(the model's choice: log 7). -/
def Obligations.Bar2ReachesTheGranules : Prop :=
  ∀ (s : State) (b : BenchId) (off : Addr) (n : Nat) (found : Option (Addr × EccFound)) (bs : List Byte),
    let t := s.arrived (.host b)
    let r := (s.upset found).arrived (.host b)
    let first := s.plan.granFirst b.val * 0x40000000 + off.toNat
    let inside (n : Nat) : Prop := off.toNat + (n - 1) < (s.plan.bench b.val).granules * 0x40000000
      ∧ s.assetHeld b.val first = true ∧ s.assetHeld b.val (first + (n - 1)) = true
    let fits (n : Nat) : Prop := off.toNat + n ≤ s.plan.bar2Size b.val
    (r.hostGate b.val = .serve → r.notReady b.val 0 = false → fits n →
      (inside n → exec (.bar2Read b off ⟨n, found⟩) s
        = .next ((r.meets first n).emit (.readBytes b.val (r.bytes first n) (r.marked first n))))
      ∧ (¬inside n → exec (.bar2Read b off ⟨n, found⟩) s
        = .next ((r.hole b.val).emit (.readBytes b.val (List.replicate n 0) false))))
    ∧ (r.hostGate b.val = .serve → ¬fits n → exec (.bar2Read b off ⟨n, found⟩) s = .next (r.emit (.unsupported b.val)))
    ∧ (t.hostGate b.val = .serve → t.notReady b.val 0 = false →
    (fits bs.length → inside bs.length → exec (.bar2Write b off bs false) s = .next (t.memStore first bs))
    ∧ (fits bs.length → ¬inside bs.length → exec (.bar2Write b off bs false) s = .next (t.hole b.val))
    ∧ (fits bs.length → exec (.bar2Write b off bs true) s
      = .next (t.setFn b.val { t.fn b.val with poisoned := (t.fn b.val).poisoned + 1 }))
    ∧ (¬fits bs.length → ∀ poisoned, exec (.bar2Write b off bs poisoned) s = .next (t.emit (.unsupported b.val))))

/-- DOORBELL_WRITE and BAR4_BAD_ACCESS (R52, R75, R76, R82): doorbell d sets the index that the port of ring d gives, PROD for a
submission ring and CONS for a module-written one, cut to the bits up to bit SIZE of RINGg_CTL; a doorbell of a ring the bench
does not hold counts in DECODE_HOLE; an access of another width or alignment is discarded and not counted, and a read brings 0. -/
def Obligations.DoorbellsSetTheRingIndex : Prop :=
  ∀ (s : State) (b : BenchId) (off : Addr) (size : Nat) (v : Double),
    let t := s.arrived (.host b)
    t.hostGate b.val = .serve →
    (∀ d, t.notReady b.val 0x3000000000 = false → (size = 4 ∨ size = 8) → off.toNat = 8 * d → d < 4096 →
      (∀ g, t.ringOf b.val d = some g →
        let ptr := v.toNat % 2 ^ 17 % t.ringSpan g
        (t.ringPort g < 3 → exec (.doorbellWrite b off size v) s = .next (t.wrN (kRing g 0xC) ptr))
        ∧ (t.ringPort g = 3 ∨ t.ringPort g = 4 → exec (.doorbellWrite b off size v) s = .next (t.wrN (kRing g 0x10) ptr))
        ∧ (5 ≤ t.ringPort g → exec (.doorbellWrite b off size v) s = .next t))
      ∧ (t.ringOf b.val d = none → exec (.doorbellWrite b off size v) s = .next (t.hole b.val)))
    ∧ (¬((size = 4 ∨ size = 8) ∧ off.toNat % size = 0) →
      exec (.bar4BadAccess b off size true v) s = .next t
      ∧ exec (.bar4BadAccess b off size false v) s = .next (t.emit (.readReply b.val 0 size false)))

/-! ### Links, resets and PTM -/

/-- FUNCTION_LEVEL_RESET, D3HOT_TO_D0 and D3HOT_ENTRY (R60, R61, R62, R67): a reset of a bench's scope runs from a reachable
function; the function is disabled and its enables read 0, the bench control registers are at reset, and with SCRUB the fills of
all the bench's granules, scratchpad pages and core workspaces wait, without it no more than waited before. A change from D3hot to
D0 is the same reset. Either, and D3hot itself, disables what the bench holds: its cores and line cores halt, its Carter channels
and rings do not run, a block engine it holds has ended or ends with its piece in flight, and a head has stopped or stops with its
line. FLR_COMPLETE, SCRUB_FILL_DONE and FUNCTION_REPORTS_READY (R54, R62, R526, R527): a reset that completes lets the function
answer again; a fill leaves its granule or page reading 0 with valid check bits, and nothing else of memory changes, and a fill that
Opening has yet to take in its turn is not taken here; a ready report sets the function's ready bit, and CHANGED where the bit was 0,
once no fill of it is left, in the order of Opening's steps; a function that the bench does not hold or that is marked failed never
becomes ready. -/
def Obligations.BenchResets : Prop :=
  (∀ (s : State) (b : BenchId), s.configOpen b.val = true →
    let off_ (t : State) : Prop :=
      (∀ c, c < 32 → s.plan.coreBench c = some b.val → t.halted c = true)
      ∧ (∀ h, h < 8 → s.plan.headBench h = some b.val →
        t.halted (32 + h) = true ∧ (t.head h).run ≠ 1 ∧ ((t.head h).run = 2 → (t.head h).stopAsk = 2))
      ∧ (∀ c, c < 64 → s.plan.carterBench c = some b.val → t.carState c = 0 ∨ 5 ≤ t.carState c)
      ∧ (∀ g, g < 4096 → s.plan.ringBench g = some b.val → t.ringOn g = false)
      ∧ ∀ e, e < 2 → (t.blk e).owner = some b.val → t.blkBusy e = false ∨ (t.blk e).ending ≠ 0
    (∃ t, exec (.functionLevelReset b) s = .next t ∧ ((s.fn b.val).d3 = true → exec (.d3hotToD0 b) s = .next t)
      ∧ (t.fn b.val).resetting = true ∧ (t.fn b.val).busMaster = false
      ∧ (t.fn b.val).memSpace = false ∧ (t.fn b.val).msixOn = false ∧ (t.fn b.val).ptmOn = false ∧ (t.fn b.val).d3 = false
      ∧ (∀ off, off < 0x10000 → t.rd (kBench b.val off) = regReset (kBench b.val off)) ∧ off_ t
      ∧ ∀ u, u ∈ (t.fn b.val).fills ↔ u ∈ (s.fn b.val).fills ∨ ((s.plan.bench b.val).scrub = true ∧ match u with
        | .granule g => s.plan.granBench g.val = some b.val
        | .scratch p => nbit (s.plan.bench b.val).scratchPages p.val = true
        | .workspace c => nbit (s.plan.bench b.val).sceneCores c.val = true))
    ∧ ((s.fn b.val).d3 = false → ∃ t, exec (.d3hotEntry b) s = .next t ∧ (t.fn b.val).d3 = true ∧ off_ t))
  ∧ ∀ (s : State) (b : BenchId),
      ((s.plan.bench b.val).present = true → (s.fn b.val).resetting = true → (s.link (s.plan.bench b.val).link).up = true →
        ∃ t, exec (.flrComplete b) s = .next t ∧ (t.fn b.val).resetting = false)
      ∧ (∀ u : FillUnit, s.openingFill u = true → exec (.scrubFillDone b u) s = .next s)
      ∧ (∀ u : FillUnit, u ∈ (s.fn b.val).fills → s.openingFill u = false →
        let lo := match u with
          | .granule g => g.val * 0x40000000
          | .scratch p => 0x2000200000 + p.val * 0x10000
          | .workspace c => 0x2000000000 + c.val * 0x10000
        let len := match u with
          | .granule _ => 0x40000000
          | _ => 0x10000
        ∃ t, exec (.scrubFillDone b u) s = .next t ∧ u ∉ (t.fn b.val).fills
          ∧ (∀ a, lo ≤ a → a < lo + len → t.byte a = 0 ∧ a ∉ t.marks)
          ∧ ∀ a, a < lo ∨ lo + len ≤ a → t.byte a = s.byte a)
      ∧ ∀ f : ReadyFn,
        ((s.plan.bench b.val).present = true → s.mode.mainOn = true → s.checking = false → (s.fn b.val).resetting = false →
          (s.link (s.plan.bench b.val).link).up = true → fnHeld (s.plan.bench b.val) f = true → s.fnWhole b.val f = true →
          s.fnFilled b.val f = true → (b.val ∈ s.ordered → s.stepsDone b.val (fnStep f) = true) →
          let k := kBench b.val (0x10 + 4 * (fnPlace f).1)
          ∃ t, exec (.functionReportsReady b f) s = .next t ∧ t.bit k (fnPlace f).2 = true
            ∧ (s.bit k (fnPlace f).2 = false → t.bit (kBench b.val 0x14) 30 = true) ∧ t.mem = s.mem)
        ∧ ((fnHeld (s.plan.bench b.val) f = false ∨ s.fnWhole b.val f = false) →
          exec (.functionReportsReady b f) s = .next s)

/-- HOT_RESET, LINK_UP, LINK_TRAIN_TIMEOUT, REFCLK_LOSS, PCIE_ERROR_TLP and ASPM_L1_ENTRY (R44, R60, R66, R68): a link that goes
down resets every bench on it and adds an L0 note, after which a module whose benches now all consent begins Doze entry (R531); a
link that reaches L0, as wide as the plan and the lanes in use let it, ends the resets of its benches, and one with no lane left
does not reach it (R511); the note of a link that does not train, or trains narrower or slower than the plan; the errors that
every function of a link logs; and the entry into L1, with which its benches consent to Doze (R531). -/
def Obligations.LinkEvents : Prop :=
  ∀ (s : State) (l : LinkId) (width : Fin 5) (rate : Fin 6) (k : TlpError),
    let note (t : State) (syn : Nat) : State := t.report 0x01 (0x0A00 + l.val) 7 syn
    ((s.link l.val).up = true → exec (.hotReset l) s
      = .next (note ((s.linkBenches l.val).foldl State.resetByLink (s.setLink l.val Link.reset)) 0).dozeBegin)
    ∧ (s.linksTrain = true → s.linkExists l.val = true → (s.link l.val).up = false → width.val ≠ 0 →
      (s.trainedWidth l.val width.val = none → exec (.linkUp l width rate) s = .next s)
      ∧ ∀ w, s.trainedWidth l.val width.val = some w →
        let t := (s.linkBenches l.val).foldl State.resetEnd
          (s.setLink l.val { Link.reset with up := true, width := w, rate := rate.val })
        w ≤ width.val ∧ w ≤ linkWidth s.plan.linkCfg l.val ∧ exec (.linkUp l width rate) s
          = .next (if w < linkWidth t.plan.linkCfg l.val ∨ rate.val < 5 then note t (w * 256 + rate.val) else t))
    ∧ (s.linksTrain = true → s.linkExists l.val = true → (s.link l.val).up = false →
      exec (.linkTrainTimeout l) s = .next (note s 0))
    ∧ exec .refclkLoss s = .next ([0, 1, 2, 3].foldl State.hotReset s).dozeBegin
    ∧ ((s.link l.val).up = true → ∃ t, exec (.pcieErrorTlp l k) s = .next t
      ∧ (∀ b ∈ s.linkBenches l.val, (k ≠ .ecrc ∨ (s.fn b).ecrcChk = true) → k ∈ (t.fn b).aer)
      ∧ (∀ b, b ∉ s.linkBenches l.val → t.fn b = s.fn b) ∧ t.regs = s.regs ∧ t.mem = s.mem)
    ∧ ((s.link l.val).up = true → s.linkBenches l.val ≠ [] → (∀ b ∈ s.linkBenches l.val, (s.fn b).l1On = true) →
      (∀ h, h < 8 → ∀ b, s.plan.headBench h = some b → b ∈ s.linkBenches l.val → (s.head h).run = 0) →
      let depth := if ∀ b ∈ s.linkBenches l.val, (s.fn b).l12On = true then 2
        else if ∀ b ∈ s.linkBenches l.val, (s.fn b).l11On = true then 1 else 0
      exec (.aspmL1Entry l) s = .next (s.setLink l.val { s.link l.val with l1 := true, sub := depth }).dozeBegin)

/-- PTM_REQ, PTM_PERIOD_TIMER, PTM_MEASUREMENT_END and PTM_TIMEOUT (R64, R65): REQ starts a measurement unless one runs, as does
the period; while PTM is disabled or TB is in low-frequency mode it fails at once; at its end the four results change together,
PTM_TB_AT_MASTER being PTM_TB_REQ + round(PTM_PROP × 96 / 1,000), and SEQ increments; without a response it fails and the
results stay. MSIX_VECTOR_UNMASK, SMBUS_READ_WORD and SMBUS_TIMEOUT (R63, R68, R70): unmasking a vector, clearing Function Mask
or setting Bus Master Enable sends what the PBA holds pending; a Read Word of command 0x00 to 0x3F returns that sensor word, and
any other transfer is not acknowledged; a clock held low resets the interface, of which nothing is left between commands (log
26). -/
def Obligations.PtmAndMessages : Prop :=
  (∀ (s : State) (b : BenchId) (tbReq master : Double) (prop : Word),
    let k := kBench b.val 0x40
    let starts (s t : State) : Prop := t.bit k 0 = true ∧ t.fld k 15 1 = s.fld k 15 1 ∧ ∀ j, j ≠ k → t.rd j = s.rd j
    let fails (s t : State) : Prop := t.bit k 0 = false ∧ t.bit k 1 = true ∧ ∀ j, j ≠ k → t.rd j = s.rd j
    let a := s.arrived (.host b)
    (a.hostGate b.val = .serve → a.bit k 0 = false → (a.fn b.val).ptmOn = true → a.tbLf = false → a.rd k = s.rd k →
      ∃ t, exec (.ptmReq b) s = .next t ∧ starts a t)
    ∧ (a.hostGate b.val = .serve → a.bit k 0 = false → ((a.fn b.val).ptmOn = false ∨ a.tbLf = true) →
      ∃ t, exec (.ptmReq b) s = .next t ∧ fails a t)
    ∧ (s.fld k 31 16 ≠ 0 → s.bit k 0 = false → (s.fn b.val).ptmOn = true → s.tbLf = false →
      ∃ t, exec (.ptmPeriodTimer b) s = .next t ∧ starts s t)
    ∧ (s.bit k 0 = true → (s.fn b.val).ptmOn = true → s.tbLf = false →
      ∃ t, exec (.ptmMeasurementEnd b tbReq master prop) s = .next t
        ∧ t.rd64 (kBench b.val 0x48) = tbReq.toNat ∧ t.rd64 (kBench b.val 0x50) = master.toNat
        ∧ t.rdN (kBench b.val 0x58) = prop.toNat
        ∧ t.rd64 (kBench b.val 0x60) = (tbReq.toNat + (prop.toNat * 96 + 500) / 1000) % 2 ^ 64
        ∧ t.bit k 0 = false ∧ t.bit k 2 = true ∧ t.fld k 15 8 = (s.fld k 15 8 + 1) % 256)
    ∧ (s.bit k 0 = true → ∃ t, exec (.ptmTimeout b) s = .next t ∧ fails s t))
  ∧ ∀ (s : State) (b : BenchId) (v : Fin 256) (on : Bool) (call : SmbusCall) (cmd : Byte),
      (s.configOpen b.val = true → s.hostOpen b.val = true →
        exec (.msixVectorUnmask b (.vector v)) s = .next ((s.setB (kBench b.val (0x800C + 16 * v.val)) 0 false).msixFlush b.val))
      ∧ (s.configOpen b.val = true →
        exec (.msixVectorUnmask b (.functionMask on)) s
            = .next ((s.setFn b.val { s.fn b.val with fnMask := on }).msixFlush b.val)
          ∧ exec (.msixVectorUnmask b (.busMaster true)) s
            = .next ((s.setFn b.val { s.fn b.val with busMaster := true }).msixFlush b.val)
          ∧ exec (.msixVectorUnmask b (.busMaster false)) s
            = .next (((s.carsIssue b.val).setFn b.val { s.fn b.val with busMaster := false }).msixFlush b.val))
      ∧ (s.mode ≠ .noPower → call.addr.toNat = s.plan.smbusAddr → call.write = false → cmd.toNat < 0x40 →
        exec (.smbusReadWord call cmd) s = .next (s.emit (.smbus (some (s.sensorWord cmd.toNat)))))
      ∧ (s.mode ≠ .noPower → call.addr.toNat = s.plan.smbusAddr → (call.write = true ∨ 0x40 ≤ cmd.toNat) →
        exec (.smbusReadWord call cmd) s = .next (s.emit (.smbus none)))
      ∧ (call.addr.toNat ≠ s.plan.smbusAddr → exec (.smbusReadWord call cmd) s = .next s)
      ∧ exec .smbusTimeout s = .next s

/-! ### Rings, mailboxes and the STOP page -/

/-- RING_ENABLE, RING_DISABLE and RING_ERR_CLEAR (R81, R85, R88): a disabled and drained ring takes LOC, SIZE, PORT and TARGET
with EN; CTL and BASE take effect as EN becomes 1, and its indices stay, cut to SIZE; a port that serves nothing stops it with
code PORT; EN 0 leaves what is fetched; ERR clears, and the indices stand. -/
def Obligations.RingControl : Prop :=
  ∀ (s : State) (r : Requester) (g : RingId) (ctl : Word),
    let k := kRing g.val 8
    let a := s.arrived r
    (Served s r k → a.bit k 31 = false → a.cached g.val = [] →
      ∃ t, exec (.ringEnable r g ctl) s = .next t ∧ t.rd k &&& 0xFFFFFFFC = setBit ctl 31 true &&& 0xFFFFFFFC
        ∧ t.ringNowOf g.val = (t.rd k, a.rd64 (kRing g.val 0))
        ∧ t.rdN (kRing g.val 0xC) = a.rdN (kRing g.val 0xC) % t.ringMod g.val
        ∧ t.rdN (kRing g.val 0x10) = a.rdN (kRing g.val 0x10) % t.ringMod g.val
        ∧ (t.ringPortBad g.val = true → t.bit (kRing g.val 0x18) 3 = true ∧ t.fld (kRing g.val 0x18) 2 0 = 5)
        ∧ (t.ringPortBad g.val = false → t.rd (kRing g.val 0x18) = a.rd (kRing g.val 0x18)))
    ∧ (Served s r k → a.bit k 31 = true → ∃ t, exec (.ringDisable r g ctl) s = .next t ∧ t.bit k 31 = false
        ∧ t.ringCache = a.ringCache ∧ (∀ j, j ≠ k → t.rd j = a.rd j)
        ∧ t.fld k 27 15 = a.fld k 27 15 ∧ t.bit k 30 = a.bit k 30)
    ∧ (Served s r (kRing g.val 0x18) → a.bit (kRing g.val 0x18) 3 = true → (a.bit k 31 && a.ringPortBad g.val) = false →
      ∃ t, exec (.ringErrClear r g) s = .next t ∧ t.bit (kRing g.val 0x18) 3 = false
        ∧ t.fld (kRing g.val 0x18) 2 0 = 0 ∧ ∀ j, j ≠ kRing g.val 0x18 → t.rd j = a.rd j)

/-- RING_ENTRY_FETCHED and RING_FETCH_TIMEOUT (R74, R84, R85): a fetch brings the 64 bytes at BASE + 64 × i into the ring-head cache,
last in order, and CONS advances modulo twice the entries; a word of it with one bit in error arrives corrected and is counted (R411);
uncorrectable or poisoned data stops the ring with code 2 (DATA), a
hole with code 3, a refused or overdue fetch of host memory with code 1 (FETCH), and then CONS stands. -/
def Obligations.RingFetches : Prop :=
  ∀ (s : State) (g : RingId) (b : Nat) (bs : List Byte),
    let n := g.val
    let at_ := ((s.ringNowOf n).2 / 64 * 64 + 64 * (s.ringCons n % 2 ^ s.ringLog n)) % 2 ^ 40
    let taken (t : State) (entry : List Byte) : State := (t.setCached n (t.cached n ++ [entry])).wrN (kRing n 0x10)
      ((s.ringCons n + 1) % (2 * 2 ^ s.ringLog n))
    let stops (o : Host.Outcome State Fault Refusal) (code : Nat) : Prop := ∃ t, o = .next t
      ∧ t.bit (kRing n 0x18) 3 = true ∧ t.fld (kRing n 0x18) 2 0 = code ∧ t.ringCons n = s.ringCons n
      ∧ t.ringCache = s.ringCache
    s.plan.ringBench n = some b → s.ringFetching n = true → s.ringRoom b n = true →
    (s.ringHost n = false → at_ < 0x2000000000 → s.assetHeld b at_ = true → s.marked at_ 64 = false →
      exec (.ringEntryFetched g .notHost) s = .next (taken (s.mends at_ 64) (s.bytes at_ 64)))
    ∧ (s.ringHost n = false → at_ < 0x2000000000 → s.assetHeld b at_ = true → s.marked at_ 64 = true →
      stops (exec (.ringEntryFetched g .notHost) s) 2)
    ∧ (s.ringHost n = false → (0x2000000000 ≤ at_ ∨ s.assetHeld b at_ = false) →
      stops (exec (.ringEntryFetched g .notHost) s) 3)
    ∧ (s.ringHost n = true → (s.fn b).busMaster = true →
      exec (.ringEntryFetched g (.data bs)) s = .next (taken s ((bs ++ List.replicate 64 0).take 64))
      ∧ stops (exec (.ringEntryFetched g .poisoned) s) 2 ∧ stops (exec (.ringEntryFetched g .refused) s) 1)
    ∧ (s.ringHost n = true → (s.fn b).busMaster = false → ∀ h, stops (exec (.ringEntryFetched g h) s) 1)
    ∧ (s.ringHost n = true → stops (exec (.ringFetchTimeout g) s) 1)

/-- MBOX_DELIVER and MBOX_DONE (R77, R115, R116): the queue manager writes the oldest entry of the ring it picks to MBOX, its
local number to RING, and sets FULL; a running core's write to MBOX_DONE clears FULL, and with CPL set the completion follows,
with its STATUS and the DETAIL of MBOX_REPLY; while FULL is 0 it is ignored. -/
def Obligations.MailboxDeliveryAndDone : Prop :=
  ∀ (s : State) (c : Fin 32) (b g : Nat) (e : List Byte) (rest : List (List Byte)) (status : BitVec 16),
    let n := c.val
    let stat := kWin n 0x170
    (s.halted n = false → s.bit stat 31 = false → s.mode ≠ .hold → s.mode.ringsRun = true → s.plan.coreBench n = some b →
      s.pickRing (s.ringsWith fun g => s.ringPort g == 0 && s.ringTarget g == n && s.plan.ringBench g == some b)
        (mboxTurn n) = some g → s.cached g = e :: rest →
      ∃ t, exec (.mboxDeliver c) s = .next t ∧ t.bit stat 31 = true ∧ t.fld stat 11 0 = (g - s.plan.ringFirst b) % 4096
        ∧ t.cached g = rest ∧ ∀ i, i < 16 → t.rdN (kWin n (0x100 + 4 * i)) = leNat ((e.drop (4 * i)).take 4))
    ∧ (s.halted n = false → s.bit stat 31 = false → exec (.mboxDone c status) s = .next s)
    ∧ (s.halted n = false → s.bit stat 31 = true → s.bit (kWin n 0x100) 8 = false →
      exec (.mboxDone c status) s = .next (s.setB stat 31 false))
    ∧ (s.halted n = false → s.bit stat 31 = true → s.bit (kWin n 0x100) 8 = true → s.plan.coreBench n = some b →
      exec (.mboxDone c status) s = .next ((s.setB stat 31 false).completeEntry (s.plan.ringFirst b + s.fld stat 11 0)
        ((List.range 16).flatMap fun i => leBytes 4 (s.rdN (kWin n (0x100 + 4 * i)))) status.toNat
        ((List.range 12).flatMap fun i => leBytes 4 (s.rdN (kWin n (0x140 + 4 * i))))))

/-- STOP_CARTER, STOP_CORES and STOP_UNITS (R35, R91, R92, R94): the command is counted as received, and each unit that it names
and the bench holds is stopped and latched; a unit it does not name, or another bench's, is not touched by it. What a STOP does
to one unit (R92, R94, R117, R404): a Carter channel is latched; a core halts with code STOP and is latched; a block engine is
latched where the bench holds it, but where a GIVE or a reset that waited for its operation takes place as that ends (R373, R374). -/
def Obligations.StopCommandsStopAndLatch : Prop :=
  (∀ (s : State) (b : BenchId) (mask : Double) (w : Word),
    let a := s.arrived (.host b)
    let counted := a.incWrap (kStop b.val 0x20) 23 16
    let each (mine : Nat → Bool) (op : State → Nat → State) (n m : Nat) (t : State) : State :=
      (List.range n).foldl (fun t i => if m.testBit i && mine i then op t i else t) t
    let chans (m : Nat) (t : State) : State := each (fun c => t.plan.carterBench c == some b.val) State.stopChan 64 m t
    let cores (m : Nat) (t : State) : State := each (fun c => t.plan.coreBench c == some b.val) State.stopCore 32 m t
    let heads (m : Nat) (t : State) : State := each (fun h => t.plan.headBench h == some b.val) State.stopHead 8 m t
    let blks (m : Nat) (t : State) : State := each (fun _ => true) (fun t e => t.stopBlk b.val e) 2 m t
    (a.hostGate b.val = .serve ∨ a.hostGate b.val = .limp) →
    exec (.stopCarter b .low mask) s = .next (chans (mask.toNat % 2 ^ 32) counted)
    ∧ exec (.stopCarter b .high mask) s = .next (chans (mask.toNat % 2 ^ 32 * 2 ^ 32) counted)
    ∧ exec (.stopCarter b .both mask) s = .next (chans mask.toNat counted)
    ∧ exec (.stopCores b w) s = .next (cores w.toNat counted)
    ∧ (w.getLsbD 31 = false → exec (.stopUnits b w) s = .next (blks (w.toNat / 256 % 4) (heads (w.toNat % 256) counted)))
    ∧ (w.getLsbD 31 = true → exec (.stopUnits b w) s
      = .next (blks 3 (heads 255 (cores (2 ^ 32 - 1) (chans (2 ^ 64 - 1) counted))))))
  ∧ ∀ (s : State) (b i : Nat),
      ((s.stopChan i).chan i).latched = true
      ∧ (i < 40 → (s.stopCore i).halted i = true ∧ (s.stopCore i).bit (kCore i 4) 2 = true
        ∧ (s.halted i = false → (s.stopCore i).fld (kCore i 4) 15 8 = 2))
      ∧ ((s.blk i).owner = some b → i < 2 → ((s.blk i).dead = false ∨ (s.blk i).giving = false ∧ (s.blk i).ending ≠ 6) →
        (s.stopBlk b i).bit (kBlk i 0x40) 28 = true)
      ∧ (i < 8 → ((s.stopHead i).head i).latched = true ∧ (s.stopHead i).bit (kCore (32 + i) 4) 2 = true)

/-- STOP_RELEASE, STOP_HALTED and STOP_QUIET (R91, R93, R94): the release of bit 0 unlatches every unit of the bench: its Carter
channels, scene cores, heads, line cores and the block engines that it holds; in Limp it is refused and counts in STOP_IGNORED
(R536); HALTED follows the commands received, and QUIET follows HALTED and sets QUIET_EVT. -/
def Obligations.StopReleaseAndCounts : Prop :=
  ∀ (s : State) (b : BenchId) (w : Word),
    let a := s.arrived (.host b)
    let k := kStop b.val 0x20
    ((a.hostGate b.val = .serve ∨ a.hostGate b.val = .limp) → w.getLsbD 0 = true → a.mode ≠ .limp →
      ∃ t, exec (.stopRelease b w) s = .next t
        ∧ (∀ c, c < 64 → a.plan.carterBench c = some b.val → (t.chan c).latched = false)
        ∧ (∀ c, c < 32 → a.plan.coreBench c = some b.val → t.bit (kCore c 4) 2 = false)
        ∧ (∀ h, h < 8 → a.plan.headBench h = some b.val → (t.head h).latched = false ∧ t.bit (kCore (32 + h) 4) 2 = false)
        ∧ ∀ e, e < 2 → (t.blk e).owner = some b.val → t.bit (kBlk e 0x40) 28 = false)
    ∧ (a.hostGate b.val = .limp → w.getLsbD 0 = true →
      exec (.stopRelease b w) s = .next (a.incSat (kStop b.val 0x24) 31 0))
    ∧ (a.hostGate b.val = .serve → w.getLsbD 0 = false → exec (.stopRelease b w) s = .next a)
    ∧ (s.fld k 23 16 ≠ s.fld k 15 8 → exec (.stopHalted b) s = .next (s.setF k 15 8 (s.fld k 15 8 + 1)))
    ∧ (s.fld k 15 8 ≠ s.fld k 7 0 →
      (∀ e, e < 2 → (s.blk e).owner = some b.val → s.bit (kBlk e 0x40) 28 = true → s.blkBusy e = false) →
      ∃ t, exec (.stopQuiet b) s = .next t ∧ t.fld k 7 0 = (s.fld k 7 0 + 1) % 256 ∧ t.bit k 25 = true
        ∧ ∀ j, j ≠ k → t.rd j = s.rd j)

/-! ### Core control -/

/-- CORE_RUN, CORE_STEP and CORE_HALT (R94, R117, R170): RUN and STEP start a halted core that has reported ready and is not latched, a
line core under RUN holding for its beam; on a latched core they are refused and count in STOP_IGNORED; on a running core they do
nothing; HALT asks a running core to halt and does nothing to a halted one. -/
def Obligations.CoreControlCommands : Prop :=
  ∀ (s : State) (r : Requester) (c : CoreId),
    let n := coreNum c
    let a := s.arrived r
    let hold : CoreWait := if 32 ≤ n then .hold (a.bit (kCore n 0x40) 1) else .none
    n < 40 → Served s r (kCore n 0) →
    (a.halted n = true → a.coreReady n = true → a.bit (kCore n 4) 2 = false →
      exec (.coreRun r c) s
        = .next ((a.setCore n { a.core n with wait := hold, stepArm := false, haltAsk := 0, moved := false }).setB (kCore n 4) 0 false)
      ∧ exec (.coreStep r c) s
        = .next ((a.setCore n { a.core n with wait := .none, stepArm := true, haltAsk := 0, moved := false }).setB (kCore n 4) 0 false))
    ∧ (∀ b, a.halted n = true → a.coreReady n = true → a.bit (kCore n 4) 2 = true → a.coreNumBench n = some b →
      exec (.coreRun r c) s = .next (a.incSat (kStop b 0x24) 31 0)
      ∧ exec (.coreStep r c) s = .next (a.incSat (kStop b 0x24) 31 0))
    ∧ (a.halted n = false → exec (.coreHalt r c) s = .next (a.setCore n { a.core n with haltAsk := 1 })
      ∧ exec (.coreRun r c) s = .next a ∧ exec (.coreStep r c) s = .next a)
    ∧ (a.halted n = true → exec (.coreHalt r c) s = .next a)

/-- CORE_HALT_TAKEN (R33, R116 to R118): a halt that has been asked for is taken between instructions or iterations: HALTED
reads 1 with the code asked for, the wait or repeat ends, every register of the window stays, and no interrupt source stays offered to
a scene core (R460, R463). LC_START (R170): a line core
held for its beam begins once a line boundary of its head has followed, with START_FRAME the one at which LINE takes 0; before
it goes on holding. CORE_WIN_WRITE and
LC_LOAD_DATA (R98, R116): a write through CORE_WIN changes a halted core's window under the access codes of its register, and is
ignored while the core runs; a word written to LC_LOAD_DATA goes to line memory at ADDR, and ADDR advances by 4, wrapping at 32
KiB. -/
def Obligations.HaltsLineStartsAndWindowWrites : Prop :=
  (∀ (s : State) (c : CoreId) (h : HeadId),
    let n := coreNum c
    let l := 32 + h.val
    (n < 40 → s.coreMode n = true → s.halted n = false → (s.core n).haltAsk ≠ 0 → (s.core n).haltAsk < 256 →
      (s.core n).wait.inside = false →
      ∃ t, exec (.coreHaltTaken c) s = .next t ∧ t.halted n = true ∧ t.fld (kCore n 4) 15 8 = (s.core n).haltAsk
        ∧ (n < 32 → ∀ i, (t.src i).st ≠ .offered n) ∧ (t.core n).wait = .none ∧ (t.core n).rep = none ∧ (t.core n).haltAsk = 0
        ∧ (∀ off, off < 0x10000 → t.rd (kWin n off) = s.rd (kWin n off)) ∧ t.mem = s.mem)
    ∧ ∀ frame, (s.core l).wait = .hold frame →
      (s.coreMode l = true → (s.core l).haltAsk = 0 → s.halted l = false →
        ((s.core l).moved = true → exec (.lcStart h) s = .next (s.setCore l { s.core l with wait := .none }))
        ∧ ((s.core l).moved = false → exec (.lcStart h) s = .next s))
      ∧ ((s.lineChange h.val).core l).moved = (!frame || (s.head h.val).line == 0))
  ∧ ∀ (s : State) (r : Requester) (c : CoreId) (h : HeadId) (off : Fin 512) (v : Double) (data : Word),
      let n := coreNum c
      let k := kCore n (0x800 + off.val)
      let a := s.arrived r
      let at_ := a.fld (kCore (32 + h.val) 0x20) 14 2
      (n < 40 → off.val % 4 = 0 → off.val < 0x174 → (n < 32 ∨ off.val < 0x100) → Served s r k → a.halted n = true →
        exec (.coreWinWrite r c off 4 v) s = .next (a.store (kWin n off.val) (BitVec.ofNat 32 v.toNat) 15))
      ∧ (n < 40 → off.val % 4 = 0 → Served s r k → a.halted n = false → exec (.coreWinWrite r c off 4 v) s = .next a)
      ∧ (Served s r (kCore (32 + h.val) 0x24) →
        exec (.lcLoadData r h data) s
          = .next ((a.poke (0x2001000000 + h.val * 0x10000 + 4 * at_) (leBytes 4 data.toNat)).setF (kCore (32 + h.val) 0x20) 14 2
              (at_ + 1)))

/-! ### Pyriva instructions that compute -/

/-- ADD, ADC, SUB, SBC, NEG, CMP and MAC (R143, R144): the sum or difference at the operand width; Z and N of the result, C the
carry out, or no borrow, V where the exact signed result does not fit. CMP writes nothing; MAC adds the low bits of a × b. -/
def Obligations.AddSubtractAndAccumulate : Prop :=
  ∀ (g : Guard) (a b d : Operand),
    let k := sizeS g
    let n := 8 * k
    let two := [srcSlot k a, srcSlot k b, dstSlot k d]
    let minus (x y borrow : Nat) : Nat := narrow n (Int.ofNat x - Int.ofNat y - Int.ofNat borrow)
    let gap (x y borrow : Nat) : Bool := !fits n (sgn n x - sgn n y - Int.ofNat borrow)
    Computes (.add g a b d) g (partsS g two) two (fun x _ =>
      { writes := [none, none, some ((x 0 + x 1) % 2 ^ n)]
        flags := some (flagsOf n ((x 0 + x 1) % 2 ^ n) (decide (2 ^ n ≤ x 0 + x 1)) (!fits n (sgn n (x 0) + sgn n (x 1))))
        base := 1 })
    ∧ Computes (.adc g a b d) g (partsS g two) two (fun x f =>
      { writes := [none, none, some ((x 0 + x 1 + f.c.toNat) % 2 ^ n)]
        flags := some (flagsOf n ((x 0 + x 1 + f.c.toNat) % 2 ^ n) (decide (2 ^ n ≤ x 0 + x 1 + f.c.toNat))
          (!fits n (sgn n (x 0) + sgn n (x 1) + Int.ofNat f.c.toNat)))
        base := 1 })
    ∧ Computes (.sub g a b d) g (partsS g two) two (fun x _ =>
      { writes := [none, none, some (minus (x 0) (x 1) 0)]
        flags := some (flagsOf n (minus (x 0) (x 1) 0) (decide (x 1 ≤ x 0)) (gap (x 0) (x 1) 0))
        base := 1 })
    ∧ Computes (.sbc g a b d) g (partsS g two) two (fun x f =>
      { writes := [none, none, some (minus (x 0) (x 1) (1 - f.c.toNat))]
        flags := some (flagsOf n (minus (x 0) (x 1) (1 - f.c.toNat)) (decide (x 1 + (1 - f.c.toNat) ≤ x 0))
          (gap (x 0) (x 1) (1 - f.c.toNat)))
        base := 1 })
    ∧ Computes (.neg g a d) g (partsS g [srcSlot k a, dstSlot k d]) [srcSlot k a, dstSlot k d] (fun x _ =>
      { writes := [none, some (minus 0 (x 0) 0)]
        flags := some (flagsOf n (minus 0 (x 0) 0) (decide (x 0 ≤ 0)) (gap 0 (x 0) 0))
        base := 1 })
    ∧ Computes (.cmp g a b) g (partsS g [srcSlot k a, srcSlot k b]) [srcSlot k a, srcSlot k b] (fun x _ =>
      { writes := [none, none]
        flags := some (flagsOf n (minus (x 0) (x 1) 0) (decide (x 1 ≤ x 0)) (gap (x 0) (x 1) 0))
        base := 1 })
    ∧ Computes (.mac g a b d) g (partsS g [srcSlot k a, srcSlot k b, modSlot k d]) [srcSlot k a, srcSlot k b, modSlot k d]
      (fun x _ =>
        let p := x 0 * x 1 % 2 ^ n
        { writes := [none, none, some ((x 2 + p) % 2 ^ n)]
          flags := some (flagsOf n ((x 2 + p) % 2 ^ n) (decide (2 ^ n ≤ x 2 + p)) (!fits n (sgn n (x 2) + sgn n p)))
          base := if k = 8 then 4 else 2 })

/-- MUL, MULHS, MULHU, DIVS, DIVU, REMS, REMU and ABS on operands that they divide (R143, R145): low bits or high bits of the
product, the quotient rounded toward zero, the remainder with the dividend's sign, the absolute value. DIVS, DIVU, REMS and REMU
with a divisor of 0 trap DIVZ at the instruction, whose operands then have changed nothing (R109, R110, R114, R145). -/
def Obligations.MultiplyDivideResults : Prop :=
  (∀ (g : Guard) (a b d : Operand),
    let k := sizeS g
    let n := 8 * k
    let two := [srcSlot k a, srcSlot k b, dstSlot k d]
    let cost : Nat := if k = 8 then 4 else 2
    let long : Nat := if k = 8 then 34 else if k = 4 then 18 else 10
    let product (r : Nat) : Result := { writes := [none, none, some r], flags := some (flagsOf n r false false), base := cost }
    let divides (i : Instr) (f : Nat → Nat → Nat) (v : Nat → Nat → Bool) : Prop :=
      ∀ (s : State) (locs : List Loc) (u : State) (vals : List Nat) (t w : State),
        Begins s g (partsS g two) two locs u → u.readAll g.core two locs = (vals, t) → vals.getD 1 0 ≠ 0 →
        let r := f (vals.getD 0 0) (vals.getD 1 0)
        Accepts t g two locs (some (flagsOf n r false (v (vals.getD 0 0) (vals.getD 1 0)))) [none, none, some r] w →
        exec i s = .next ((w.spendAll (coreNum g.core) (long + (writesPc locs [none, none, some r]).toNat) two locs).retire
          (coreNum g.core) (s.nextPc g (partsS g two)))
    Computes (.mul g a b d) g (partsS g two) two (fun x _ => product (x 0 * x 1 % 2 ^ n))
    ∧ Computes (.mulhs g a b d) g (partsS g two) two
      (fun x _ => product (narrow n ((sgn n (x 0) * sgn n (x 1)) / (2 ^ n : Int))))
    ∧ Computes (.mulhu g a b d) g (partsS g two) two (fun x _ => product (x 0 * x 1 / 2 ^ n))
    ∧ divides (.divs g a b d) (fun x y => narrow n (Int.tdiv (sgn n x) (sgn n y)))
      (fun x y => !fits n (Int.tdiv (sgn n x) (sgn n y)))
    ∧ divides (.divu g a b d) (fun x y => x / y) (fun _ _ => false)
    ∧ divides (.rems g a b d) (fun x y => narrow n (Int.tmod (sgn n x) (sgn n y))) (fun _ _ => false)
    ∧ divides (.remu g a b d) (fun x y => x % y) (fun _ _ => false)
    ∧ Computes (.abs g a d) g (partsS g [srcSlot k a, dstSlot k d]) [srcSlot k a, dstSlot k d] (fun x _ =>
      let m : Int := if sgn n (x 0) < 0 then -sgn n (x 0) else sgn n (x 0)
      { writes := [none, some (narrow n m)], flags := some (flagsOf n (narrow n m) false (!fits n m)), base := 1 }))
  ∧ ∀ (g : Guard) (a b d : Operand) (i : Instr), i ∈ [Instr.divs g a b d, .divu g a b d, .rems g a b d, .remu g a b d] →
      let two := [srcSlot (sizeS g) a, srcSlot (sizeS g) b, dstSlot (sizeS g) d]
      ∀ (s : State) (locs : List Loc) (u : State) (vals : List Nat) (t : State),
        Begins s g (partsS g two) two locs u → u.readAll g.core two locs = (vals, t) → vals.getD 1 0 = 0 →
        s.bit (kWin (coreNum g.core) 0xA0) 2 = false →
        ∃ w, exec i s = .next w ∧ Trapped s w (coreNum g.core) 5 (s.pc (coreNum g.core)) 0

/-- The saturating and limit instructions (R149): sums and differences held within range, with V, or C for the unsigned ones, where
they saturate; the smaller or larger value, C and V being 0. -/
def Obligations.SaturatingAndLimitResults : Prop :=
  ∀ (g : Guard) (a b d : Operand),
    let k := sizeS g
    let n := 8 * k
    let two := [srcSlot k a, srcSlot k b, dstSlot k d]
    let row (r : Nat) (c v : Bool) : Result := { writes := [none, none, some r], flags := some (flagsOf n r c v), base := 1 }
    let held (i : Int) : Nat := narrow n (clampI (-(2 ^ (n - 1) : Int)) ((2 ^ (n - 1) : Int) - 1) i)
    Computes (.qadd g a b d) g (partsS g two) two (fun x _ =>
      row (held (sgn n (x 0) + sgn n (x 1))) false (!fits n (sgn n (x 0) + sgn n (x 1))))
    ∧ Computes (.qaddu g a b d) g (partsS g two) two (fun x _ =>
      row (min (x 0 + x 1) (2 ^ n - 1)) (decide (2 ^ n ≤ x 0 + x 1)) false)
    ∧ Computes (.qsub g a b d) g (partsS g two) two (fun x _ =>
      row (held (sgn n (x 0) - sgn n (x 1))) false (!fits n (sgn n (x 0) - sgn n (x 1))))
    ∧ Computes (.qsubu g a b d) g (partsS g two) two (fun x _ => row (x 0 - x 1) (decide (x 0 < x 1)) false)
    ∧ Computes (.mins g a b d) g (partsS g two) two (fun x _ => row (if sgn n (x 0) ≤ sgn n (x 1) then x 0 else x 1) false false)
    ∧ Computes (.maxs g a b d) g (partsS g two) two (fun x _ => row (if sgn n (x 0) ≤ sgn n (x 1) then x 1 else x 0) false false)
    ∧ Computes (.minu g a b d) g (partsS g two) two (fun x _ => row (min (x 0) (x 1)) false false)
    ∧ Computes (.maxu g a b d) g (partsS g two) two (fun x _ => row (max (x 0) (x 1)) false false)

/-- AND, OR, XOR, NOT, ANDN, TST, CLZ and POPC (R146): the result, with Z and N of it and C and V 0; CLZ sets C where its source
is 0. MOV, ZXT, SXT, LEA, SWAP, CLR, BSWAP and SET (R140, R150): what each writes; none of them sets a flag. -/
def Obligations.LogicAndMoveResults : Prop :=
  (∀ (g : Guard) (a b d : Operand),
    let k := sizeS g
    let n := 8 * k
    let two := [srcSlot k a, srcSlot k b, dstSlot k d]
    let one := [srcSlot k a, dstSlot k d]
    let plain2 (r : Nat) : Result := { writes := [none, none, some r], flags := some (flagsOf n r false false), base := 1 }
    let plain1 (r : Nat) (c : Bool) : Result := { writes := [none, some r], flags := some (flagsOf n r c false), base := 1 }
    Computes (.and g a b d) g (partsS g two) two (fun x _ => plain2 (x 0 &&& x 1))
    ∧ Computes (.or g a b d) g (partsS g two) two (fun x _ => plain2 (x 0 ||| x 1))
    ∧ Computes (.xor g a b d) g (partsS g two) two (fun x _ => plain2 (x 0 ^^^ x 1))
    ∧ Computes (.andn g a b d) g (partsS g two) two (fun x _ => plain2 (x 0 &&& (2 ^ n - 1 - x 1 % 2 ^ n)))
    ∧ Computes (.not g a d) g (partsS g one) one (fun x _ => plain1 (2 ^ n - 1 - x 0 % 2 ^ n) false)
    ∧ Computes (.tst g a b) g (partsS g [srcSlot k a, srcSlot k b]) [srcSlot k a, srcSlot k b] (fun x _ =>
      { writes := [none, none], flags := some (flagsOf n (x 0 &&& x 1) false false), base := 1 })
    ∧ Computes (.clz g a d) g (partsS g one) one (fun x _ => plain1 (leadZeros (x 0) n) (x 0 == 0))
    ∧ Computes (.popc g a d) g (partsS g one) one (fun x _ => plain1 (popCount n (x 0)) false))
  ∧ ∀ (g : Guard) (a d : Operand),
      let k := sizeS g
      let from_ := 2 ^ (nfld g.var.toNat 3 2 % 4)
      let to_ := 2 ^ (nfld g.var.toNat 1 0 % 4)
      let one := [srcSlot k a, dstSlot k d]
      let wide := [srcSlot from_ a, dstSlot to_ d]
      let row (r : Nat) : Result := { writes := [none, some r], flags := none, base := 1 }
      Computes (.mov g a d) g (partsS g one) one (fun x _ => row (x 0))
      ∧ Computes (.bswap g a d) g (partsS g one) one (fun x _ => row (leNat (leBytes k (x 0)).reverse))
      ∧ Computes (.zxt g a d) g (parcelsOf g.core (varBadS2 g.var) wide) wide (fun x _ => row (x 0))
      ∧ Computes (.sxt g a d) g (parcelsOf g.core (varBadS2 g.var) wide) wide
        (fun x _ => row (narrow (8 * to_) (sgn (8 * from_) (x 0))))
      ∧ Computes (.lea g a d) g (parcelsOf g.core (varBadN g.var) [adrSlot 1 a, dstSlot 8 d]) [adrSlot 1 a, dstSlot 8 d]
        (fun x _ => row (x 0))
      ∧ Computes (.swap g a d) g (partsS g [modSlot k a, modSlot k d]) [modSlot k a, modSlot k d] (fun x _ =>
        { writes := [some (x 1), some (x 0)], flags := none, base := 1 })
      ∧ Computes (.clr g d) g (partsS g [dstSlot k d]) [dstSlot k d] (fun _ _ =>
        { writes := [some 0], flags := none, base := 1 })
      ∧ ∀ s locs u vals v w,
        Begins s g (parcelsOf g.core false [dstSlot 4 d]) [dstSlot 4 d] locs u →
        u.readAll g.core [dstSlot 4 d] locs = (vals, v) →
        let r : Nat := if condTrue g.var.toNat (v.rdN (kWin (coreNum g.core) 0x20)) then 1 else 0
        Accepts v g [dstSlot 4 d] locs none [some r] w →
        exec (.set g d) s = .next ((w.spendAll (coreNum g.core) (1 + (writesPc locs [some r]).toNat) [dstSlot 4 d] locs).retire
          (coreNum g.core) (s.nextPc g (parcelsOf g.core false [dstSlot 4 d])))

/-- The table of shift and rotate amounts (R147): the result and C of SHL, SHR, SAR, ROL and ROR, V being 0. -/
def Obligations.ShiftAndRotateTable : Prop :=
  ∀ (g : Guard) (a m d : Operand),
    let k := sizeS g
    let n := 8 * k
    let two := [srcSlot k a, srcSlot k m, dstSlot k d]
    let row (r : Nat) (c : Bool) : Result := { writes := [none, none, some r], flags := some (flagsOf n r c false), base := 1 }
    let rol (x y : Nat) : Nat := (x * 2 ^ (y % n)) % 2 ^ n + x / 2 ^ (n - y % n)
    let ror (x y : Nat) : Nat := x / 2 ^ (y % n) + (x % 2 ^ (y % n)) * 2 ^ (n - y % n)
    Computes (.shl g a m d) g (partsS g two) two (fun x _ =>
      if x 1 = 0 then row (x 0) false
      else if x 1 ≤ n then row (x 0 * 2 ^ x 1 % 2 ^ n) ((x 0).testBit (n - x 1))
      else row 0 false)
    ∧ Computes (.shr g a m d) g (partsS g two) two (fun x _ =>
      if x 1 = 0 then row (x 0) false
      else if x 1 ≤ n then row (x 0 / 2 ^ x 1) ((x 0).testBit (x 1 - 1))
      else row 0 false)
    ∧ Computes (.sar g a m d) g (partsS g two) two (fun x _ =>
      if x 1 = 0 then row (x 0) false
      else if x 1 ≤ n then row (narrow n (sgn n (x 0) / (2 ^ x 1 : Int))) ((x 0).testBit (x 1 - 1))
      else row (if (x 0).testBit (n - 1) then 2 ^ n - 1 else 0) ((x 0).testBit (n - 1)))
    ∧ Computes (.rol g a m d) g (partsS g two) two (fun x _ =>
      if x 1 % n = 0 then row (x 0) false else row (rol (x 0) (x 1)) ((rol (x 0) (x 1)).testBit 0))
    ∧ Computes (.ror g a m d) g (partsS g two) two (fun x _ =>
      if x 1 % n = 0 then row (x 0) false else row (ror (x 0) (x 1)) ((ror (x 0) (x 1)).testBit (n - 1)))

/-- BFX and BFI (R148): the field operand is a word; the field starts at bit f[5:0] and has width f[13:8], 0 meaning 64; its
bits beyond the operand read 0 and are not written. -/
def Obligations.BitFieldResults : Prop :=
  ∀ (g : Guard) (a f d : Operand),
    let k := sizeS g
    let n := 8 * k
    let pos (f : Nat) : Nat := f % 64
    let width (f : Nat) : Nat := if f / 256 % 64 = 0 then 64 else f / 256 % 64
    let mask (f : Nat) : Nat := 2 ^ width f - 1
    Computes (.bfx g a f d) g (partsS g [srcSlot k a, srcSlot 4 f, dstSlot k d]) [srcSlot k a, srcSlot 4 f, dstSlot k d]
      (fun x _ =>
        let r := x 0 / 2 ^ pos (x 1) &&& mask (x 1)
        { writes := [none, none, some r], flags := some (flagsOf n r false false), base := 1 })
    ∧ Computes (.bfi g a f d) g (partsS g [srcSlot k a, srcSlot 4 f, modSlot k d]) [srcSlot k a, srcSlot 4 f, modSlot k d]
      (fun x _ =>
        let place := mask (x 1) * 2 ^ pos (x 1) % 2 ^ n
        let r := (x 2 &&& (2 ^ n - 1 - place)) ||| (((x 0 &&& mask (x 1)) * 2 ^ pos (x 1)) % 2 ^ n)
        { writes := [none, none, some r], flags := some (flagsOf n r false false), base := 1 })

/-! ### Pyriva control, flow, strings and traps -/

/-- CAS on plain scratchpad (R141): where the location holds the expected value it takes the new one and Z is 1, else the
location stays and Z is 0; N, C and V stay. PSET, CINV and NOP (R134, R139, R150): PSET writes the condition to P[k mod 8], and
nothing for P0; CINV drops the operand-cache lines that hold a byte of the range; NOP does nothing but go on. -/
def Obligations.CasPredicateAndCacheInstructions : Prop :=
  (∀ (g : Guard) (e n p : Operand) (s : State) (locs : List Loc) (u : State) (vals : List Nat) (v : State),
    let k := sizeS g
    let three := [srcSlot k e, srcSlot k n, adrSlot k p]
    Begins s g (partsS g three) three locs u → u.readAll g.core three locs = (vals, v) →
    let c := coreNum g.core
    let a := vals.getD 2 0
    let q := v.spendAll c 4 three locs
    a % k = 0 → q.coreTarget g.core a = .mem a → 0x2000000000 ≤ a → a < 0x2000400000 → q.marked a k = false →
    let same := decide (q.loadN a k = vals.getD 0 0)
    let r := (q.scratchRead c).wr (kWin c 0x20) (flagsPut (q.rd (kWin c 0x20)) { flagsRead (q.rdN (kWin c 0x20)) with z := same })
    exec (.cas g e n p) s =
      .next ((if same then r.memStore a (leBytes k (vals.getD 1 0)) else r).retire c (s.nextPc g (partsS g three))))
  ∧ ∀ (g : Guard) (a b : Operand),
      let c := coreNum g.core
      Acts (.pset g a) g (parcelsOf g.core false [srcSlot 1 a]) [srcSlot 1 a] 1 (fun x v next =>
        (if x 0 % 8 = 0 then v else v.setB (kWin c 0x24) (x 0 % 8) (condTrue g.var.toNat (v.rdN (kWin c 0x20)))).retire c next)
      ∧ Acts (.cinv g a b) g (parcelsOf g.core (varBadN g.var) [adrSlot 1 a, srcSlot 4 b]) [adrSlot 1 a, srcSlot 4 b] 2
        (fun x v next => (v.setCore c { v.core c with
          cache := (v.core c).cache.filter fun e => !lineTouched (x 0) (x 1) e.1 }).retire c next)
      ∧ Computes (.nop g) g (parcelsOf g.core (varBadN g.var) []) [] (fun _ _ => { writes := [], flags := none, base := 1 })

/-- B, JMP, CALL, CALLR and DBNZ to an even target (R124, R151, R152): where they go on, what the link takes, and what a branch
that is not taken does. -/
def Obligations.FlowGoesWhereItSays : Prop :=
  ∀ (g : Guard) (a l : Operand) (s : State) (locs : List Loc) (u : State) (vals : List Nat) (v w : State),
    let c := coreNum g.core
    let k := sizeS g
    let pc := s.pc c
    let target (d : Nat) : Nat := narrow 40 (Int.ofNat pc + sgn 32 d)
    let ends (i : Instr) (bad : Bool) (slots : List Slot) (writes : List (Option Nat)) (jump : Option Nat) (base : Nat) : Prop :=
      Begins s g (parcelsOf g.core bad slots) slots locs u → u.readAll g.core slots locs = (vals, v) →
      (v.writeAll g.core slots locs writes).portStall c v = w →
      match jump with
      | some j => j % 2 = 0 → exec i s = .next (((w.setCore c { w.core c with jump := some j }).spendAll c
          (base + (writesPc locs writes).toNat) slots locs).retire c (s.nextPc g (parcelsOf g.core bad slots)))
      | none => (∀ j, (w.core c).jump = some j → j % 2 = 0) →
        exec i s = .next ((w.spendAll c (base + (writesPc locs writes).toNat) slots locs).retire c
          (s.nextPc g (parcelsOf g.core bad slots)))
    let taken := condTrue g.var.toNat (v.rdN (kWin c 0x20))
    let count := narrow (8 * k) (Int.ofNat (vals.getD 0 0) - 1)
    (taken = true → ends (.b g a) false [srcSlot 4 a] [none] (some (target (vals.getD 0 0))) 2)
    ∧ (taken = false → ends (.b g a) false [srcSlot 4 a] [none] none 1)
    ∧ ends (.jmp g a) (varBadN g.var) [srcSlot 8 a] [none] (some (vals.getD 0 0 % 2 ^ 40)) 2
    ∧ ends (.call g a l) (varBadN g.var) [srcSlot 8 a, dstSlot 8 l]
      [none, some (s.nextPc g (parcelsOf g.core (varBadN g.var) [srcSlot 8 a, dstSlot 8 l]))] (some (vals.getD 0 0 % 2 ^ 40)) 2
    ∧ ends (.callr g a l) (varBadN g.var) [srcSlot 4 a, dstSlot 8 l]
      [none, some (s.nextPc g (parcelsOf g.core (varBadN g.var) [srcSlot 4 a, dstSlot 8 l]))] (some (target (vals.getD 0 0))) 2
    ∧ (count ≠ 0 → ends (.dbnz g l a) (varBadS g.var) [modSlot k l, srcSlot 4 a] [some count, none]
      (some (target (vals.getD 1 0))) 2)
    ∧ (count = 0 → ends (.dbnz g l a) (varBadS g.var) [modSlot k l, srcSlot 4 a] [some count, none] none 1)

/-- SMOV, SSET, SGET, SCMP and SFIND (R153, R154): what is read and written through SRCP and DSTP, in the order they are
addressed, and the flags of the comparing ones; the pointers step with the addressing. -/
def Obligations.StringInstructionResults : Prop :=
  ∀ (g : Guard) (a : Operand),
    let k := sizeS g
    let n := 8 * k
    let src := srcSlot k srcStream
    let test (p q : Nat) : Result :=
      { writes := [none, none]
        flags := some (flagsOf n (narrow n (Int.ofNat p - Int.ofNat q)) (decide (q ≤ p)) (!fits n (sgn n p - sgn n q)))
        base := 1 }
    Computes (.smov g) g (partsS g []) [src, dstSlot k dstStream] (fun x _ =>
      { writes := [none, some (x 0)], flags := none, base := 1 })
    ∧ Computes (.sset g a) g (partsS g [srcSlot k a]) [srcSlot k a, dstSlot k dstStream] (fun x _ =>
      { writes := [none, some (x 0)], flags := none, base := 1 })
    ∧ Computes (.sget g a) g (partsS g [dstSlot k a]) [src, dstSlot k a] (fun x _ =>
      { writes := [none, some (x 0)], flags := none, base := 1 })
    ∧ Computes (.scmp g) g (partsS g []) [src, srcSlot k dstStream] (fun x _ => test (x 1) (x 0))
    ∧ Computes (.sfind g a) g (partsS g [srcSlot k a]) [src, srcSlot k a] (fun x _ => test (x 0) (x 1))

/-- REP, REPM, REPD and REP_ITERATION (R155 to R159): a repeat clears RB; with CNT 0 it ends at once; otherwise it carries out one
iteration, takes 1 from CNT, and goes on unless CNT has become 0, or Z tells it to end; a further iteration does the same.
REP_ITERATION runs where the core is between iterations and takes nothing there. -/
def Obligations.RepeatRunsOneIteration : Prop :=
  ∀ (g : Guard) (pre : Parcel) (o : StringOp) (s u w : State) (locs : List Loc) (mode : Nat) (i : Instr) (r : RepRec),
    let c := coreNum g.core
    let parcels := repParcels g pre (.str o)
    let next := s.nextPc g parcels
    let q : RepRec := { op := o, mode := mode, var := g.var, next := next }
    let less (t : State) : Nat := (t.rdN (kWin c 0x1C) + 2 ^ 32 - 1) % 2 ^ 32
    let more (m : Nat) (t : State) : Bool :=
      less t != 0 && !(m == 1 && t.bit (kWin c 0x20) 0) && !(m == 2 && !t.bit (kWin c 0x20) 0)
    let after (x : RepRec) (t : State) : State := (t.wrN (kWin c 0x1C) (less t)).afterIteration c x (more x.mode t)
    let started := ((s.begin_ c).spend c 1).setB (kWin c 0x20) 4 false
    nfld pre.toNat 3 0 = mode → (mode, i) ∈ [(0, Instr.rep g pre (.str o)), (1, .repm g pre (.str o)), (2, .repd g pre (.str o))] →
    (Begins s g parcels [] locs u → started.rdN (kWin c 0x1C) = 0 → exec i s = .next (started.retire c next))
    ∧ (Begins s g parcels [] locs u → started.rdN (kWin c 0x1C) ≠ 0 →
      Iterates started g.core (s.pc c) q w → exec i s = .next (after q w))
    ∧ ((s.core c).rep = some r → s.atBoundary g.core = true →
      Iterates (s.setCore c { s.core c with late := false }) g.core (s.pc c) r w →
      exec (.repIteration g.core) s = .next (after r w))

/-- Trap entry (R109, R111): TRAP, INT_TRAP, LATE_TRAP and UNDEFINED_OPCODE enter a trap with the cause, TPC and TADDR of R109; none
of the side effects of TRAP's own operand stays (R103, R110).
A pending INT or LATE is taken at a boundary of a core that is not halted (R113, R183). A trap other than INT that is raised
while TRAPPED is 1 is a double trap (R112): a scene core or line core halts with code DOUBLE, and PC, TPC, TFLAGS, TCAUSE, TADDR
and memory stay. -/
def Obligations.TrapEntrySavesAndVectors : Prop :=
  ((∀ (g : Guard) (n : Operand) (s : State) (locs : List Loc) (u : State) (vals : List Nat) (v : State),
    let one := [srcSlot 1 n]
    let parcels := parcelsOf g.core (varBadN g.var) one
    let e := (s.begin_ (coreNum g.core)).spendAll (coreNum g.core) 1 one locs
    Begins s g parcels one locs u → u.readAll g.core one locs = (vals, v) → s.bit (kWin (coreNum g.core) 0xA0) 2 = false →
    ∃ t, exec (.trap g n) s = .next t ∧ Trapped e t (coreNum g.core) 6 (s.nextPc g parcels) (vals.getD 0 0))
  ∧ (∀ (c : CoreId) (s : State), s.halted (coreNum c) = false → s.coreMode (coreNum c) = true →
    (s.core (coreNum c)).haltAsk = 0 → (s.core (coreNum c)).wait = .none → s.intDue c = true →
    ∃ t, exec (.intTrap c) s = .next t ∧ Trapped s t (coreNum c) 7 (s.pc (coreNum c)) 0)
  ∧ (∀ (h : HeadId) (s : State), s.halted (32 + h.val) = false → s.coreMode (32 + h.val) = true →
    (s.core (32 + h.val)).haltAsk = 0 → (s.core (32 + h.val)).wait = .none → s.lateDue (32 + h.val) = true →
    ∃ t, exec (.lateTrap h) s = .next t ∧ Trapped s t (32 + h.val) 8 (s.pc (32 + h.val)) 0)
  ∧ ∀ (c : CoreId) (p : Parcel) (s : State), opcodeDefined (nfld p.toNat 11 4) = false → s.canRun c = true →
    (s.begin_ (coreNum c)).fetchFault c (s.pc (coreNum c)) (s.pc (coreNum c)) = none → s.bit (kWin (coreNum c) 0xA0) 2 = false →
    ∃ t, exec (.undefinedOpcode c p) s = .next t ∧ Trapped s t (coreNum c) 1 (s.pc (coreNum c)) 0)
  ∧ ∀ (s : State) (c cause tpc addr : Nat), c < 40 → cause ≠ 7 → (s.core c).wait ≠ .port → s.bit (kWin c 0xA0) 2 = true →
      let t := s.trapTake c cause tpc addr
      t.halted c = true ∧ t.fld (kCore c 4) 15 8 = 4 ∧ t.mem = s.mem ∧ ∀ off, t.rd (kWin c off) = s.rd (kWin c off)

/-- RETT and HALT (R111, R134, R135): RETT goes on at TPC with FLAGS from TFLAGS and IE from PIE, TRAPPED being 0 whether or not it
was 1; HALT leaves PC at the next instruction and halts with code HALTI, every other register of the window staying (R118). -/
def Obligations.RettAndHaltLeave : Prop :=
  ∀ (g : Guard) (s u v : State) (locs : List Loc) (vals : List Nat),
    let c := coreNum g.core
    let parcels := parcelsOf g.core (varBadN g.var) []
    Begins s g parcels [] locs u → u.readAll g.core [] locs = (vals, v) →
    (s.rd64 (kWin c 0x88) % 2 = 0 →
      ∃ t, exec (.rett g) s = .next t ∧ t.pc c = s.rd64 (kWin c 0x88) % 2 ^ 40
        ∧ t.rdN (kWin c 0x20) = s.rdN (kWin c 0x90) % 32 ∧ t.bit (kWin c 0xA0) 0 = s.bit (kWin c 0xA0) 1
        ∧ t.bit (kWin c 0xA0) 2 = false ∧ t.mem = s.mem)
    ∧ ∃ t, exec (.halt g) s = .next t ∧ t.pc c = s.nextPc g parcels / 2 * 2 ∧ t.mem = s.mem
      ∧ (∀ off, 8 ≤ off → off < 0x10000 → t.rd (kWin c off) = s.rd (kWin c off))
      ∧ (c < 40 → t.halted c = true ∧ t.fld (kCore c 4) 15 8 = 5)

/-- WAIT, WAITL, WAITS, WAITN and SYNC begin (R136 to R138): each completes at once where its condition already holds, WAITS
with Z where SPAN has passed its operand; otherwise the core waits, and PC stays at the instruction. WAITL and WAITS that complete at
once are noted, for a change of LINE in the clock in which they began (R186; that clock is free, log 99). WAIT_COMPLETE,
WAITL_COMPLETE, WAITS_COMPLETE, WAITN_COMPLETE and SYNC_COMPLETE (R136 to R138, R169): once what a core that is not halted waits
for has come, the wait ends and the core goes on at the instruction after it; a change of LINE ends WAITN and WAITS whatever value
LINE then has, and WAITS sets Z and C. INSTRUCTION_FETCH_FILL (R105,
R106): the line that a stalled scene core waits for enters its operand cache, in place of one line where all 256 are held, and
the core goes on; a word of it with one bit in error is corrected and counted, and a line that holds uncorrectable words stays out
(R411). -/
def Obligations.WaitsBeginAndComplete : Prop :=
  (∀ (g : Guard) (n : Operand) (s u v : State) (locs : List Loc) (vals : List Nat),
    let c := coreNum g.core
    let none_ (bad : Bool) := parcelsOf g.core bad []
    let one := [srcSlot 4 n]
    let onLine := varBadN g.var || !isLine g.core
    let x := vals.getD 0 0
    (Begins s g (none_ (varBadN g.var || isLine g.core)) [] locs u → u.readAll g.core [] locs = (vals, v) →
      let t := v.spendAll c 1 [] locs
      let next := s.nextPc g (none_ (varBadN g.var || isLine g.core))
      exec (.wait g) s = .next (if t.wakeNow g.core then t.retire c next
        else t.setCore c { t.core c with wait := .wait, waitNext := next, moved := false }))
    ∧ (Begins s g (none_ (varBadN g.var)) [] locs u → u.readAll g.core [] locs = (vals, v) →
      let t := v.spendAll c 1 [] locs
      exec (.sync g) s = .next (t.setCore c { t.core c with
        wait := .sync, waitNext := s.nextPc g (none_ (varBadN g.var)), moved := false }))
    ∧ (Begins s g (none_ onLine) [] locs u → u.readAll g.core [] locs = (vals, v) →
      let t := v.occEnd c
      exec (.waitn g) s = .next (t.setCore c { t.core c with
        wait := .waitn, waitNext := s.nextPc g (none_ onLine), moved := false }))
    ∧ (Begins s g (parcelsOf g.core onLine one) one locs u → u.readAll g.core one locs = (vals, v) →
      let t := v.occEnd c
      let next := s.nextPc g (parcelsOf g.core onLine one)
      exec (.waitl g n) s = .next (if (t.beamOf c).1 = x then t.waitsNot c (.waitl x) next
        else t.setCore c { t.core c with wait := .waitl x, waitNext := next, moved := false }))
    ∧ (Begins s g (parcelsOf g.core onLine one) one locs u → u.readAll g.core one locs = (vals, v) →
      let t := v.occEnd c
      let next := s.nextPc g (parcelsOf g.core onLine one)
      let span := (t.beamOf c).2
      let f := { flagsRead (t.rdN (kWin c 0x20)) with z := decide (x < span), c := false }
      exec (.waits g n) s = .next (if x ≤ span then (t.putFlags c (some f)).waitsNot c (.waits x false) next
        else t.setCore c { t.core c with wait := .waits x false, waitNext := next, moved := false })))
  ∧ (∀ (c : CoreId) (h : HeadId) (s : State),
      let n := coreNum c
      let l := 32 + h.val
      let q := s.core l
      let goesOn (k : Nat) (o : Host.Outcome State Fault Refusal) (t : State) : Prop :=
        o = .next t ∧ (t.core k).wait = .none ∧ t.pc k = (s.core k).waitNext % 2 ^ 40 / 2 * 2 ∧ t.mem = s.mem
      (s.waitFree n = true → (s.core n).wait = .wait → s.wakeNow c = true → ∃ t, goesOn n (exec (.waitComplete c) s) t)
      ∧ (s.waitFree n = true → (s.core n).wait = .sync → s.writesDone c = true → ∃ t, goesOn n (exec (.syncComplete c) s) t)
      ∧ (s.waitFree l = true → q.wait = .waitl (s.head h.val).line → ∃ t, goesOn l (exec (.waitlComplete h) s) t)
      ∧ (s.waitFree l = true → q.wait = .waitn → q.moved = true → ∃ t, goesOn l (exec (.waitnComplete h) s) t)
      ∧ ∀ x past, s.waitFree l = true → q.wait = .waits x past → (q.moved = true ∨ x ≤ (s.head h.val).span) →
        ∃ t, goesOn l (exec (.waitsComplete h) s) t ∧ t.bit (kWin l 0x20) 0 = past ∧ t.bit (kWin l 0x20) 2 = q.moved)
    ∧ ∀ (c : Fin 32) (s : State) (line : Nat), (s.core c.val).wait = .fill line → s.coreMode c.val = true →
        ∃ t, exec (.instructionFetchFill c) s = .next t ∧ (t.core c.val).wait = .none ∧ t.mem = s.mem
          ∧ t.regs = (if s.marked line 64 then s else s.mends line 64).regs
          ∧ (s.marked line 64 = false → (line, BitVec.ofNat 512 (s.loadN line 64)) ∈ (t.core c.val).cache)
          ∧ (s.marked line 64 = true → (t.core c.val).cache = (s.core c.val).cache)
          ∧ ((s.core c.val).cache.length ≤ 256 → (t.core c.val).cache.length ≤ 256)

/-! ### Time, Bellwire and interrupts -/

/-- TB_TICK and TB_STEP (R431 to R433, R436, R439): a tick adds 1, step k mod 16 of low-frequency mode adds 2,929 or 2,930, and a live
compare channel that TB comes to sets MATCH; the first crystal edge in a mode that runs TB at low frequency begins that mode, and once
the module has left it and the root is stable the step is the last. TB_LO_READ (R434) answers the low half, and the requester's next
TB_HI reads the high half of that moment. CMP_VAL_LO_WRITE and CMP_VAL_WRITE (R435): the low half is held, and a full C goes to the
comparator behind what is on its way there. CAPTURE and CAP_POP (R442, R443): an enabled channel queues four entries of TB, and a pop
takes the oldest; a channel whose SRC is a pin takes the edges of a pin that selects it, as EDGE says, and one whose SRC is a
Bellwire channel takes its events. -/
def Obligations.TimeCompareAndCapture : Prop :=
  ∀ (s : State) (r : Requester) (n : Fin 64) (m : Fin 16) (lo : Word) (v : Double) (rise : Bool),
    let a := s.arrived r
    let k := s.tbStepNo % 16
    (s.tbLf = false → s.mode ≠ .noPower → ∃ t : State, exec .tbTick s = .next t ∧ t.tb = s.tb + 1 ∧ t.tbStepNo = s.tbStepNo
      ∧ t.mem = s.mem
      ∧ ((s.cmp n.val).live = true → (s.cmp n.val).flight = [] →
        s.rd64 (kCmp n.val 0) = (s.tb.toNat + 1) % 2 ^ 64 → t.bit (kCmp n.val 0x10) 31 = true))
    ∧ (s.tbLf = true → s.mode ≠ .noPower → ∃ t : State, exec .tbStep s = .next t
      ∧ t.tb.toNat = (s.tb.toNat + (if k ∈ [1, 4, 7, 10, 13] then 2929 else 2930)) % 2 ^ 64 ∧ t.mem = s.mem
      ∧ (s.mode.lf = true → t.tbLf = true) ∧ (t.tbLf = true → t.tbStepNo = (s.tbStepNo + 1) % 16)
      ∧ (s.mode.lf = false → s.mode ≠ .opening → t.tbLf = false))
    ∧ (s.tbLf = false → s.mode.lf = true → ∃ t : State, exec .tbStep s = .next t ∧ t.tbLf = true ∧ t.tb = s.tb ∧ t.tbStepNo = 0
      ∧ t.mem = s.mem ∧ t.regs = s.regs)
    ∧ (Served s r 0x3003600000 → ∃ t : State, exec (.tbLoRead r) s = .next (t.answered r (a.tb.toNat % 2 ^ 32))
      ∧ t.tbHiRead r = a.tb.toNat / 2 ^ 32 ∧ t.regs = a.regs ∧ t.tb = a.tb)
    ∧ (Served s r (kCmp n.val 0) → exec (.cmpValLoWrite r n lo) s
      = .next (a.setCmp n.val { a.cmp n.val with heldLo := lo }))
    ∧ (Served s r (kCmp n.val 4) → exec (.cmpValWrite r n false v) s
      = .next (a.setCmp n.val { a.cmp n.val with
          flight := (a.cmp n.val).flight
            ++ [(.val (BitVec.ofNat 64 ((a.cmp n.val).heldLo.toNat + v.toNat % 2 ^ 32 * 2 ^ 32)), false)] }))
    ∧ (Served s r (kCmp n.val 0) → Served s r (kCmp n.val 4) → ∃ t : State, exec (.cmpValWrite r n true v) s = .next t
      ∧ (t.cmp n.val).flight = (a.cmp n.val).flight ++ [(.val v, false)] ∧ (∀ j, j ≠ n.val → t.cmp j = a.cmp j) ∧ t.regs = a.regs)
    ∧ ((s.plan.capBench m.val).isSome = true →
      let pin : Prop := ∃ p, p < 96 ∧ s.plan.cioBench p = s.plan.capBench m.val ∧ s.pinRole p = 2 ∧ s.fld (kPin p) 3 0 = m.val
        ∧ s.pinWorks p = true
      let edge := s.fld (kCap m.val 0) 29 28
      let takes := if edge = 0 then rise else if edge = 1 then !rise else true
      (s.bit (kCap m.val 0) 30 = false → pin → takes = true →
        (s.bit (kCap m.val 0) 31 = false → exec (.capture m rise) s = .next s)
        ∧ (s.bit (kCap m.val 0) 31 = true → (s.cap m.val).length < 4 →
          exec (.capture m rise) s = .next (s.setCap m.val (s.cap m.val ++ [(s.tb.toNat, rise)])))
        ∧ (s.bit (kCap m.val 0) 31 = true → 4 ≤ (s.cap m.val).length →
          exec (.capture m rise) s = .next (s.setB (kCap m.val 0x10) 31 true)))
      ∧ (s.bit (kCap m.val 0) 30 = false → (¬pin ∨ takes = false) → exec (.capture m rise) s = .next s)
      ∧ (s.bit (kCap m.val 0) 30 = true → (∀ c, c < 128 → TaskInput.capture m.val ∉ (s.bell c).targets) →
        exec (.capture m rise) s = .next s)
      ∧ (s.bit (kCap m.val 0) 30 = true → (∃ c, c < 128 ∧ TaskInput.capture m.val ∈ (s.bell c).targets) →
        s.bit (kCap m.val 0) 31 = true → (s.cap m.val).length < 4 → ∃ t : State, exec (.capture m rise) s = .next t
          ∧ t.cap m.val = s.cap m.val ++ [(s.tb.toNat, true)] ∧ t.regs = s.regs ∧ t.mem = s.mem))
    ∧ (Served s r (kCap m.val 4) →
      (∀ at_ up rest, a.cap m.val = (at_, up) :: rest → rest.length < 4 → ∃ t : State,
        exec (.capPop r m) s = .next (t.answered r (2 ^ 31 + (if up then 2 ^ 30 else 0) + rest.length))
        ∧ t.cap m.val = rest ∧ t.rd64 (kCap m.val 8) = at_ % 2 ^ 64 ∧ t.mem = a.mem)
      ∧ (a.cap m.val = [] → ∃ t : State, exec (.capPop r m) s = .next (t.answered r 0) ∧ t.cap m.val = []
        ∧ t.rd64 (kCap m.val 8) = 0))

/-- CHANNEL_FIRE, CHANNEL_DELIVER, ROUTE_CHANGE_APPLY, STORM_WINDOW and CUT_RESUME (R444 to R451): a fire leaves as an event to the
inputs subscribed, is held or merged while the handshake is busy, and is discarded while the channel is cut; a delivery reaches
the next input, and at its end the event counts and a held fire leaves; a forced route change cuts the handshakes in its way; a
storm window past the limit sets STORM, and CUT where CUT_EN allows it; writing 1 to CUT ends the cut. -/
def Obligations.BellwireEvents : Prop :=
  ∀ (s : State) (r : Requester) (c : BellId) (m : Fin 16),
    let n := c.val
    let a := s.arrived r
    let q := s.bell n
    (Served s r (kCh n 0) → (a.plan.bellBench n).isSome = true → a.plan.bellBench n = a.benchOf r →
      (a.bit (kCh n 4) 29 = false → (a.bell n).inFlight = false → ∃ t : State, exec (.channelFire r c) s = .next t
        ∧ (t.bell n).inFlight = true ∧ (t.bell n).targets = t.subscribers n ∧ (t.bell n).window = (a.bell n).window + 1)
      ∧ (a.bit (kCh n 4) 29 = false → (a.bell n).inFlight = true → (a.bell n).held = false →
        ∃ t : State, exec (.channelFire r c) s = .next t ∧ (t.bell n).held = true ∧ (t.bell n).targets = (a.bell n).targets)
      ∧ (a.bit (kCh n 4) 29 = false → (a.bell n).inFlight = true → (a.bell n).held = true →
        ∃ t : State, exec (.channelFire r c) s = .next t ∧ t.bell n = a.bell n
          ∧ t.fld (kCh n 4) 15 0 = min (a.fld (kCh n 4) 15 0 + 1) 0xFFFF)
      ∧ (a.bit (kCh n 4) 29 = true → ∃ t : State, exec (.channelFire r c) s = .next t ∧ t.bell n = a.bell n
        ∧ t.rdN (kCh n 0xC) = min (a.rdN (kCh n 0xC) + 1) (2 ^ 32 - 1)))
    ∧ (∀ x rest, q.inFlight = true → q.targets = x :: rest →
      exec (.channelDeliver c false) s = .next ((s.setBell n { q with targets := rest }).take x)
      ∧ (x = .capture m.val → s.inputReset x = false → s.bit (kCap m.val 0) 31 = true → (s.cap m.val).length < 4 →
        ∃ t : State, exec (.channelDeliver c false) s = .next t ∧ t.cap m.val = s.cap m.val ++ [(s.tb.toNat, true)]))
    ∧ (q.inFlight = true → q.targets = [] → ∃ t : State, exec (.channelDeliver c true) s = .next t
      ∧ t.rdN (kCh n 8) = (s.rdN (kCh n 8) + 1) % 2 ^ 32 ∧ (t.bell n).inFlight = q.held ∧ (t.bell n).held = false)
    ∧ exec (.routeChangeApply c false) s
      = .next { s with routes := s.routes.filter fun e => !(s.routeBusy e).isEmpty }
    ∧ (∃ t : State, exec (.routeChangeApply c true) s = .next t ∧ ∀ e ∈ s.routes, n ∈ s.routeChans e.1.1 e.1.2 e.2 →
      e ∉ t.routes ∧ ∀ j ∈ s.routeBusy e, t.bit (kCh j 4) 28 = true)
    ∧ (∃ t : State, exec .stormWindow s = .next t ∧ (t.bell n).window = 0
      ∧ t.bit (kCh n 4) 30 = decide (s.stormLimit < q.window * 1000)
      ∧ t.bit (kCh n 4) 29 = (s.bit (kCh n 4) 29 || (decide (s.stormLimit < q.window * 1000) && s.bit (kCh n 0) 30)))
    ∧ (Served s r (kCh n 4) → ∃ t : State, exec (.cutResume r c) s = .next t ∧ t.bit (kCh n 4) 29 = false
      ∧ (∀ j, j < 32 → j ≠ 29 → t.bit (kCh n 4) j = a.bit (kCh n 4) j) ∧ (∀ j, j ≠ kCh n 4 → t.rd j = a.rd j)
      ∧ t.mem = a.mem)

/-- SOURCE_LEVEL_CHANGE, INTERRUPT_OFFER, IC_CLAIM, IC_COMPLETE, HOLDOFF_END, IC_PEND_WRITE and WATCH_WAKE (R459 to R468): the state
machine of a source. An offer goes to the first eligible target at or after the source's pointer, and an MSI-X target claims it
with its message; a claim makes the offered source Active; a completion makes it Idle, with a hold-off where its level is high;
a watched source with an always-on producer (a compare channel, a capture channel or a pin: R452) that is high in Doze asks for the
wake, and in Standby asserts WAKE# where a link is in L2 (R519); another source's slot wakes nothing (R472). -/
def Obligations.InterruptSources : Prop :=
  ∀ (s : State) (r : Requester) (n : SrcId) (w : Fin 32) (i : Fin 32) (value : Word) (slot : Fin 64),
    let a := s.arrived r
    let q := s.src n.val
    let set (u : State) (st : SrcState) : State := u.setSrc n.val { u.src n.val with st := st }
    (q.st = .idle → s.srcLevel n.val = true → q.holdoff = none → exec (.sourceLevelChange n) s = .next (set s .pending))
    ∧ (q.st = .pending ∨ (∃ t, q.st = .offered t) → s.srcLevel n.val = false →
      exec (.sourceLevelChange n) s = .next (set s .idle))
    ∧ (q.st = .active → exec (.sourceLevelChange n) s = .next s)
    ∧ (∀ j, let u := s.icWithdraw
      let t := ((u.src n.val).ptr + j) % 37
      (u.src n.val).st = .pending → u.srcEn n.val = true → j < 37 → u.eligible n.val t = true →
      (∀ i, i < j → u.eligible n.val (((u.src n.val).ptr + i) % 37) = false) →
      (t < 33 → u.outbid n.val t = false → exec (.interruptOffer n) s
        = .next (u.setSrc n.val { u.src n.val with st := .offered t, ptr := (t + 1) % 37 }))
      ∧ (33 ≤ t → exec (.interruptOffer n) s
        = .next ((u.setSrc n.val { u.src n.val with st := .active, ptr := (t + 1) % 37 }).msixSend (t - 33)
          (u.fld (kIc (8 * n.val + 4)) 23 16))))
    ∧ (∀ c t o, targetOf c = some t → Served s (.core c) (kIc 0x2300) → s.icWithdraw.offerFor t = some o →
      exec (.icClaim (.core c)) s = .next (s.icWithdraw.setSrc o { s.icWithdraw.src o with st := .active }))
    ∧ (∀ b, r = .host b → Served s r (kIc 0x2300) → exec (.icClaim r) s = .next (a.answered r 0))
    ∧ (Served s r (kIc 0x2304) → (a.benchOf r = none ∨ a.srcBench n.val = a.benchOf r) → (a.src n.val).st = .active →
      (a.srcLevel n.val = false → ∃ t : State, exec (.icComplete r n) s = .next t ∧ t.src n.val = { a.src n.val with st := .idle })
      ∧ (a.srcLevel n.val = true → exec (.icComplete r n) s = .next (a.setSrc n.val { a.src n.val with
          st := .idle, holdoff := some (a.tb.toNat + a.fld (kIc (0x2200 + 4 * (n.val / 16))) 15 0) })))
    ∧ (Served s r (kIc 0x2304) → ((a.benchOf r ≠ none ∧ a.srcBench n.val ≠ a.benchOf r) ∨ (a.src n.val).st ≠ .active) →
      ∃ t : State, exec (.icComplete r n) s = .next t ∧ ∀ j, t.src j = a.src j)
    ∧ (∀ at_, q.holdoff = some at_ → at_ ≤ s.tb.toNat → q.st = .idle → ∃ t : State, exec (.holdoffEnd n) s = .next t
      ∧ t.src n.val = { q with holdoff := none, st := if s.srcLevel n.val then .pending else .idle })
    ∧ (Served s r (kIc (0x2080 + 4 * w.val)) → ∃ t : State, exec (.icPendWrite r w value) s = .next t
      ∧ (let k := 32 * w.val + i.val
        (a.srcSeen (a.benchOf r) k = false → t.src k = a.src k)
        ∧ (a.srcSeen (a.benchOf r) k = true → value.getLsbD i.val = false →
          ((a.src k).st = .pending ∨ ∃ t, (a.src k).st = .offered t) → t.src k = { a.src k with st := .idle })
        ∧ (a.srcSeen (a.benchOf r) k = true → value.getLsbD i.val = true → (a.src k).st = .idle →
          (a.src k).holdoff ≠ none → a.srcLevel k = true → t.src k = { a.src k with st := .pending, holdoff := none }))
      ∧ t.regs = a.regs)
    ∧ (let x := s.fld (kIc (0x2400 + 4 * slot.val)) 9 0
      ¬(160 ≤ x ∧ x < 240 ∨ 528 ≤ x ∧ x < 624) → exec (.watchWake slot) s = .next s)
    ∧ (let x := s.fld (kIc (0x2400 + 4 * slot.val)) 9 0
      s.bit (kIc (0x2400 + 4 * slot.val)) 31 = true → (160 ≤ x ∧ x < 240 ∨ 528 ≤ x ∧ x < 624) → s.srcLevel x = true →
      (s.mode = .doze → ∃ t : State, exec (.watchWake slot) s = .next t ∧ t.bit (kIc (0x2400 + 4 * slot.val)) 30 = true
        ∧ t.wakeAsk = (if s.wakeAsk = none then some (5, slot.val) else s.wakeAsk) ∧ t.wakePin = s.wakePin)
      ∧ (s.mode = .standby → s.wakePin = false → (∃ l, l < 4 ∧ (s.link l).l2 = true) →
        ∃ t : State, exec (.watchWake slot) s = .next t ∧ t.bit (kIc (0x2400 + 4 * slot.val)) 30 = true ∧ t.wakePin = true
          ∧ t.sent = .wakeAsserted :: s.sent)
      ∧ (s.mode = .standby → (∀ l, l < 4 → (s.link l).l2 = false) →
        exec (.watchWake slot) s = .next (s.setB (kIc (0x2400 + 4 * slot.val)) 30 true)))

/-! ### Cabinet I/O -/

/-- CIO_HANDOVER, PIN_FILTER_PASS, SER_DATA_WRITE, SER_DATA_READ, SER_BYTE_DONE and SER_BUS_TIMEOUT (R476 to R491): a change of FUNC or
SEL hands the pin over with its latch 0, the old function keeping its last filtered level and the keeper the level driven; that and a
change of FILT or DEB preset the filter to the pin's present level, which is the filtered one where there is no filter (and free
elsewhere: log 96); a level that passes the filter shows in CIO_IN, and CIO_EDGE latches the edges that IRQ asks for; a byte written
queues, or is dropped with OVR; a byte read is popped; a byte that finishes shifting leaves TX with the bits of its frame on the data
line (a UART's start bit, data, parity and stop bits; an SPI byte's bits in their order; an I²C byte or its READ) and enters RX while
the input is joined to its pin, START opening a transfer and STOP ending it, but one that CTS holds back has not been shifted; SCL
held low ends the transfer with BUSTO, 9 clocks and a STOP (that the byte under way leaves TX is the model's choice: log 96). -/
def Obligations.PinsAndSerialUnits : Prop :=
  ∀ (s : State) (r : Requester) (p : PinId) (g : Fin 12) (cfg value : Word) (level : Bool) (b : Byte) (err acked : Bool),
    let a := s.arrived r
    let data := kCio (0x1004 + 16 * g.val)
    let stat := kCio (0x1008 + 16 * g.val)
    let edge := s.fld (kPin p.val) 14 12
    let q := s.ser g.val
    (Served s r (kPin p.val) → (a.plan.cioBench p.val).isSome = true →
      (a.benchOf r = none ∨ a.plan.cioBench p.val = a.benchOf r) → ∃ t : State, exec (.cioHandover r p cfg) s = .next t
        ∧ t.fld (kPin p.val) 31 28 = wfld cfg 31 28 ∧ t.fld (kPin p.val) 11 0 = wfld cfg 11 0
        ∧ (a.fld (kPin p.val) 25 24 = 0 → (t.pin p.val).level = (a.pin p.val).level)
        ∧ (if wfld cfg 31 28 = a.fld (kPin p.val) 31 28 ∧ wfld cfg 11 0 = a.fld (kPin p.val) 11 0 then
            (t.pin p.val).latch = (a.pin p.val).latch ∧ (t.pin p.val).frozen = (a.pin p.val).frozen
              ∧ (t.pin p.val).kept = (a.pin p.val).kept
              ∧ (wfld cfg 25 21 = a.fld (kPin p.val) 25 21 → t.pin p.val = a.pin p.val)
          else (t.pin p.val).latch = false
            ∧ (a.pinWorks p.val = true → ∀ f, Sparse.get (fun _ => false) (t.pin p.val).frozen f
              = if f = a.pinRole p.val then a.pinIn p.val else Sparse.get (fun _ => false) (a.pin p.val).frozen f)
            ∧ (a.pinDrive p.val = .released → (t.pin p.val).kept = (a.pin p.val).level)
            ∧ ∀ l, a.pinDrive p.val = .level l ∨ a.pinDrive p.val = .kept l → (t.pin p.val).kept = l))
    ∧ ((s.pin p.val).level = level → exec (.pinFilterPass p level) s = .next s)
    ∧ ((s.pin p.val).level ≠ level → ∃ t : State, exec (.pinFilterPass p level) s = .next t ∧ (t.pin p.val).level = level
      ∧ (let rise := level != s.bit (kPin p.val) 17
        (edge = 5 ∨ (edge = 3 ∧ rise = true) ∨ (edge = 4 ∧ rise = false)) →
          t.bit (kCio (0x230 + 4 * (p.val / 32))) (p.val % 32) = true))
    ∧ (Served s r data →
      ((a.ser g.val).tx.length < 16 → exec (.serDataWrite r g value) s
        = .next (a.setSer g.val { a.ser g.val with tx := (a.ser g.val).tx ++ [value &&& 0xFFF] }))
      ∧ (16 ≤ (a.ser g.val).tx.length → exec (.serDataWrite r g value) s = .next (a.setB stat 30 true))
      ∧ (∀ rest, (a.ser g.val).rx = (b, err) :: rest → exec (.serDataRead r g) s
        = .next ((a.setSer g.val { a.ser g.val with rx := rest }).answered r
          (2 ^ 31 + (if err then 2 ^ 10 else 0) + b.toNat)))
      ∧ ((a.ser g.val).rx = [] → exec (.serDataRead r g) s = .next (a.answered r 0)))
    ∧ (s.pinWorks (8 * g.val) = true →
      let joined (f i : Nat) : Prop := s.pinRole (8 * g.val + i) = f ∧ s.pinWorks (8 * g.val + i) = true
      (s.serMode g.val = 5 → joined 5 1 → q.rx.length < 16 → exec (.serByteDone g (.received b err)) s
        = .next (s.setSer g.val { q with rx := q.rx ++ [(b, err)] }))
      ∧ (s.serMode g.val = 5 → joined 5 1 → 16 ≤ q.rx.length →
        exec (.serByteDone g (.received b err)) s = .next (s.setB stat 30 true))
      ∧ (s.serMode g.val = 5 → ¬joined 5 1 → exec (.serByteDone g (.received b err)) s = .next s)
      ∧ ∀ x rest, q.tx = x :: rest →
        let cfg := s.rd (kCio (0x1000 + 16 * g.val))
        let bits := (List.range 8).map fun k => x.getLsbD k
        let left (rx : List (Byte × Bool)) : Ser :=
          { tx := rest, rx := rx, begun := false, opened := !x.getLsbD 9 && (q.opened || x.getLsbD 8) }
        let odd := (bits.filter id).length % 2 = 1
        let parity := if wfld cfg 11 10 = 1 then [decide odd] else if wfld cfg 11 10 = 2 then [!decide odd] else []
        let stops := if cfg.getLsbD 9 then [true, true] else [true]
        (s.serMode g.val = 5 → s.serBusy g.val = true → exec (.serByteDone g .sent) s
          = .next ((s.setSer g.val (left q.rx)).emit (.serial g.val x ([false] ++ bits ++ parity ++ stops))))
        ∧ (s.serMode g.val = 5 → s.serBusy g.val = false → exec (.serByteDone g .sent) s = .next s)
        ∧ (s.serMode g.val = 7 → joined 7 2 → q.rx.length < 16 → ∃ t : State, exec (.serByteDone g (.exchanged b)) s = .next t
          ∧ t.ser g.val = left (q.rx ++ [(b, false)]) ∧ t.regs = s.regs
          ∧ t.sent = .serial g.val x (if cfg.getLsbD 6 then bits else bits.reverse) :: s.sent)
        ∧ (s.serMode g.val = 6 → x.getLsbD 10 = true → q.rx.length < 16 →
          ∃ t : State, exec (.serByteDone g (.i2c acked b)) s = .next t
          ∧ t.ser g.val = left (q.rx ++ [(b, false)]) ∧ t.regs = s.regs
          ∧ t.sent = .serial g.val x (List.replicate 8 true ++ [x.getLsbD 11]) :: s.sent)
        ∧ (s.serMode g.val = 6 → x.getLsbD 10 = false → ∃ t : State, exec (.serByteDone g (.i2c acked b)) s = .next t
          ∧ t.ser g.val = left q.rx ∧ t.sent = .serial g.val x (bits.reverse ++ [true]) :: s.sent ∧ t.bit stat 29 = (s.bit stat 29 || !acked)))
    ∧ (s.pinWorks (8 * g.val) = true → s.serMode g.val = 6 → (q.tx ≠ [] ∨ q.opened = true) → exec (.serBusTimeout g) s
      = .next (((s.setSer g.val { q with tx := q.tx.tail, begun := false, opened := false }).setB stat 28 true).emit
        (.i2cRecovery g.val)))

/-- QD_SAMPLE, QD_COUNT_READ, MX_ROW_DWELL, MX_KEYS_READ, MTR_ADD and MTR_PULSE_TIMER (R485 to R487): one phase change counts up or down
and both at once count nothing; a row's keys follow its columns, which are active low, and the next row is driven; both units sample
the filtered levels of their pins, or the levels at which a pin that has left them is frozen (R476, R478); reading the
count or the keys ends the unit's condition; pulses add to a meter, which goes high, then low, and counts the pulse sent. -/
def Obligations.CountersMatricesAndMeters : Prop :=
  ∀ (s : State) (r : Requester) (g : Fin 12) (m : Fin 24) (i j : Bool) (columns : BitVec 4) (value : Word),
    let a := s.arrived r
    let count := kCio (0x2000 + 4 * g.val)
    let keys := kCio (0x2100 + 4 * g.val)
    let ctl := kCio (0x2200 + 4 * m.val)
    let q := s.qd g.val
    let row := (s.mx g.val).row
    let x := s.funcLevel 8 (8 * g.val + 4)
    let y := s.funcLevel 8 (8 * g.val + 5)
    (s.pinRole (8 * g.val + 4) = 8 → s.pinWorks (8 * g.val + 4) = true →
      ((x = q.a ∧ y = q.b) ∨ (x ≠ q.a ∧ y ≠ q.b) → ∃ t : State, exec (.qdSample g i j) s = .next t
        ∧ t.regs = s.regs ∧ t.qd g.val = { q with a := x, b := y })
      ∧ ((x ≠ q.a ∧ y = q.b ∧ x ≠ y) ∨ (x = q.a ∧ y ≠ q.b ∧ x = y) → ∃ t : State, exec (.qdSample g i j) s = .next t
        ∧ t.rdN count = (s.rdN count + 1) % 2 ^ 32 ∧ t.qd g.val = { q with a := x, b := y, cond := true })
      ∧ ((x ≠ q.a ∧ y = q.b ∧ x = y) ∨ (x = q.a ∧ y ≠ q.b ∧ x ≠ y) → ∃ t : State, exec (.qdSample g i j) s = .next t
        ∧ t.rdN count = (s.rdN count + (2 ^ 32 - 1)) % 2 ^ 32 ∧ t.qd g.val = { q with a := x, b := y, cond := true }))
    ∧ (Served s r count → exec (.qdCountRead r g) s
      = .next ((a.setQd g.val { a.qd g.val with cond := false }).answered r (a.rdN count)))
    ∧ (s.pinRole (8 * g.val) = 9 → s.pinWorks (8 * g.val) = true → row < 4 → ∃ t : State, exec (.mxRowDwell g columns) s = .next t
      ∧ (∀ j, j < 4 → t.bit keys (4 * row + j) = !s.funcLevel 9 (8 * g.val + 4 + j))
      ∧ (∀ j, j < 16 → (j < 4 * row ∨ 4 * row + 4 ≤ j) → t.bit keys j = s.bit keys j)
      ∧ (t.mx g.val).row = (row + 1) % 4)
    ∧ (Served s r keys → exec (.mxKeysRead r g) s
      = .next ((a.setMx g.val { a.mx g.val with cond := false }).answered r (a.rdN keys)))
    ∧ (Served s r ctl → ∃ t : State, exec (.mtrAdd r m value) s = .next t
      ∧ (t.mtr m.val).left = min 65535 ((a.mtr m.val).left + value.toNat % 65536)
      ∧ ((a.mtr m.val).phase = 0 → (t.mtr m.val).left ≠ 0 → (t.mtr m.val).phase = 1)
      ∧ ((a.mtr m.val).phase ≠ 0 → (t.mtr m.val).phase = (a.mtr m.val).phase))
    ∧ ((s.mtr m.val).phase = 1 → exec (.mtrPulseTimer m) s = .next (s.setMtr m.val { s.mtr m.val with phase := 2 }))
    ∧ ((s.mtr m.val).phase = 2 → exec (.mtrPulseTimer m) s = .next (s.setMtr m.val
      { left := (s.mtr m.val).left - 1, phase := if (s.mtr m.val).left - 1 = 0 then 0 else 1, through := none }))

/-! ### Block engines, Carter and memory -/

/-- BLK_TAKE, BLK_GIVE, BLK_GO, BLK_ABORT, BLK_PIECE_DONE and BLK_DEAD_TIME_END (R373, R378, R381 to R385): a free engine is
borrowed, a lent one is wanted; giving frees an idle engine for the next bench that waits; GO starts a latched engine never,
counts there for its holder, and refuses a bad configuration with BADCFG; a retired engine takes no start (the model's choice: log
106); in Hold the first piece waits (R535); a piece in flight completes before an abort ends the operation; a piece whose bytes are
all in the bench's memory and exact is written as the operation computes it, and nothing else is. -/
def Obligations.BlockEngineOperations : Prop :=
  ∀ (s : State) (r : Requester) (e : BlkId) (b : Nat),
    let a := s.arrived r
    let q := a.blk e.val
    let stat := kBlk e.val 0x40
    let ended (t : State) (code : Nat) : Prop := t.blkBusy e.val = false ∧ t.fld stat 3 0 = code
    (Served s r (kBlk e.val 0) → a.benchOf r = some b → b < 4 →
      (q.owner = none → exec (.blkTake r e) s = .next (a.setBlk e.val { q with owner := some b }))
      ∧ (q.owner = some b → exec (.blkTake r e) s = .next a)
      ∧ (∀ o, q.owner = some o → o ≠ b → exec (.blkTake r e) s = .next (a.setBlk e.val { q with want := q.want ||| 2 ^ b }))
      ∧ (q.owner = some b → a.blkBusy e.val = true → exec (.blkGive r e) s = .next (a.setBlk e.val { q with giving := true }))
      ∧ (q.owner = some b → a.blkBusy e.val = false → q.want % 16 = 0 → ∃ t : State, exec (.blkGive r e) s = .next t
        ∧ (t.blk e.val).owner = none ∧ t.bit stat 28 = false)
      ∧ (∀ k, q.owner = some b → a.blkBusy e.val = false → 1 ≤ k → k ≤ 4 → q.want.testBit ((b + k) % 4) = true →
        (∀ j, 1 ≤ j → j < k → q.want.testBit ((b + j) % 4) = false) → ∃ t : State, exec (.blkGive r e) s = .next t
        ∧ (t.blk e.val).owner = some ((b + k) % 4) ∧ (t.blk e.val).granted.testBit ((b + k) % 4) = true))
    ∧ (Served s r (kBlk e.val 4) → a.benchOf r = some b →
      (q.owner = none → exec (.blkGo r e) s = .next a)
      ∧ (∀ o, q.owner = some o → a.bit stat 28 = true → exec (.blkGo r e) s = .next (a.incSat (kStop o 0x24) 31 0))
      ∧ (a.bit stat 28 = false → a.blkBusy e.val = true → exec (.blkGo r e) s = .next a)
      ∧ (a.bit stat 28 = false → (7, e.val) ∈ a.badUnits → exec (.blkGo r e) s = .next a)
      ∧ (q.owner = some b → a.bit stat 28 = false → a.blkBusy e.val = false → (7, e.val) ∉ a.badUnits →
        (a.blkOp e.val).badCfg = false → ∃ t : State, exec (.blkGo r e) s = .next t
        ∧ t.blkBusy e.val = true ∧ (t.blk e.val).dead = decide (a.mode = .hold) ∧ (t.blk e.val).row = 0 ∧ (t.blk e.val).piece = 0 ∧ t.mem = a.mem)
      ∧ (q.owner = some b → a.bit stat 28 = false → a.blkBusy e.val = false → (7, e.val) ∉ a.badUnits →
        (a.blkOp e.val).badCfg = true → ∃ t : State, exec (.blkGo r e) s = .next t ∧ ended t 5 ∧ t.bit stat 29 = true ∧ t.mem = a.mem)
      ∧ (a.blkBusy e.val = false → exec (.blkAbort r e) s = .next a)
      ∧ (a.blkBusy e.val = true → q.dead = false → q.ending = 0 →
        exec (.blkAbort r e) s = .next (a.setBlk e.val { q with ending := 1 }))
      ∧ (a.blkBusy e.val = true → q.dead = true → q.ending = 0 → ∃ t : State, exec (.blkAbort r e) s = .next t ∧ ended t 1))
    ∧ (let q := s.blk e.val
      let o := s.blkOp e.val
      let y := o.rowAt q.row
      let x0 := (o.span y q.piece).1
      let n := (o.span y q.piece).2 - x0
      let dst := (o.dstRow y + x0) % 2 ^ 40
      let exact := if o.op = 1 then o.copyExact else if o.op = 2 then o.apart o.sh (ceilDiv (o.sw * o.bpp) 8) else true
      let srcs := o.sources y x0 (x0 + n)
      q.owner = some b → s.blkBusy e.val = true → q.dead = false → x0 ≤ (o.span y q.piece).2 →
      (s.blkReach b dst n = true → (∀ p ∈ srcs, s.blkReach b p.1 p.2 = true ∧ s.marked p.1 p.2 = false) → exact = true →
        ∃ t : State, exec (.blkPieceDone e) s = .next t
        ∧ (∀ i, i < n → t.byte ((dst + i) % 2 ^ 40) = s.blkByte o y (x0 + i))
        ∧ (∀ x, x < 2 ^ 40 → n ≤ (x + 2 ^ 40 - dst) % 2 ^ 40 → t.byte x = s.byte x)
        ∧ (q.piece + 1 = o.pieces y → q.row + 1 = o.dh → q.ending = 0 → ended t 0 ∧ t.bit stat 30 = true))
      ∧ (s.blkReach b dst n = false → q.ending = 0 → ∃ t : State, exec (.blkPieceDone e) s = .next t ∧ ended t 3 ∧ t.mem = s.mem)
      ∧ (∀ p, s.blkReach b dst n = true → (∀ p ∈ srcs, s.blkReach b p.1 p.2 = true) → p ∈ srcs → s.marked p.1 p.2 = true →
        q.ending = 0 → ∃ t : State, exec (.blkPieceDone e) s = .next t ∧ ended t 4 ∧ t.mem = s.mem))
    ∧ (s.mode ≠ .hold → exec (.blkDeadTimeEnd e) s = .next (s.setBlk e.val { s.blk e.val with dead := false }))

/-- CARTER_START, CARTER_PAUSE, CARTER_RESUME, CARTER_DISABLE, CARTER_DESCRIPTOR_FETCHED, CARTER_READ_RETURN,
CARTER_WRITE_COMPLETE and CARTER_BUS_ERROR (R394 to R406): START runs a channel that is not running from HEAD; PAUSE issues nothing
more, and ends in PAUSED once nothing is outstanding; RESUME goes on with a paused channel's transfer, or with the descriptor after a
completed one; START and RESUME of a latched channel count for its bench, and a retired channel takes neither (the model's choice:
log 106); DISABLE leaves it ABORTED; a descriptor is held and its transfer begins; source bytes go to the destination; what has been
written is complete, in Hold but for what follows it (R452, R535); a bus error is counted, and halts the channel after the last
retry. A read is outstanding, or, for a running channel outside Hold, issues by then (log 56). -/
def Obligations.CarterChannels : Prop :=
  ∀ (s : State) (r : Requester) (c : ChanId) (b : Nat),
    let n := c.val
    let a := s.arrived r
    let ctl (t : State) : Nat := t.rdN (kCar n 0x40)
    let q := s.chan n
    let runs (t : State) : Prop := t.carState n = 1 ∨ t.carState n = 2
    let out : Prop := q.ending = 0 ∧ (0 < q.reads ∨ (s.carState n = 1 ∧ s.mode ≠ .hold))
    (Served s r (kCar n 0) →
      let p := a.chan n
      let whole : Prop := p.latched = false ∧ (6, n) ∉ a.badUnits
      (runs a → p.latched = false → exec (.carterStart r c) s = .next a)
      ∧ (¬runs a → whole → ∃ t : State, exec (.carterStart r c) s = .next t ∧ t.carState n = 1
        ∧ t.rd64 (kCar n 0x20) = a.rd64 (kCar n 0x10) / 32 * 32 + a.rd64 (kCar n 0x10) % 2 ∧ (t.chan n).await = 1
        ∧ t.rdN (kCar n 0x3C) = 0 ∧ t.mem = a.mem)
      ∧ (p.latched = true → a.plan.carterBench n = some b →
        exec (.carterStart r c) s = .next (a.incSat (kStop b 0x24) 31 0)
        ∧ exec (.carterResume r c) s = .next (a.incSat (kStop b 0x24) 31 0))
      ∧ (p.latched = false → (6, n) ∈ a.badUnits → exec (.carterStart r c) s = .next a ∧ exec (.carterResume r c) s = .next a)
      ∧ (a.carState n = 1 → p.ending = 0 → ∃ t : State, exec (.carterPause r c) s = .next t
        ∧ ((0 < p.reads ∨ p.held ≠ [] ∨ p.done < p.issued) → t.carState n = 2)
        ∧ (a.mode = .hold → p.reads = 0 → p.held = [] → p.issued ≤ p.done → t.carState n = 3)
        ∧ ∀ j, j ≠ kCar n 0x18 → t.rd j = a.rd j)
      ∧ (a.carState n ≠ 1 → exec (.carterPause r c) s = .next a)
      ∧ (a.carState n ≠ 3 → a.carState n ≠ 4 → p.latched = false → exec (.carterResume r c) s = .next a)
      ∧ (a.carState n = 3 → whole → p.past = false → p.await = 2 → ∃ t : State, exec (.carterResume r c) s = .next t
        ∧ t.carState n = 1 ∧ (t.chan n).await = 2)
      ∧ (a.carState n = 3 → whole → p.past = true → p.await ≠ 1 → ∃ t : State, exec (.carterResume r c) s = .next t
        ∧ t.carState n = 1 ∧ (t.chan n).await = 1
        ∧ t.rd64 (kCar n 0x20) = a.rd64 (kCar n 0x48) / 32 * 32 + a.rd64 (kCar n 0x48) % 2)
      ∧ (a.carState n = 0 ∨ 5 ≤ a.carState n → exec (.carterDisable r c) s = .next a)
      ∧ (a.carState n ≠ 0 → a.carState n < 5 → ∃ t : State, exec (.carterDisable r c) s = .next t ∧ t.carState n = 6
        ∧ t.fld (kCar n 0x18) 23 20 = 8 ∧ t.bit (kCar n 0x18) 28 = true ∧ t.mem = a.mem))
    ∧ (let at_ := s.rd64 (kCar n 0x20) % 2 ^ 40 / 32 * 32
      let d := s.bytes at_ 32
      let word (i k : Nat) : Nat := leNat ((d.drop i).take k)
      s.plan.carterBench n = some b → s.carState n = 1 → q.await = 1 → out → s.rd64 (kCar n 0x20) % 2 = 0 →
      (s.plainHeld b at_ = true → s.marked at_ 32 = false → word 20 4 ≠ 0 →
        ∃ t : State, exec (.carterDescriptorFetched c .notHost) s = .next t ∧ t.rd64 (kCar n 0x28) = word 0 8
        ∧ t.rd64 (kCar n 0x30) = word 8 8 ∧ ctl t = word 16 4 ∧ t.rdN (kCar n 0x38) = word 20 4
        ∧ t.rd64 (kCar n 0x48) = word 24 8 ∧ t.rdN (kCar n 0x3C) = (s.rdN (kCar n 0x3C) + 1) % 2 ^ 32
        ∧ (t.chan n).await = 2 ∧ (t.chan n).len = word 20 4 ∧ t.mem = s.mem)
      ∧ (s.plainHeld b at_ = false → ∃ t : State, exec (.carterDescriptorFetched c .notHost) s = .next t
        ∧ t.fld (kCar n 0x18) 15 0 = min (s.fld (kCar n 0x18) 15 0 + 1) 0xFFFF ∧ t.mem = s.mem))
    ∧ (let src := (q.src0 + q.issued) % 2 ^ 40
      let dst := (q.dst0 + q.issued) % 2 ^ 40
      let k := s.carChunk n
      s.plan.carterBench n = some b → s.carState n = 1 → q.await = 2 → out → q.held = [] → ctl s / 2 ^ 30 = 0 →
      q.issued < q.len → s.plainHeld b src = true → s.marked src k = false →
      (∀ i, i < k → s.plainHeld b ((dst + i) % 2 ^ 40) = true) → (∀ i, i < k → q.byteOpen (ctl s) (q.issued + i) = false) →
      ∃ t : State, exec (.carterReadReturn c .notHost) s = .next t ∧ (t.chan n).issued = q.issued + k
        ∧ (∀ i, i < k → t.byte ((dst + i) % 2 ^ 40) = s.byte ((src + i) % 2 ^ 40))
        ∧ ∀ x, x < 2 ^ 40 → k ≤ (x + 2 ^ 40 - dst) % 2 ^ 40 → t.byte x = s.byte x)
    ∧ (s.carState n = 1 → q.done < q.issued → q.held = [] →
      (q.issued < q.len → q.ending = 0 → ∃ t : State, exec (.carterWriteComplete c) s = .next t ∧ (t.chan n).done = q.issued
        ∧ t.rdN (kCar n 0x38) = (q.len - q.issued) % 2 ^ 32 ∧ t.carState n = 1 ∧ t.mem = s.mem)
      ∧ (q.issued = q.len → s.mode ≠ .hold → (s.rd64 (kCar n 0x48)).testBit 1 = true →
        ∃ t : State, exec (.carterWriteComplete c) s = .next t
        ∧ t.carState n = 5 ∧ t.bit (kCar n 0x18) 28 = true ∧ ((ctl s).testBit 27 = true → t.bit (kCar n 0x18) 27 = true))
      ∧ (q.issued = q.len → s.mode = .hold → q.ending = 0 → ∃ t : State, exec (.carterWriteComplete c) s = .next t
        ∧ (t.chan n).done = q.len ∧ t.carState n = 1 ∧ t.bit (kCar n 0x18) 27 = s.bit (kCar n 0x18) 27))
    ∧ (∀ err code, (err, code) ∈ [(BusErr.timeout, 3), (.refused, 4), (.poison, 6)] →
      s.plan.carterBench n = some b → (s.fn b).busMaster = true → runs s → q.await = 1 → out → s.rd64 (kCar n 0x20) % 2 = 1 →
      (q.retries < s.fld (kCar n 4) 15 13 → ∃ t : State, exec (.carterBusError c err) s = .next t
        ∧ (t.chan n).retries = q.retries + 1 ∧ t.carState n = s.carState n
        ∧ t.fld (kCar n 0x18) 15 0 = min (s.fld (kCar n 0x18) 15 0 + 1) 0xFFFF)
      ∧ (s.fld (kCar n 4) 15 13 ≤ q.retries → q.reads ≤ 1 → q.held = [] → q.issued ≤ q.done →
        ∃ t : State, exec (.carterBusError c err) s = .next t
        ∧ t.carState n = 4 ∧ t.fld (kCar n 0x18) 23 20 = code ∧ t.bit (kCar n 0x18) 28 = true))

/-- SCRUB_STEP, RETIRE_COPY_DONE, MARCH_GO, MARCH_ABORT, MARCH_END, MARCH_ZERO_FILL_DONE, BANK_ROTATION_COPY_DONE and
BANK_MARCH_DONE (R411 to R413, R423, R425, R426): scrub goes on by one line, writes back what it corrects and marks what it
cannot; a copied page is retired and keeps its data; a march of a granule that the bench holds runs, ends with its STATUS, and
leaves the granule zero; a rotated bank is served by the former spare, and its old bank becomes the spare, or leaves none where it
fails. -/
def Obligations.MemoryUpkeep : Prop :=
  ∀ (s : State) (r : Requester) (b : BenchId) (ctl : Word) (found : List (Fin 8 × EccFound)) (failing : List Addr) (pass : Bool),
    let a := s.arrived r
    let q := s.march b.val
    (s.mode = .run → (∀ x, x < 4 → (s.march x).phase = 0) → s.scrubPos % 64 = 0 → s.scrubPos < 2 ^ 37 →
      ∃ t : State, exec (.scrubStep found) s = .next t ∧ t.scrubPos = (s.scrubPos + 64) % 2 ^ 37 ∧ t.mem = s.mem
        ∧ (∀ i, (i, EccFound.uncorrectable) ∈ found → t.marked (s.scrubPos + 8 * i.val) 8 = true)
        ∧ ∀ x ∈ t.flaws, x ∈ s.flaws ∧ ¬(s.scrubPos ≤ x ∧ x < s.scrubPos + 64))
    ∧ (s.mode ≠ .run → exec (.scrubStep found) s = .next s)
    ∧ (∀ page rest, s.retiring = page :: rest → ∃ t : State, exec .retireCopyDone s = .next t ∧ t.retiring = rest
      ∧ t.retired = s.retired ++ [page] ∧ t.mem = s.mem ∧ t.marks = s.marks)
    ∧ (Served s r (kMemAll 0x40) → a.benchOf r = some b.val → a.bit (kMem b.val 0x44) 31 = false →
      (a.plan.bench b.val).present = true →
      (ctl.toNat % 128 < (a.plan.bench b.val).granules → wfld ctl 29 28 < 2 → ∃ t : State, exec (.marchGo r ctl) s = .next t
        ∧ t.march b.val = { phase := 1, gran := a.plan.granFirst b.val + ctl.toNat % 128, ending := 0 }
        ∧ t.bit (kMem b.val 0x44) 31 = true ∧ t.mem = a.mem)
      ∧ ((a.plan.bench b.val).granules ≤ ctl.toNat % 128 → (a.march b.val).phase = 0 → ∃ t : State, exec (.marchGo r ctl) s = .next t
        ∧ t.fld (kMem b.val 0x44) 3 0 = 4 ∧ (t.march b.val).phase = 0 ∧ t.mem = a.mem))
    ∧ (Served s r (kMemAll 0x40) → s.benchOf r = some b.val → a.benchOf r = some b.val →
      s.bit (kMem b.val 0x40) 31 = false → (a.march b.val).phase = 1 → (a.march b.val).ending = 0 →
      ∃ t : State, exec (.marchAbort r) s = .next t ∧ t.march b.val = { a.march b.val with ending := 2 } ∧ t.mem = a.mem)
    ∧ (q.phase = 1 → q.ending = 0 → ∃ t : State, exec (.marchEnd b failing) s = .next t ∧ (t.march b.val).phase = 2
      ∧ t.bit (kMem b.val 0x44) 30 = true
      ∧ t.fld (kMem b.val 0x44) 3 0 = (if ∃ x ∈ failing, x.toNat / 0x40000000 = q.gran then 1 else 0))
    ∧ (q.phase = 2 → ∃ t : State, exec (.marchZeroFillDone b) s = .next t ∧ (t.march b.val).phase = 0
      ∧ t.bit (kMem b.val 0x44) 31 = false
      ∧ (∀ x, q.gran * 0x40000000 ≤ x → x < (q.gran + 1) * 0x40000000 → t.byte x = 0 ∧ x ∉ t.marks)
      ∧ ∀ x, x < q.gran * 0x40000000 ∨ (q.gran + 1) * 0x40000000 ≤ x → t.byte x = s.byte x)
    ∧ (s.rot.phase = 1 → s.rot.bank < 15 → s.rot.old < 16 → ∃ t : State, exec .bankRotationCopyDone s = .next t ∧ t.rot.phase = 2
      ∧ t.bankPhys s.rot.bank = s.fld (kMemAll 0x68) 3 0 ∧ t.fld (kMemAll 0x68) 3 0 = s.rot.old ∧ t.mem = s.mem)
    ∧ (s.rot.phase = 2 → ∃ t : State, exec (.bankMarchDone pass) s = .next t ∧ t.rot.phase = 0
      ∧ t.bit (kMemAll 0x68) 31 = false ∧ (pass = false → t.bit (kMemAll 0x68) 4 = true)
      ∧ (pass = true → t.bit (kMemAll 0x68) 4 = s.bit (kMemAll 0x68) 4))

/-! ### The Counting-House -/

/-- CHM_ACK, STAGE_PLAN, TEST_ENGINE, TEST_BANK, ENGINE_TEST_DONE, CHM_LOG_READ, SET_STORM, DOZE_ON, DOZE_OFF, CHM_CLOSE,
CHM_SETTINGS_CONFIRM and CHM_UNKNOWN_OP (R504, R514, R516, R524): the entry that the command port takes next is acted on by its OP
and completed with its STATUS: 0x0002 to a bench that may not ask, 0x0003 while a test runs, 0x0005 for an argument out of range,
0x0001 for an unknown OP. A CLOSE during entry to Doze waits until the module has woken (R531), and one behind it is BUSY (the
model's choice: log 37). -/
def Obligations.ManagementCommands : Prop :=
  ∀ (s : State) (b g h : Nat) (e : List Byte) (pass : Bool),
    let u := s.portTake 2 b g
    let op := entryOp e
    let arg := entryArg e
    let a := leNat ((e.drop 8).take 8)
    let n := leNat ((e.drop 16).take 4)
    let m := leNat ((e.drop 20).take 4)
    let ends (t : State) (status : Nat) : Host.Outcome State Fault Refusal := .next (t.completeEntry g e status [])
    (s.clerkUp = true → s.portNext 2 = some (b, g, e) → u.mode = .run →
      (op = 1 → exec .chmAck s = ends (u.ackSeq b arg).2 (u.ackSeq b arg).1)
      ∧ (op = 2 → (u.planner b = false → exec .stagePlan s = ends u 2)
        ∧ (u.planner b = true → u.testRuns = true → exec .stagePlan s = ends u 3)
        ∧ (u.planner b = true → u.testRuns = false → u.inGranules b a (min n 544) = false → exec .stagePlan s = ends u 5)
        ∧ ∀ p, u.planner b = true → u.testRuns = false → u.inGranules b a 544 = true → n = 544 → u.marked a 544 = false →
          planOfImage (u.bytes a 544) = some p →
          (p.refusal = none → ∃ t : State, exec .stagePlan s = ends t 0 ∧ t.staged = some p ∧ t.plan = u.plan ∧ t.mem = u.mem)
          ∧ ∀ d, p.refusal = some d → ∃ t : State, exec .stagePlan s = .next (t.completeEntry g e 4 (leBytes 1 d))
            ∧ t.staged = u.staged ∧ t.plan = u.plan ∧ t.mem = u.mem)
      ∧ (op = 3 → (8 ≤ arg → exec .testEngine s = ends u 5)
        ∧ (arg < 8 → u.plan.headBench arg ≠ some b → exec .testEngine s = ends u 2)
        ∧ (arg < 8 → u.plan.headBench arg = some b → u.engineBusy = true → exec .testEngine s = ends u 3)
        ∧ (arg < 8 → u.plan.headBench arg = some b → u.engineBusy = false → ∃ t : State, exec .testEngine s = .next t
          ∧ t.jm.testing = some arg ∧ t.jm.handOver = some arg ∧ t.testBy = some (g, e)))
      ∧ (op = 4 → (u.planner b = false → exec .testBank s = ends u 2)
        ∧ (u.planner b = true → 15 ≤ arg → exec .testBank s = ends u 5)
        ∧ (u.planner b = true → arg < 15 → u.testRuns = true → exec .testBank s = ends u 3)
        ∧ (u.planner b = true → arg < 15 → u.testRuns = false → u.noSpare = false → ∃ t : State, exec .testBank s = .next t
          ∧ t.rot = { phase := 1, bank := arg, old := u.bankPhys arg, byWho := b } ∧ t.testBy = some (g, e) ∧ t.mem = s.mem))
      ∧ (op = 5 → (m = 0 → exec .chmLogRead s = ends u 0)
        ∧ (m = 1 → u.inGranules b a 4096 = true → u.logHas n = true → ∃ t : State, exec .chmLogRead s = ends t 0
          ∧ ∀ i, i < 4096 → t.byte (a + i) = (u.maskBlock b (u.flashBytes (logAt n) 4096)).getD i 0)
        ∧ (m = 1 → u.inGranules b a 4096 = false ∨ u.logHas n = false → exec .chmLogRead s = ends u 5))
      ∧ (op = 6 → (u.planner b = false → exec .setStorm s = ends u 2)
        ∧ (u.planner b = true → arg < 1000 ∨ 100000000 < arg → exec .setStorm s = ends u 5)
        ∧ (u.planner b = true → 1000 ≤ arg → arg ≤ 100000000 → exec .setStorm s = ends { u with stormLimit := arg } 0))
      ∧ (op = 7 → arg % 16 = 0 → ∃ t : State, exec .dozeOn s = .next (t.completeEntry g e 0 []).dozeBegin
        ∧ (t.fn b).doze = true ∧ t.regs = u.regs)
      ∧ (op = 7 → arg % 16 = 1 → exec .dozeOff s
        = ends ((u.setFn b { u.fn b with doze := false, wakeA := none, wakeB := none }).wakeBy 7 b) 0)
      ∧ (op = 7 → arg % 16 = 2 → (u.planner b = false → exec .chmClose s = ends u 2)
        ∧ (u.planner b = true → (u.testRuns = true ∨ u.after ≠ none) → exec .chmClose s = ends u 3)
        ∧ (u.planner b = true → u.testRuns = false → u.after = none → u.dozeAsk = true →
          exec .chmClose s = .next { u.wakeBy 7 b with after := some (.closeEntry g e) })
        ∧ (u.planner b = true → u.testRuns = false → u.after = none → u.dozeAsk = false →
          exec .chmClose s = ends (u.wakeBy 7 b).closeStart 0))
      ∧ (op = 8 → (u.planner b = true → exec .chmSettingsConfirm s = ends u.settingsConfirm 0)
        ∧ (u.planner b = false → exec .chmSettingsConfirm s = ends u 2))
      ∧ (op = 0 ∨ 8 < op → exec .chmUnknownOp s = ends u 1)
      ∧ (op = 7 → 3 ≤ arg % 16 → exec .chmUnknownOp s = ends u 5))
    ∧ (s.jm.testing = some h → (s.head h).engine = 8 → s.jm.handOver = none → ∃ t : State, exec (.engineTestDone pass) s = .next t
      ∧ t.jm.testing = none ∧ (pass = true → t.jm.handBack = some h) ∧ (pass = false → h ∈ t.badEngines))

/-- SENSOR_SAMPLE, THROTTLE_STEP, SUPPLY_COMPARATOR_TRIP, CLOCK_LOSS, LF_XTAL, CLERK_WATCHDOG, FAULT_REPORT, REPORTS_LOST and
LOG_BLOCK_SEAL (R497 to R509, R536, R540, R585): what each samples, raises, reports or records. A first sample shows in its word;
throttling rises one level, up to 3, while a condition that starts it holds (log 79); a loss of clock blanks every head, a running one
from its next scan line. A report that waits is recorded at its level, and the level acts: L2 stops and latches every unit of its
bench, whose mailbox raises FAULT, but while the bench's reset runs or in Limp (R517, R542); L3 takes the source out of use and drops
the ready bits that depend on it, and a repeat of UNIT_STATE stops the bench as well (R518); L4 enters Limp, with every unit of every
bench stopped and latched and each running head going on blank to its safe card, and ends a Closing that has written no record (R540).
The lost reports make one record; a block that holds records is sealed into its place in flash. -/
def Obligations.SensorsAndTally : Prop :=
  ∀ (s : State) (n : Fin 64) (v : BitVec 16),
    let full (t : State) : Prop := 256 ≤ (t.tally.reports.filter fun r => !r.lost).length
    let raises (t : State) (cls source syn : Nat) : Prop := t.tally.reports = s.tally.reports ++
      [{ tb := s.tb.toNat, cls := cls, source := source, scope := 7, syn := syn, lost := decide (full s) }]
    let recorded (t : State) (r : Report) : Prop := t.tally.seq = s.tally.seq + 1
      ∧ ∃ x ∈ t.tally.records, x.seq = s.tally.seq ∧ x.cls = r.cls ∧ x.source = r.source ∧ x.scope = r.scope ∧ x.syn = r.syn
        ∧ x.level = s.tally.levelOf r.cls r.source ∧ x.tb = r.tb ∧ x.acked = false
    let latched (t : State) (b : Nat) : Prop :=
      (∀ c, c < 64 → s.plan.carterBench c = some b → (t.chan c).latched = true)
      ∧ (∀ c, c < 32 → s.plan.coreBench c = some b → t.halted c = true ∧ t.bit (kCore c 4) 2 = true)
      ∧ (∀ h, h < 8 → s.plan.headBench h = some b →
        (t.head h).latched = true ∧ t.halted (32 + h) = true ∧ t.bit (kCore (32 + h) 4) 2 = true)
      ∧ ∀ e, e < 2 → (s.blk e).owner = some b → (s.blk e).dead = false → (s.blk e).giving = false → t.bit (kBlk e 0x40) 28 = true
    (s.mode ≠ .noPower → sensorKind n.val ≠ 0 → s.sampleBad n.val v.toNat = false →
      (s.sense.samples.find? fun e => e.1 == n.val) = none →
      ∃ t : State, exec (.sensorSample [(n, v)]) s = .next t ∧ t.sensorWord n.val = v.toNat ∧ t.mem = s.mem)
    ∧ (s.sense.throttle ≠ 0 →
      ((∃ k, k < 8 ∧ s.wordAtLeast k (100 * 128) = true) ∨ s.wordAtLeast 0x20 5501 = true ∨ s.wordAtLeast 0x21 3001 = true) →
      ∃ t : State, exec .throttleStep s = .next t ∧ t.sense.throttle = min 3 (s.sense.throttle + 1) ∧ t.regs = s.regs)
    ∧ (s.sense.throttle = 0 → exec .throttleStep s = .next s)
    ∧ (s.mode ≠ .noPower → (0x13 ≤ n.val ∧ n.val ≤ 0x1F ∨ (n.val ∈ [0x10, 0x11] ∧ s.perst = false)) → s.railOn n.val = true →
      ∃ t : State, exec (.supplyComparatorTrip n) s = .next t ∧ raises t 0x19 (0x0D00 + n.val) (s.sensorWord n.val)
        ∧ t.mode = s.mode ∧ t.regs = s.regs)
    ∧ (s.mode.mainOn = true → s.mode ≠ .doze → ∃ t : State, exec .clockLoss s = .next t
      ∧ (∀ h, h < 8 → if (s.head h).moving then (t.head h).blankNext = true else (t.head h).blank = true)
      ∧ raises t 0x1E 0x0E00 (t.sensorWord 0x29) ∧ t.sensorWord 0x29 % 2 = 0 ∧ t.regs = s.regs)
    ∧ (s.mode ≠ .noPower → s.sense.xtalMain = false → ∃ t : State, exec .lfXtal s = .next t ∧ t.sense.xtalMain = true
      ∧ t.tb = s.tb ∧ t.regs = s.regs)
    ∧ (s.mode ≠ .noPower → s.slot ≠ none → ∃ t : State, exec .clerkWatchdog s = .next t ∧ t.clerkUp = false
      ∧ t.port.session = none ∧ ∀ x ∈ t.snaps, x.1 ≠ 40)
    ∧ (∀ r rest, s.tally.reports = r :: rest → r.lost = false → s.after = none →
      let kind := r.source / 256
      let k := r.source % 256
      let level := s.tally.levelOf r.cls r.source
      let drops (t : State) (b : Option Nat) (word i : Nat) : Prop := ∀ x, b = some x → x < 4 → t.bit (kBench x (0x10 + 4 * word)) i = false
      (level ≤ 1 → ∃ t : State, exec .faultReport s = .next t ∧ t.tally.reports = rest ∧ recorded t r)
      ∧ (level = 2 → ∃ t : State, exec .faultReport s = .next t ∧ recorded t r
        ∧ (r.scope < 4 → t.bit (kChm r.scope 4) 0 = true
          ∧ ((s.fn r.scope).resetting = false → s.mode ≠ .limp → latched t r.scope)
          ∧ ((s.fn r.scope).resetting = true ∨ s.mode = .limp → t.chans = s.chans ∧ t.cores = s.cores ∧ t.heads = s.heads)))
      ∧ (level = 3 → ∃ t : State, exec .faultReport s = .next t ∧ recorded t r
        ∧ (kind = 1 → k ∈ t.badCores ∧ drops t (s.plan.coreBench k) 0 k) ∧ (kind = 2 → 32 + k ∈ t.badCores)
        ∧ (kind = 3 → k ∈ t.badEngines
          ∧ (k < 8 → (s.head k).engine ≠ 8 → s.jm.handOver ≠ some k → drops t (s.plan.headBench k) 1 k))
        ∧ (kind = 6 → (6, k) ∈ t.badUnits ∧ drops t (s.plan.carterBench k) 1 9)
        ∧ (kind = 7 → (7, k) ∈ t.badUnits ∧ ∀ b ∈ s.benches, nbit (s.plan.bench b).blockLend k = true → drops t (some b) 1 10)
        ∧ (kind = 0x10 → (0x10, k) ∈ t.badUnits ∧ (r.scope < 4 → drops t (some r.scope) 1 8))
        ∧ (r.cls = 0x14 → r.scope < 4 → (s.fn r.scope).resetting = false → s.mode ≠ .limp → latched t r.scope))
      ∧ (level = 4 → s.mode ∈ [Mode.opening, .run, .doze, .hold] → ∃ t : State, exec .faultReport s = .next t ∧ recorded t r
        ∧ t.mode = .limp ∧ (∀ b ∈ s.benches, latched t b)
        ∧ (s.mode = .run → s.dozeAsk = false → ∀ h, h < 8 → (s.head h).run = 2 →
          (t.head h).run = 2 ∧ (t.head h).stopAsk = 0 ∧ (t.head h).blankNext = true ∧ (t.head h).safeNext = true))
      ∧ (level = 4 → s.mode = .closing → (s.closeStep = 1 ∨ s.closeStep = 2) →
        ∃ t : State, exec .faultReport s = .next t ∧ t.mode = .standby ∧ t.closing = s.closing))
    ∧ (s.tally.reports = [] → exec .faultReport s = .next s)
    ∧ (s.tally.lostSyn = 0 ∨ full s → exec .reportsLost s = .next s)
    ∧ (s.tally.lostSyn ≠ 0 → ¬full s → ∃ t : State, exec .reportsLost s = .next t ∧ t.tally.lostSyn = 0
      ∧ ∃ x ∈ t.tally.records, x.seq = s.tally.seq ∧ x.cls = 0x20 ∧ x.syn = s.tally.lostSyn ∧ x.tb = s.tb.toNat)
    ∧ (s.tally.logOpen = [] → exec .logBlockSeal s = .next s)
    ∧ (s.tally.logOpen ≠ [] → ∃ t : State, exec .logBlockSeal s = .next t ∧ t.tally.logNo = s.tally.logNo + 1 ∧ t.tally.logOpen = []
      ∧ t.flashBytes (0x20000000 + s.tally.logNo % 65536 * 4096) 4096 = s.logBlock
      ∧ ∀ a, (a < 0x20000000 ∨ 0x30000000 ≤ a) → t.flashBytes a 1 = s.flashBytes a 1)

/-! ### Modes -/

/-- PERST_ASSERT, PERST_DEASSERT, AUX_POWER_UP, FIRMWARE_RUNNING, MAIN_RAILS_IN_WINDOW, OPENING_START, OPENING_CHECK_DONE,
GRANULE_ZERO_FILL_DONE, OPENING_COMPLETE and WARM_OPENING_COMPLETE (R520, R521, R523, R526 to R529, R558, R559): what each begins or
ends, and the mode it leaves. The granules fill in their order, a house granule among them; the Clerk stands at the entry of its
image, which lies at the start of its SRAM (where that lies is the model's choice: log 105). TB leaves low-frequency mode at a crystal
edge, not with the mode (R433). -/
def Obligations.PowerUpAndOpening : Prop :=
  ∀ (s : State) (i : Nat) (gr : Fin 128) (failing : List (Fin 16)),
    (s.perst = true → exec .perstAssert s = .next s)
    ∧ (s.perst = false → s.mode = .run → ∃ t : State, exec .perstAssert s = .next t ∧ t.perst = true ∧ t.mode = .opening
      ∧ t.warm = true ∧ (∀ l, l < 4 → (t.link l).up = false) ∧ t.tb = s.tb)
    ∧ (s.perst = false → s.mode = .standby → ∃ t : State, exec .perstAssert s = .next t ∧ t.perst = true ∧ t.mode = .standby
      ∧ (∀ l, l < 4 → (t.link l).up = false) ∧ ∀ p, s.staged = some p → t.plan = p ∧ t.staged = none)
    ∧ (s.perst = false → s.mode = .noPower → exec .perstAssert s = .next { s with perst := true })
    ∧ (s.perst = false → s.mode = .closing → ∃ t : State, exec .perstAssert s = .next t ∧ t.perst = true ∧ t.mode = .closing
      ∧ (∀ l, l < 4 → (t.link l).up = false) ∧ t.closeStep = s.closeStep)
    ∧ exec .perstDeassert s
      = .next { s with
          perst := false, wakePin := false, armed := s.armed || s.mode == .standby
          links := Sparse.clear (fun l => (s.link l).l2) s.links }
    ∧ (s.mode = .noPower → ∃ t : State, exec .auxPowerUp s = .next t ∧ t.tb = 0 ∧ t.armed = true ∧ t.clerkUp = false
      ∧ (t.mode = .standby ∨ t.mode = .service) ∧ t.mem = s.mem)
    ∧ (s.slot = some i → i < 2 → s.clerkUp = false → s.mode ≠ .noPower → ∃ t : State, exec .firmwareRunning s = .next t
      ∧ t.clerkUp = true ∧ t.bootLog = [] ∧ t.settings ≠ none ∧ t.mode = s.mode ∧ t.mem = s.mem
      ∧ t.pc 40 = (sramBase + t.flashN (i * 0x8000000 + 0x7FFF010) 4) % 2 ^ 40 / 2 * 2)
    ∧ (s.mode ≠ .noPower → s.railsIn = false → exec .mainRailsInWindow s
      = .next { s with railsIn := true, armed := s.armed || s.mode == .standby })
    ∧ (s.mode = .standby → s.armed = true → s.railsIn = true → s.perst = false → s.clerkUp = true →
      (s.serviceAsk = false → ∃ t : State, exec .openingStart s = .next t ∧ t.mode = .opening ∧ t.armed = false ∧ t.warm = false
        ∧ t.tally.seq = 0 ∧ t.tally.records = [] ∧ t.badEngines = [] ∧ t.badBanks = [] ∧ t.badUnits = []
        ∧ t.mem = s.mem)
      ∧ (s.serviceAsk = true → ∃ t : State, exec .openingStart s = .next t ∧ t.mode = .service ∧ t.serviceAsk = false))
    ∧ (s.mode = .opening → s.warm = false → s.closeStep = 0 → ∃ t : State, exec (.openingCheckDone failing) s = .next t
      ∧ t.closeStep = 1 ∧ t.closing = none ∧ t.unverified = decide (s.closing = none) ∧ t.mode = .opening)
    ∧ (∀ k rest, s.openFills = k :: rest →
      (k = gr.val → s.mode.mainOn = true → s.checking = false → ∃ t : State, exec (.granuleZeroFillDone gr) s = .next t
        ∧ t.openFills = rest ∧ (∀ b, s.plan.granBench gr.val = some b → FillUnit.granule gr ∉ (t.fn b).fills)
        ∧ (∀ a, gr.val * 0x40000000 ≤ a → a < (gr.val + 1) * 0x40000000 → t.byte a = 0 ∧ a ∉ t.marks)
        ∧ ∀ a, a < gr.val * 0x40000000 ∨ (gr.val + 1) * 0x40000000 ≤ a → t.byte a = s.byte a)
      ∧ (k ≠ gr.val → exec (.granuleZeroFillDone gr) s = .next s))
    ∧ (s.openFills = [] → exec (.granuleZeroFillDone gr) s = .next s)
    ∧ (s.mode = .opening → s.warm = false → s.closeStep = 1 → ∃ t : State, exec .openingComplete s = .next t.dozeBegin
      ∧ t.mode = .run ∧ t.ran = true ∧ t.tb = s.tb ∧ t.mem = s.mem)
    ∧ (s.mode = .opening → s.warm = true → ∃ t : State, exec .warmOpeningComplete s = .next t.dozeBegin ∧ t.mode = .run
      ∧ t.warm = false ∧ t.mem = s.mem)

/-- DOZE_ENTRY_COMPLETE, DOZE_WAKE, MAIN_POWER_REMOVAL, CLOSING_HEAD_TIMEOUT, CLOSING_TEST_DONE, CLOSING_COMPLETE and AUX_POWER_LOSS
(R511, R522, R531, R533, R539, R540, R542, R565): Doze is entered once no head runs, no Carter channel is pausing and no block engine is
busy, and at once left where a trigger came, with what waited for that carried out; a trigger returns to Run with every consent
cleared; power that leaves the main domains leaves Standby, memory lost and TB going on, and in Opening and Closing no closing record
counts; Closing ends in Standby with its record kept; the loss of the auxiliary rail keeps flash and nothing else. -/
def Obligations.DozeClosingAndPowerLoss : Prop :=
  ∀ (s : State) (res : ClosingResult),
    let off (t : State) : Prop := t.mode = .standby ∧ t.tb = s.tb ∧ (∀ a, t.byte a = 0) ∧ (∀ l, (t.link l).up = false)
      ∧ (∀ c, c < 40 → t.halted c = true) ∧ (∀ h, (t.head h).run = 0)
    (s.dozeAsk = true → s.mode = .run → (∀ h, h < 8 → (s.head h).run = 0) → (∀ c, c < 64 → s.carState c ≠ 2) →
      (∀ e, e < 2 → s.blkBusy e = false) →
      (s.wakeAsk = none → ∃ t : State, exec .dozeEntryComplete s = .next t ∧ t.mode = .doze ∧ t.tbLf = true ∧ t.dozeAsk = false
        ∧ t.mem = s.mem)
      ∧ (∀ w, s.wakeAsk = some w →
        (s.after = none → ∃ t : State, exec .dozeEntryComplete s = .next t ∧ t.mode = .run ∧ t.dozeAsk = false ∧ t.wakeAsk = none)
        ∧ ∀ f, (s.after = some (.hold f) → ∃ t : State, exec .dozeEntryComplete s = .next t ∧ t.mode = .hold)
          ∧ (s.after = some (.close f) → ∃ t : State, exec .dozeEntryComplete s = .next t ∧ t.mode = .closing)))
    ∧ ((s.dozeAsk = false ∨ s.mode ≠ .run ∨ (∃ h, h < 8 ∧ (s.head h).run ≠ 0) ∨ (∃ c, c < 64 ∧ s.carState c = 2)
      ∨ ∃ e, e < 2 ∧ s.blkBusy e = true) → exec .dozeEntryComplete s = .next s)
    ∧ (s.mode = .doze →
      (∀ w, s.wakeAsk = some w → ∃ t : State, exec (.dozeWake .watch) s = .next t ∧ t.mode = .run ∧ t.tb = s.tb
        ∧ (∀ b, b < 4 → (t.fn b).doze = false) ∧ t.wakeAsk = none)
      ∧ (s.perst = true → ∃ t : State, exec (.dozeWake .perst) s = .next t ∧ t.mode = .run ∧ ∀ b, b < 4 → (t.fn b).doze = false)
      ∧ (s.wakeAsk = none → exec (.dozeWake .watch) s = .next s))
    ∧ (s.mode ≠ .doze → ∀ w, exec (.dozeWake w) s = .next s)
    ∧ (s.mode.mainOn = true → s.perst = true ∨ s.mode = .limp → ∃ t : State, exec .mainPowerRemoval s = .next t ∧ off t
      ∧ t.railsIn = false ∧ t.closing = (if s.mode = .opening ∨ s.mode = .closing then none else s.closing))
    ∧ (s.mode.mainOn = true → s.perst = false → s.mode ≠ .limp → exec .mainPowerRemoval s = .next s)
    ∧ (s.mode.mainOn = false → exec .mainPowerRemoval s = .next { s with railsIn := false })
    ∧ (s.mode = .closing → s.closeStep = 1 → ∃ t : State, exec .closingHeadTimeout s = .next t ∧ t.mode = .closing
      ∧ (∀ h, h < 8 → (t.head h).run ≠ 1 ∧ ((t.head h).run = 2 → (t.head h).stopAsk = 2))
      ∧ ((∀ h, h < 8 → (s.head h).run = 0) → t.closeStep = 2 ∧ ∀ l, l < 4 → (t.link l).up = false))
    ∧ (s.mode = .closing → (s.closeStep = 1 ∨ s.closeStep = 2) → ∃ t : State, exec (.closingTestDone res) s = .next t
      ∧ t.closing = some res ∧ t.closingNo = s.closingNo + 1 ∧ t.closeStep = 3 ∧ t.mode = .closing
      ∧ (s.closeStep = 1 → (∀ h, h < 8 → (s.head h).run = 0) → ∀ l, l < 4 → (t.link l).up = false))
    ∧ (s.mode = .closing → s.closeStep = 3 → ∃ t : State, exec .closingComplete s = .next t ∧ off t ∧ t.closing = s.closing)
    ∧ ∃ t : State, exec .auxPowerLoss s = .next t ∧ t.mode = .noPower ∧ t.plan = s.plan ∧ t.staged = s.staged
      ∧ (s.mode ≠ .opening → s.mode ≠ .closing → t.flash = s.flash ∧ t.closing = s.closing)
      ∧ (s.mode = .opening ∨ s.mode = .closing → t.closing = none) ∧ t.retired = s.retired ∧ (∀ k, t.rd k = regReset k) ∧ (∀ a, t.byte a = 0)

/-! ### The service port -/

/-- USB_ATTACH, USB_DETACH, USB_BUS_RESET, SESSION_GAP_TIMEOUT, TAPIN_FRAME_INVALID, OPEN, SHUT and PING (R545 to R550): a session is
opened once, with the next number, and ends with SHUT, a gap, a bus reset or a detach; a command of another session is answered
NO_SESSION, one outside its modes NOT_IN_MODE, one while another is in progress BUSY (a TEST, or a HOLD or CLOSE that waits for an
entry to Doze: R531); a transfer that is malformed does nothing, one with a wrong CRC is answered BAD_CRC, and one whose CMD is not
listed BAD_CMD. -/
def Obligations.ServiceSessions : Prop :=
  ∀ (s : State) (f : Frame) (transfer : List Byte),
    let u := s.portWake
    let field (i n : Nat) : Nat := leNat ((transfer.drop i).take n)
    let len := field 12 4
    let formed : Prop := 20 ≤ transfer.length ∧ transfer.length ≤ 65540 ∧ field 0 2 = 0x5054 ∧ field 2 1 = 1 ∧ field 3 1 = 1
      ∧ 20 + len = transfer.length
    let crc : Prop := field (16 + len) 4 = crc32c (transfer.take (16 + len))
    let answer (t : State) (cmd session status : Nat) : Host.Outcome State Fault Refusal :=
      .next (t.emit (.tapin cmd f.tag.toNat session status []))
    let ends (o : Host.Outcome State Fault Refusal) : Prop := ∃ t : State, o = .next t ∧ t.port.session = none
    (s.mode ≠ .noPower → exec .usbAttach s = .next { s with port := { s.port with attached := true } })
    ∧ (∃ t : State, exec .usbDetach s = .next t ∧ t.port.session = none ∧ t.port.attached = false)
    ∧ ends (exec .usbBusReset s)
    ∧ (s.portBusy = false → ends (exec .sessionGapTimeout s))
    ∧ (s.portBusy = true → exec .sessionGapTimeout s = .next s)
    ∧ (¬formed → exec (.tapinFrameInvalid transfer) s = .next s)
    ∧ (s.mode ≠ .noPower → s.port.attached = true → formed → ¬crc → ∀ n, s.port.session = some n →
        exec (.tapinFrameInvalid transfer) s = .next (s.emit (.tapin (field 4 2) (field 6 2) n 4 [])))
    ∧ (formed → crc → cmdListed (field 4 2) = true → exec (.tapinFrameInvalid transfer) s = .next s)
    ∧ (PortServes s f .every → formed → crc → cmdListed (field 4 2) = false → field 6 2 = f.tag.toNat → field 8 2 = f.session.toNat →
      exec (.tapinFrameInvalid transfer) s = answer u (field 4 2) f.session.toNat 1)
    ∧ (s.mode ≠ .noPower → s.port.attached = true → u.port.session = none → u.portBusy = false →
      ∃ t : State, exec (.open_ f) s = answer t 1 (u.port.lastNo % 65535 + 1) 0
        ∧ t.port.session = some (u.port.lastNo % 65535 + 1) ∧ t.port.lastNo = u.port.lastNo % 65535 + 1 ∧ t.mem = u.mem)
    ∧ (s.mode ≠ .noPower → s.port.attached = true → (u.port.session ≠ none ∨ u.portBusy = true) →
      exec (.open_ f) s = answer u 1 f.session.toNat 3)
    ∧ (PortServes s f .every → ∃ t : State, exec (.shut f) s = answer t 2 f.session.toNat 0 ∧ t.port.session = none)
    ∧ (PortServes s f .every → exec (.ping f) s = answer u 3 f.session.toNat 0)
    ∧ (s.mode ≠ .noPower → s.port.attached = true →
      (u.portBusy = true → exec (.ping f) s = answer u 3 f.session.toNat 3)
      ∧ (u.portBusy = false → u.port.session ≠ some f.session.toNat → exec (.ping f) s = answer u 3 0 2)
      ∧ (u.portBusy = false → u.port.session = some f.session.toNat → s.mode ≠ .hold →
        exec (.release f) s = answer u 0x41 f.session.toNat 6))

/-- INFO, SENSORS, HISTORY, LOG_READ, ACK, JOURNAL_READ, HOLD, RELEASE, CLOSE, REBOOT, TEST and SETTINGS_CONFIRM in the modes that allow
them (R504, R514, R531, R535, R539, R549, R550, R559, R563): the reply, and what else each does. A reading changes nothing; a TEST answers
when it ends; a HOLD or CLOSE during entry to Doze waits until the module has woken, and another then is BUSY (the model's choice:
log 37). -/
def Obligations.ServiceCommands : Prop :=
  ∀ (s : State) (f : Frame) (h : Fin 256) (first count seq : Word) (payload : List Byte) (flags : Byte),
    let u := s.portWake
    let reply (t : State) (cmd status : Nat) (bytes : List Byte) : Host.Outcome State Fault Refusal :=
      .next (t.emit (.tapin cmd f.tag.toNat f.session.toNat status bytes))
    let blocks : List Byte := (List.range count.toNat).flatMap fun i => u.flashBytes (logAt (first.toNat + i)) 4096
    (PortServes s f .every →
      exec (.info f) s = reply u 0x10 0 u.infoBytes
      ∧ exec (.sensors f) s = reply u 0x11 0 ((List.range 64).flatMap fun n => leBytes 2 (u.sensorWord n))
      ∧ (1 ≤ count.toNat → count.toNat ≤ 15 → u.logHas first.toNat = true → u.logHas (first.toNat + count.toNat - 1) = true →
        exec (.logRead f first count) s = reply u 0x13 0 blocks)
      ∧ (count.toNat = 0 ∨ 15 < count.toNat → exec (.logRead f first count) s = reply u 0x13 5 []))
    ∧ (PortServes s f .notService →
      exec (.history f) s = reply u 0x12 0 u.historyBytes
      ∧ (∀ r, u.tally.records.find? (fun x => x.seq == seq.toNat) = some r →
        ∃ t : State, exec (.ack f seq) s = reply t 0x14 0 [] ∧ t.mem = u.mem
          ∧ ∀ x ∈ t.tally.records, x.cls = r.cls → x.source = r.source → x.seq ≤ seq.toNat → x.acked = true)
      ∧ (u.tally.records.find? (fun x => x.seq == seq.toNat) = none → exec (.ack f seq) s = reply u 0x14 5 []))
    ∧ (PortServes s f (.only [.opening, .run, .hold, .limp]) →
      (h.val < 8 → 1 ≤ count.toNat → count.toNat ≤ 15 → exec (.journalRead f h first count) s
        = reply u 0x15 0 (u.journalFrom h.val first.toNat count.toNat))
      ∧ (8 ≤ h.val ∨ count.toNat = 0 ∨ 15 < count.toNat → exec (.journalRead f h first count) s = reply u 0x15 5 []))
    ∧ (PortServes s f (.only [.run, .doze]) → u.mode = .run → u.after = none → u.dozeAsk = true →
      exec (.hold f) s = .next { u with after := some (.hold f) })
    ∧ (PortServes s f (.only [.run, .doze]) → u.mode = .run → u.after ≠ none → exec (.hold f) s = reply u 0x40 3 [])
    ∧ (PortServes s f (.only [.run, .doze]) → u.mode = .run → u.after = none → u.dozeAsk = false → ∃ t : State, exec (.hold f) s = reply t 0x40 0 []
      ∧ t.mode = .hold ∧ t.tb = u.tb ∧ ∀ l, l < 8 → u.halted (32 + l) = false → (t.core (32 + l)).frozen = true)
    ∧ (PortServes s f (.only [.hold]) → ∃ t : State, exec (.release f) s = reply t.dozeBegin 0x41 0 []
      ∧ t.mode = .run ∧ t.tb = u.tb)
    ∧ (PortServes s f (.only [.run, .doze, .hold, .limp]) →
      (u.testRuns = true ∨ u.after ≠ none → exec (.close f) s = reply u 0x42 3 [])
      ∧ (u.testRuns = false → u.after = none → u.dozeAsk = true → exec (.close f) s = .next { u with after := some (.close f) })
      ∧ (u.testRuns = false → u.after = none → u.dozeAsk = false → ∃ t : State, exec (.close f) s = reply t 0x42 0 [] ∧ t.mode = .closing
        ∧ (t.closeStep = 1 ∨ t.closeStep = 2)
        ∧ ((∀ h, h < 8 → (u.head h).run = 0) → t.closeStep = 2 ∧ ∀ l, l < 4 → (t.link l).up = false)))
    ∧ (PortServes s f (.only [.standby, .service]) →
      (∃ t : State, exec (.reboot f (flags :: payload)) s = .next t ∧ t.port.session = none ∧ t.armed = true
        ∧ t.serviceAsk = (s.serviceAsk || flags.getLsbD 0) ∧ t.clerkUp = false ∧ (t.mode = .standby ∨ t.mode = .service))
      ∧ exec (.reboot f []) s = reply u 0x43 5 [])
    ∧ (PortServes s f (.only [.run]) →
      (∀ i : Byte, i.toNat < 8 → u.engineBusy = true → exec (.test f [0, i]) s = reply u 0x44 3 [])
      ∧ (∀ i : Byte, i.toNat < 8 → u.engineBusy = false → ∃ t : State, exec (.test f [0, i]) s = .next t
        ∧ t.jm.testing = some i.toNat ∧ t.port.waiting = some f)
      ∧ (∀ i : Byte, i.toNat < 15 → u.testRuns = false → u.noSpare = false → ∃ t : State, exec (.test f [1, i]) s = .next t
        ∧ t.rot.phase = 1 ∧ t.rot.bank = i.toNat ∧ t.port.waiting = some f)
      ∧ (payload.length < 2 → exec (.test f payload) s = reply u 0x44 5 []))
    ∧ (PortServes s f (.only [.opening, .run, .doze, .hold, .limp]) →
      exec (.settingsConfirm f) s = reply u.settingsConfirm 0x45 0 [])

/-- PATCH_BEGIN, PATCH_DATA, PATCH_END, PATCH_ABORT, PLAN_STAGE, CARD_BEGIN and CARD_DATA (R553 to R561): the target slot is erased and
EMPTY; a COPY record brings bytes of the base slot, an ADD record adds its bytes to them, and bytes past the slot are discarded; the
end makes the target STAGED and preferred; a plan image that passes its checks is staged; a card's area is erased and written. -/
def Obligations.PatchesPlansAndCards : Prop :=
  ∀ (s : State) (f : Frame) (payload d : List Byte) (base slot w h : Nat) (src n : Word),
    let u := s.portWake
    let reply (t : State) (cmd status : Nat) (bytes : List Byte) : Host.Outcome State Fault Refusal :=
      .next (t.emit (.tapin cmd f.tag.toNat f.session.toNat status bytes))
    let flash (t : State) (a : Nat) : Byte := (t.flashBytes a 1).headD 0
    let old (i : Nat) : Byte := if src.toNat + i < 0x7FFF000 then flash u (base * 0x8000000 + src.toNat + i) else 0xFF
    (PortServes s f .every → s.mode ≠ .service → u.mode = s.mode → u.slot = some base → base < 2 →
      ∃ t : State, exec (.patchBegin f payload) s = reply t 0x20 0 [] ∧ t.port.patch = some (1 - base, 0) ∧ t.port.base = base
        ∧ t.slotState (1 - base) = 0
        ∧ (∀ a, (1 - base) * 0x8000000 ≤ a → a < (1 - base) * 0x8000000 + 0x7FFF000 → flash t a = 0xFF)
        ∧ ∀ a, base * 0x8000000 ≤ a → a < base * 0x8000000 + 0x8000000 → flash t a = flash u a)
    ∧ (PortServes s f .every → u.port.patch = none →
      exec (.patchData f payload) s = reply u 0x21 5 [] ∧ exec (.patchEnd f payload) s = reply u 0x22 5 []
      ∧ exec (.patchAbort f) s = reply u 0x23 5 [])
    ∧ (PortServes s f .every → u.port.patch = some (slot, w) → u.port.base = base → slot < 2 → base < 2 →
      (u.port.stream = [] →
        (∃ t : State, exec (.patchData f ([1, 0, 0, 0] ++ leBytes 4 src.toNat ++ leBytes 4 n.toNat)) s = reply t 0x21 0 []
          ∧ t.port.patch = some (slot, w + n.toNat) ∧ t.port.stream = []
          ∧ ∀ i, i < n.toNat → w + i < 0x7FFF000 → flash t (slot * 0x8000000 + w + i) = old i)
        ∧ (d.length < 2 ^ 32 → ∃ t : State,
          exec (.patchData f ([2, 0, 0, 0] ++ leBytes 4 src.toNat ++ leBytes 4 d.length ++ d)) s = reply t 0x21 0 []
          ∧ t.port.patch = some (slot, w + d.length) ∧ t.port.stream = []
          ∧ ∀ i, i < d.length → w + i < 0x7FFF000 → flash t (slot * 0x8000000 + w + i)
            = (if src.toNat = 0xFFFFFFFF then 0 else old i) + d.getD i 0)
        ∧ (payload.length < 12 → exec (.patchData f payload) s
          = reply { u with port := { u.port with stream := payload } } 0x21 0 []))
      ∧ (∃ t : State, exec (.patchEnd f payload) s = reply t 0x22 0 [] ∧ t.port.patch = none ∧ t.slotState slot = 1
        ∧ t.slotPref slot = true ∧ t.slotPref (1 - slot) = false)
      ∧ (∃ t : State, exec (.patchAbort f) s = reply t 0x23 0 [] ∧ t.port.patch = none ∧ t.port.session = u.port.session
        ∧ t.mem = u.mem))
    ∧ (PortServes s f .notService →
      (u.testRuns = true → exec (.planStage f payload) s = reply u 0x30 3 [])
      ∧ (∀ p, u.testRuns = false → planOfImage payload = some p →
        (p.refusal = none → ∃ t : State, exec (.planStage f payload) s = reply t 0x30 0 [] ∧ t.staged = some p ∧ t.plan = u.plan)
        ∧ ∀ r, p.refusal = some r → ∃ t : State, exec (.planStage f payload) s = reply t 0x30 7 (leBytes 1 r)
          ∧ t.staged = u.staged ∧ t.plan = u.plan)
      ∧ (∀ b : Byte, b.toNat < 8 → ∃ t : State, exec (.cardBegin f (b :: payload)) s = reply t 0x31 0 []
        ∧ t.port.card = some b.toNat
        ∧ ∀ a, 0x10000000 + b.toNat * 0x2000000 ≤ a → a < 0x10000000 + (b.toNat + 1) * 0x2000000 → flash t a = 0xFF)
      ∧ (∀ b : Byte, 8 ≤ b.toNat → exec (.cardBegin f (b :: payload)) s = reply u 0x31 5 [])
      ∧ (u.port.card = some h → h < 8 → n.toNat + d.length ≤ 0x2000000 → ∃ t : State,
        exec (.cardData f (leBytes 4 n.toNat ++ d)) s = reply t 0x32 0 []
        ∧ (∀ i, i < d.length → flash t (0x10000000 + h * 0x2000000 + n.toNat + i) = d.getD i 0)
        ∧ ∀ a, (a < 0x10000000 + h * 0x2000000 ∨ 0x10000000 + (h + 1) * 0x2000000 ≤ a) → flash t a = flash u a)
      ∧ (u.port.card = none → exec (.cardData f payload) s = reply u 0x32 5 []))

/-! ### Heads: beams, fetches, staging, flips -/

/-- HEAD_START, HEAD_STOP, HEAD_STOP_IMMEDIATE and PRESENT_GO (R279 to R282, R305): a start of a stopped head runs the timing
checks in order, leaves the first that fails in CFG, and copies the timing registers where none fails; a latched head refuses a
start with CFG 7, running or not; a stop cancels a start under way, and asks a running head to stop at its frame's end or at once;
PRESENT.GO is an edge where SYNC_CTL.SRC selects it. -/
def Obligations.HeadStartsAndStops : Prop :=
  ∀ (s : State) (r : Requester) (h : HeadId),
    let a := s.arrived r
    let q := a.head h.val
    let ctl := kHead h.val 0x1000
    let stat := kHead h.val 0x1004
    let u (v : Word) : State := a.store ctl v 15
    let code := timingCheck (a.timingRegs h.val) (a.headReady h.val)
    q.waitFab = [] → q.waitCore = [] →
    (Served s r ctl →
      (q.run = 0 → q.latched = false → a.inPsr h.val = false →
        (code ≠ 0 → exec (.headStart r h) s = .next ((u 1).setF stat 23 16 code))
        ∧ (code = 0 → ∃ t : State, exec (.headStart r h) s = .next t ∧ t.fld stat 23 16 = 0 ∧ (t.head h.val).run = 1
          ∧ (t.head h.val).copy = a.timingRegs h.val ++ [a.rd (kHead h.val 0x1040)] ∧ t.mem = a.mem))
      ∧ (∀ b, q.latched = true → a.plan.headBench h.val = some b →
        exec (.headStart r h) s = .next (((u 1).setF stat 23 16 7).ignoredStart b))
      ∧ (q.latched = false → q.run = 1 ∨ (q.run = 0 ∧ a.inPsr h.val = true) → exec (.headStart r h) s = .next (u 1))
      ∧ (q.latched = false → q.run = 2 → ∃ t : State, exec (.headStart r h) s = .next t
        ∧ t.head h.val = { q with stopAsk := if q.stopAsk = 1 then 0 else q.stopAsk } ∧ t.regs = (u 1).regs)
      ∧ (q.run = 0 → a.inPsr h.val = false →
        exec (.headStop r h) s = .next ((u 0).setHead h.val { q with psrHeld := false })
        ∧ exec (.headStopImmediate r h) s = .next ((u 2).setHead h.val { q with psrHeld := false }))
      ∧ (q.run = 0 → a.inPsr h.val = true → (∃ t : State, exec (.headStop r h) s = .next t ∧ t.inPsr h.val = false)
        ∧ ∃ t : State, exec (.headStopImmediate r h) s = .next t ∧ t.inPsr h.val = false)
      ∧ (q.run = 1 → (∃ t : State, exec (.headStop r h) s = .next t ∧ (t.head h.val).run = 0 ∧ t.regs = (u 0).regs)
        ∧ ∃ t : State, exec (.headStopImmediate r h) s = .next t ∧ (t.head h.val).run = 0 ∧ t.regs = (u 2).regs)
      ∧ (q.run = 2 → (∃ t : State, exec (.headStop r h) s = .next t ∧ (t.head h.val).run = 2
          ∧ (t.head h.val).stopAsk = (if q.stopAsk = 2 then 2 else 1) ∧ t.regs = (u 0).regs ∧ t.mem = a.mem)
        ∧ ∃ t : State, exec (.headStopImmediate r h) s = .next t ∧ (t.head h.val).run = 2 ∧ (t.head h.val).stopAsk = 2
          ∧ t.regs = (u 2).regs ∧ t.mem = a.mem))
    ∧ (Served s r (kHead h.val 0x1048) → a.syncSrc h.val = 5 → q.moving = true →
      (a.bit (kSync h.val) 30 = false → exec (.presentGo r h) s = .next (a.setB (kSync h.val) 30 true))
      ∧ (a.bit (kSync h.val) 30 = true → exec (.presentGo r h) s = .next (a.incSat (kSync h.val) 7 0)))
    ∧ (Served s r (kHead h.val 0x1048) → a.syncSrc h.val ≠ 5 → exec (.presentGo r h) s = .next a)

/-- BEAMS_START, RENDER_LINE_BOUNDARY, SPAN_BOUNDARY, SCAN_LINE_BOUNDARY and SCAN_LINE_ACTIVE_END (R163, R165, R167, R281, R284,
R291, R292): the beams start RLEAD lines apart; the render beam goes on by one line, and to line 0 after VTOTAL lines where
nothing extends the frame, where an edge has latched (one of REF_HEAD in the same tick may count from the next boundary, which is
free: log 61), in a free run, or at line VTOTAL_MAX; the scan beam takes the lines in their order; a stop that is due stops both
beams; each active line has its CRC, and the last one makes the frame's. -/
def Obligations.BeamsCrossTheirLines : Prop :=
  ∀ (s : State) (h : HeadId) (view : AssayView) (fails : Bool),
    let q := s.head h.val
    let u := (s.oneClock (if q.ahead.length = q.rlead then [] else q.fired)
      fun s => (((s.collisionReport h.val).syncApply h.val).refHold h.val).2).1
    let wraps := u.wraps h.val (q.line + 1)
    let due := q.ahead.length = q.rlead ∧ q.stopDue = true
    let crc := lineCrc (encodeLine (q.timing 6) (s.scanPixels h.val))
    let crcs := (if q.scan = q.vactStart then [] else q.lineCrcs) ++ [crc]
    q.waitFab = [] → q.waitCore = [] → q.copy.length = 8 →
    (wraps = true ↔ q.vtotal ≤ q.line + 1 ∧ (u.syncSrc h.val = 0 ∨ u.bit (kSync h.val) 31 = true ∨ u.bit (kSync h.val) 30 = true
      ∨ q.line + 1 = (u.head h.val).vtotalMax))
    ∧ (q.run = 1 → ∃ t : State, exec (.beamsStart h) s = .next t ∧ (t.head h.val).run = 2 ∧ (t.head h.val).line = q.rlead
      ∧ (t.head h.val).scan = 0 ∧ (t.head h.val).fnum = (q.fnum + 1) % 2 ^ 32 ∧ (t.head h.val).ahead.length = q.rlead)
    ∧ (q.moving = true → q.ahead.length ≤ q.rlead → ¬due →
      (wraps = false → ∃ t : State, exec (.renderLineBoundary h view) s = .next t ∧ (t.head h.val).line = q.line + 1
        ∧ (t.head h.val).span = 0 ∧ (t.head h.val).fnum = q.fnum ∧ (t.head h.val).ahead = q.ahead ++ [(q.line + 1, q.fnum)])
      ∧ (wraps = true → ∃ t : State, exec (.renderLineBoundary h view) s = .next t ∧ (t.head h.val).line = 0
        ∧ (t.head h.val).span = 0 ∧ (t.head h.val).fnum = (q.fnum + 1) % 2 ^ 32 ∧ (t.head h.val).frameLen = q.line + 1
        ∧ (t.head h.val).ahead = q.ahead ++ [(0, (q.fnum + 1) % 2 ^ 32)]))
    ∧ (q.moving = true → q.span + 1 < q.nspan → ∃ t : State, exec (.spanBoundary h) s = .next t
      ∧ (t.head h.val).span = q.span + 1 ∧ (t.head h.val).line = q.line)
    ∧ (q.moving = true → q.span + 1 = q.nspan →
      exec (.spanBoundary h) s = .next (s.setHead h.val { q with span := q.nspan }))
    ∧ (q.nspan ≤ q.span → exec (.spanBoundary h) s = .next s)
    ∧ (∀ l f rest, q.moving = true → q.rlead ≤ q.ahead.length → ¬due → q.ahead = (l, f) :: rest → ∃ t : State,
      exec (.scanLineBoundary h) s = .next t ∧ (t.head h.val).scan = l ∧ (t.head h.val).scanFnum = f
      ∧ (t.head h.val).ahead = rest ∧ (t.head h.val).line = q.line)
    ∧ (q.moving = true → due →
      (∃ t : State, exec (.renderLineBoundary h view) s = .next t ∧ (t.head h.val).run = 0 ∧ (t.head h.val).ahead = []
        ∧ t.bit (kHead h.val 0x1008) 6 = true)
      ∧ ∃ t : State, exec (.scanLineBoundary h) s = .next t ∧ (t.head h.val).run = 0 ∧ (t.head h.val).ahead = []
        ∧ t.bit (kHead h.val 0x1008) 6 = true)
    ∧ (q.moving = true → q.activeLine q.scan = true → ∃ t : State, exec (.scanLineActiveEnd ⟨h, fails⟩) s = .next t
      ∧ (t.head h.val).lineCrcs = crcs ∧ (s.capturing h.val = false → t.mem = s.mem)
      ∧ (q.scan + 1 = q.vactStart + q.vact → t.rd (kHead h.val 0x1060) = BitVec.ofNat 32 (crc32c (crcs.flatMap (leBytes 4)))
        ∧ t.bit (kHead h.val 0x1008) 4 = true))
    ∧ (q.moving = true → q.activeLine q.scan = false →
      exec (.scanLineActiveEnd ⟨h, fails⟩) s = .next (s.setHead h.val { q with span := q.nspan }))
    ∧ (q.moving = false → exec (.renderLineBoundary h view) s = .next s ∧ exec (.spanBoundary h) s = .next s
      ∧ exec (.scanLineBoundary h) s = .next s ∧ exec (.scanLineActiveEnd ⟨h, fails⟩) s = .next s)

/-- SORT_DESCRIPTOR_READ, PE_FETCH_RETURN, BITMAP_FETCH_RETURN and SURFACE_READ_RETURN (R198, R212 to R214, R223, R225, R231, R260,
R271, R310): a fetch from what the bench does not hold counts in DECODE_HOLE, one that brings an uncorrectable word counts in the
plane's UE field, and every pixel that either supplies is transparent, drawn already or not; a good one changes nothing but for the
words that it mends, and a corrected error counts in its bench's CE and changes nothing else; an error in palette RAM is reported,
an uncorrectable one marking the entry, and one in a sprite store makes the descriptor act as a skipped one (the syndrome of the
palette's note, the entry, is the model's choice: log 89); a sort pass takes an enabled descriptor of a supported format to the back
store, and skips and counts one that it cannot read; uncorrectable surface data shows BG and ends the surface from the next line. -/
def Obligations.HeadFetchesReturn : Prop :=
  ∀ (s : State) (h : HeadId) (b : Nat) (addr at_ : Addr) (tn p : Fin 4) (m : Fin 65536) (c d : Fin 4096) (e : Fin 16384)
    (idx : Fin 65536) (back ue : Bool) (o : Option (Addr × EccFound)),
    let q := s.head h
    let a := addr.toNat
    let n := m.val
    let held : Bool := s.rangeHeld b a n
    let good : State := (s.upset o).mends a n
    let seen : State := good.readUe a n
    let word := at_.toNat - at_.toNat % eccSize at_.toNat
    let spr := kPe h.val 0x10
    let tile (o : Option (Addr × EccFound)) := exec (.peFetchReturn h (.tile tn) addr ⟨m, o⟩) s
    let sprite (o : Option (Addr × EccFound)) := exec (.peFetchReturn h .sprite addr ⟨m, o⟩) s
    let bitmap (o : Option (Addr × EccFound)) := exec (.bitmapFetchReturn h p addr ⟨m, o⟩) s
    let peCut (t : State) : State := t.peSpoil h.val a n
    let bmCut (t : State) : State := t.bmSpoil h.val p.val a n
    let ours (b : LineBuf) : Prop := b.line = q.line ∧ b.fnum = q.fnum
    let peClear (t : State) : Prop := (a, n) ∈ (t.head h.val).peBad ∧ ∀ b ∈ (t.head h.val).bufs, ours b → ∀ c ∈ b.cols,
      (∀ x ∈ c.tiles, cameFrom x.2 a n = true → x.1.a = 0) ∧ ∀ x ∈ c.spr, cameFrom x.2.2 a n = false
    let bmClear (t : State) : Prop := ∀ l, q.fetchLine q.line = some l →
      (∀ r ∈ (t.head h.val).bm, r.plane = p.val → r.line = l → ∀ row ∈ r.rows, ∀ x < row.2.length,
        cameFrom (r.buf.parts r.posX r.posY row.1 x) a n = true → row.2[x]? = some none)
      ∧ (l = q.line → ∀ b ∈ (t.head h.val).bufs, ours b → ∀ c ∈ b.cols, ∀ y ∈ c.slots, ∀ taps wx wy pm la rule,
        y.2 = .bitmap p.val taps wx wy pm la rule → ∀ x ∈ taps, cameFrom x.from_ a n = true → x.px = (0, 0, 0, 0))
    let pal := kPe h.val (0x10000 + 4 * e.val)
    let palRead (o : Option (Addr × EccFound)) := exec (.peFetchReturn h (.palette e) addr ⟨m, o⟩) s
    let store (q : Head) : List Sprite := if back then q.back else q.front
    let at32 := (q.sort.base + 32 * q.sort.next) % 2 ^ 40
    let sorts : Prop := q.moving = true ∧ q.stopAsk ≠ 2 ∧ q.sort.outcome = 1 ∧ q.sort.quota ≠ 0
    let w := descWords (s.bytes at32 32)
    let new : Sprite := { idx := q.sort.next, words := w, bad := false }
    let takes := nbit (new.w 0).toNat 31 = true ∧ new.fmt < 8
    let steps (t : State) : Prop := (t.head h.val).sort.next = q.sort.next + 1 ∧ (t.head h.val).sort.quota = q.sort.quota - 1
      ∧ (t.head h.val).sort.outcome = (if q.sort.next + 1 = q.sort.count then 2 else 1)
      ∧ (t.head h.val).front = q.front ∧ t.mem = s.mem
    let surf := s.surfAddr h.val (q.line - q.vactStart) c.val
    let len := (d.val + 1 - c.val) * surfPx q.surfLinear
    s.plan.headBench h.val = some b →
    (q.moving = true → n ≠ 0 →
      (held = true → good.marked a n = false → tile o = .next good ∧ sprite o = .next good ∧ bitmap o = .next good)
      ∧ (held = true → good.marked a n = true →
        tile o = .next ((peCut seen).incSat (kTile h.val tn.val 0x40) 23 16)
        ∧ sprite o = .next ((peCut seen).incSat spr 15 8)
        ∧ bitmap o = .next ((bmCut seen).incSat (kMb h.val p.val 0x38) 23 16))
      ∧ (held = false → tile none = .next (peCut (s.hole b)) ∧ sprite none = .next ((peCut (s.hole b)).incSat spr 15 8)
        ∧ bitmap none = .next (bmCut (s.hole b)))
      ∧ (held = false ∨ good.marked a n = true → (∃ t : State, tile o = .next t ∧ peClear t)
        ∧ (∃ t : State, sprite o = .next t ∧ peClear t) ∧ ∃ t : State, bitmap o = .next t ∧ bmClear t)
      ∧ (held = true → s.marked a n = false → s.mends a n = s →
        tile none = .next s ∧ sprite none = .next s ∧ bitmap none = .next s
        ∧ (a ≤ at_.toNat → at_.toNat < a + n → at_.toNat < 0x20003C0000 →
          tile (some (at_, .corrected)) = .next (s.correctedIn word)
          ∧ sprite (some (at_, .corrected)) = .next (s.correctedIn word)
          ∧ bitmap (some (at_, .corrected)) = .next (s.correctedIn word)
          ∧ (s.correctedIn word).head h.val = q ∧ (s.correctedIn word).mem = s.mem ∧ (s.correctedIn word).marks = s.marks
          ∧ (∀ k, s.eccHolder word = some k → k < 8 →
            (s.correctedIn word).fld (kMem k 0) 31 16 = min (s.fld (kMem k 0) 31 16 + 1) 65535
            ∧ (s.correctedIn word).fld (kMem k 0) 15 0 = s.fld (kMem k 0) 15 0)
          ∧ (∃ t : State, tile (some (at_, .uncorrectable)) = .next t ∧ t.marked at_.toNat 1 = true ∧ peClear t)
          ∧ (∃ t : State, sprite (some (at_, .uncorrectable)) = .next t ∧ t.marked at_.toNat 1 = true ∧ peClear t)
          ∧ ∃ t : State, bitmap (some (at_, .uncorrectable)) = .next t ∧ t.marked at_.toNat 1 = true ∧ bmClear t)))
    ∧ (q.moving = false ∨ n = 0 → tile none = .next s ∧ sprite none = .next s ∧ bitmap none = .next s)
    ∧ palRead none = .next s
    ∧ (s.marked pal 4 = false →
      palRead (some (at_, .corrected)) = .next (s.report 0x09 (0x0400 + h.val) b e.val)
      ∧ palRead (some (at_, .uncorrectable)) = .next ((s.mark pal).report 0x0A (0x0400 + h.val) b e.val))
    ∧ (s.marked pal 4 = true → palRead (some (at_, .corrected)) = .next s ∧ palRead (some (at_, .uncorrectable)) = .next s)
    ∧ exec (.peFetchReturn h (.store back idx) addr ⟨m, none⟩) s = .next s
    ∧ ((store q).any (fun x => x.idx == idx.val && !x.bad) = true → ∃ t : State,
      exec (.peFetchReturn h (.store back idx) addr ⟨m, some (at_, .uncorrectable)⟩) s = .next t
      ∧ (∀ x ∈ store (t.head h.val), x.idx = idx.val → x.bad = true) ∧ t.mem = s.mem)
    ∧ (s.surfValid h.val = false → exec (.surfaceReadReturn h c d ue) s = .next s)
    ∧ (s.surfValid h.val = true → ue = false → s.marked surf len = false →
      exec (.surfaceReadReturn h c d ue) s = .next (s.mends surf len))
    ∧ (∀ buf, s.surfValid h.val = true → ue = true ∨ s.marked surf len = true →
      (q.bufs.find? fun x => x.line == q.line && x.fnum == q.fnum && x.served) = some buf → ∃ t : State,
      exec (.surfaceReadReturn h c d ue) s = .next t ∧ (t.head h.val).invalNext = true
      ∧ (q.line, c.val, d.val) ∈ (t.head h.val).surfBad ∧ t.mem = s.mem
      ∧ ∀ x ∈ (t.head h.val).bufs, ours x → ∀ y ∈ x.cols, c.val ≤ y.x → y.x ≤ d.val → y.row = some y.bg)
    ∧ (sorts → s.rangeHeld b at32 32 = true → s.marked at32 32 = false →
      ∃ t : State, exec (.sortDescriptorRead h) s = .next t ∧ steps t
      ∧ (takes → (t.head h.val).back = q.back ++ [new]) ∧ (¬takes → (t.head h.val).back = q.back))
    ∧ (sorts → s.rangeHeld b at32 32 = true → s.marked at32 32 = true →
      ∃ t : State, exec (.sortDescriptorRead h) s = .next t ∧ steps t ∧ (t.head h.val).back = q.back
      ∧ t.fld spr 15 8 = min (s.fld spr 15 8 + 1) 255)
    ∧ (sorts → s.rangeHeld b at32 32 = false →
      ∃ t : State, exec (.sortDescriptorRead h) s = .next t ∧ steps t ∧ (t.head h.val).back = q.back
      ∧ t.fld spr 7 0 = min (s.fld spr 7 0 + 1) 255
      ∧ t.rdN (kBench b 0x20) = min (s.rdN (kBench b 0x20) + 1) (2 ^ 32 - 1))
    ∧ (¬sorts → exec (.sortDescriptorRead h) s = .next s)

/-- STAGED_WRITE, PALETTE_WRITE and SHADOW_WRITE of a head's register (R172 to R178, R261): a staged write enters the set of its
landing boundary while the beams run, and changes the register at once while they stand; one that finds its set full counts in
STALLS and waits at its port, a line core's keeping the core there, and one that finds an earlier write waiting at the fabric port
waits behind it; a palette entry and a shadow register take their value at once, and no active group changes. -/
def Obligations.StagedPaletteAndShadowWrites : Prop :=
  ∀ (s : State) (r : Requester) (h : HeadId) (a : Addr) (key : Nat) (span : Bool) (v : Double) (row : RegRow),
    let u := s.arrived r
    let q := u.head h
    let fab := ownHead r != some h.val
    let port := if fab then q.waitFab else q.waitCore
    let w := BitVec.ofNat 32 v.toNat
    let e : Pend := { key := key, val := w, be := 15, span := span, fabric := fab, order := 0, who := r, stalled := false }
    let new := storeWord (u.rd key) w 15 row.rw row.w1c
    let set := if spanAttr key span then q.spanSet else q.lineSet
    let staged := row.eff = .staged ∨ row.eff = .stagedLine
    let core := coreNum (.line h)
    Served s r a.toNat → 0x3001000000 ≤ a.toNat → a.toNat < 0x3003000000 → a.toNat % 4 = 0 →
    headAt a.toNat = (h.val, key, span) → regRow key = some row →
    (port = [] → staged →
      (q.moving = false → ∃ t : State, exec (.stagedWrite r a 4 v) s = .next t ∧ t.rd key = new ∧ t.mem = u.mem)
      ∧ (∀ l, q.moving = true → enterSet set { e with order := q.order } = some l → ∃ t : State,
        exec (.stagedWrite r a 4 v) s = .next t ∧ t.regs = u.regs ∧ t.mem = u.mem
        ∧ t.head h.val = if spanAttr key span then { q with spanSet := l, order := q.order + 1 }
          else { q with lineSet := l, order := q.order + 1 })
      ∧ (q.moving = true → enterSet set { e with order := q.order } = none → ∃ t : State,
        exec (.stagedWrite r a 4 v) s = .next t ∧ t.rd key = u.rd key
        ∧ t.fld (kCore core 0x4C) 31 16 = min (u.fld (kCore core 0x4C) 31 16 + 1) 65535
        ∧ (t.head h.val).waitFab = (if fab then [{ e with stalled := true }] else q.waitFab)
        ∧ (t.head h.val).waitCore = (if fab then q.waitCore else [{ e with stalled := true }])
        ∧ (fab = false → (u.core core).wait = .none → (t.core core).wait = .port)
        ∧ (t.head h.val).lineSet = q.lineSet ∧ (t.head h.val).spanSet = q.spanSet ∧ t.mem = u.mem))
    ∧ (port ≠ [] → fab = true → staged → ∃ t : State, exec (.stagedWrite r a 4 v) s = .next t
      ∧ t.head h.val = { q with waitFab := q.waitFab ++ [e] } ∧ t.regs = u.regs ∧ t.mem = u.mem)
    ∧ (port = [] → isPal h.val key = true → ∃ t : State, exec (.paletteWrite r a 4 v) s = .next t ∧ t.rd key = new
      ∧ (∀ k, k ≠ key → t.rd k = u.rd k) ∧ key ∉ t.marks ∧ (t.head h.val).writeInval = true
      ∧ (q.moving = true → (t.head h.val).pals = q.pals ++ [e]) ∧ t.mem = u.mem)
    ∧ (port = [] → row.eff = .shadow → ∃ t : State, exec (.shadowWrite r a 4 v) s = .next t ∧ t.rd key = new
      ∧ (∀ k, k ≠ key → t.rd k = u.rd k) ∧ t.head h.val = q ∧ t.mem = u.mem)

/-- COMMIT, FENCE_ARM and FLAT_INVAL (R262 to R265, R268): COMMIT makes planes pending, and while the beams stand a pending plane
whose fence allows it latches its shadow group at once; a commit of a new plane between the commit line and the first active line
counts as late (both counted round the frame with its own length, R10, R277); arming a fence ends its signal; FLAT_INVAL waits for
the next line boundary. -/
def Obligations.CommitFencesAndInvalidation : Prop :=
  ∀ (s : State) (r : Requester) (h : HeadId) (p : Fin 4) (planes : BitVec 4) (en : Bool) (c : BellId),
    let a := s.arrived r
    let q := a.head h.val
    let stat := kHead h.val 0x14
    let pends (p : Nat) : Bool := a.bit stat p || planes.getLsbD p
    let free (p : Nat) : Bool := !a.bit (kMb h.val p 4) 30 || a.bit (kMb h.val p 0x38) 31
    let isNew := ∃ p, p < 4 ∧ planes.getLsbD p = true ∧ a.bit stat p = false
    let lead := q.rlead + q.bpref
    q.waitFab = [] → q.waitCore = [] →
    (lead ≤ q.vactStart → q.vactStart < q.vtotal →
      (q.pastCommit = true ↔ q.vactStart - lead ≤ q.scanNow ∧ q.scanNow < q.vactStart))
    ∧ (q.vactStart < lead → lead < q.vactStart + q.frameLen → q.scanAt.2 ≠ q.fnum →
      (q.pastCommit = true ↔ q.vactStart + q.frameLen - lead ≤ q.scanNow ∨ q.scanNow < q.vactStart))
    ∧ (Served s r (kHead h.val 0x10) → q.moving = true → ∃ t : State, exec (.commit r h planes) s = .next t
      ∧ (∀ p, p < 4 → t.bit stat p = pends p) ∧ t.head h.val = q ∧ t.mem = a.mem
      ∧ (isNew → q.pastCommit = true →
        t.rdN (kHead h.val 0x18) = min (a.rdN (kHead h.val 0x18) + 1) (2 ^ 32 - 1))
      ∧ (¬isNew ∨ q.pastCommit = false → t.rd (kHead h.val 0x18) = a.rd (kHead h.val 0x18)))
    ∧ (Served s r (kHead h.val 0x10) → q.moving = false → ∃ t : State, exec (.commit r h planes) s = .next t
      ∧ (∀ p, p < 4 → pends p = true → free p = true →
        t.mbActive h.val p = a.mbShadow h.val p ∧ t.bit stat p = false)
      ∧ (∀ p, p < 4 → pends p = true → free p = false → t.mbActive h.val p = a.mbActive h.val p ∧ t.bit stat p = true)
      ∧ t.rd (kHead h.val 0x18) = a.rd (kHead h.val 0x18) ∧ t.mem = a.mem)
    ∧ (Served s r (kMb h.val p.val 4) → ∃ t : State, exec (.fenceArm r h p en c) s = .next t
      ∧ t.bit (kMb h.val p.val 0x38) 31 = false ∧ t.bit (kMb h.val p.val 4) 30 = en
      ∧ t.fld (kMb h.val p.val 4) 6 0 = c.val ∧ t.mem = a.mem)
    ∧ (Served s r (kHead h.val 0x20) → ∃ t : State, exec (.flatInval r h) s = .next t
      ∧ t.bit (kHead h.val 0x20) 0 = true ∧ t.head h.val = q ∧ t.mem = a.mem
      ∧ ∀ k, k ≠ kHead h.val 0x20 → t.rd k = a.rd k)

/-! ### Display links, AUX and Panel Self Refresh -/

/-- HPD_PLUG, HPD_UNPLUG, IRQ_HPD, HPD_GLITCH, LINK_TRAINING_DONE, LINK_RETRY_TIMER, LINK_LOST, LINK_RETRAIN and SYNC_EDGE (R283, R286,
R293, R295, R297, R299, R305): a plug trains the link, an unplug takes it down while the beams run on; a training ends up, within the
rates of the TYPE, MAX_RATE and MAX_LANES, or failed, with its reason in FAIL; a lost link, which holds back an entry to Panel Self
Refresh, a retry and RETRAIN train again, and so
does a loss that IRQ_HPD told while the link trained; pulses and ignored pulses count; a reference edge latches in a running head, or
counts in EXTRA, REF_HEAD's in the clock in which its LINE takes 0. -/
def Obligations.LinkAndSyncEvents : Prop :=
  ∀ (s : State) (r : Requester) (h : HeadId) (rate : Fin 16) (lanes : Fin 3) (suLines : Fin 4096) (psr level : Bool) (ref : HeadId)
    (view : AssayView),
    let q := s.head h.val
    let hpd := kHpd h.val
    let stat := kHead h.val 0x1034
    let k := kSync h.val
    let done := exec (.linkTrainingDone h (.trained rate lanes psr suLines)) s
    let code := q.rateKept rate.val
    let p := s.head ref.val
    let u := (s.oneClock (if p.ahead.length = p.rlead then [] else p.fired)
      fun s => (((s.collisionReport ref.val).syncApply ref.val).refHold ref.val).2).1
    let trains (o : Host.Outcome State Fault Refusal) : Prop := ∃ t : State, o = .next t ∧ t.linkSt h.val = 1 ∧ t.mem = s.mem
    let fails (o : Host.Outcome State Fault Refusal) (code : Nat) : Prop :=
      ∃ t : State, o = .next t ∧ t.linkSt h.val = 4 ∧ t.fld stat 7 0 = code ∧ t.mem = s.mem
    let latches (o : Host.Outcome State Fault Refusal) : Prop :=
      (s.bit k 30 = false → ∃ t : State, o = .next t ∧ t.bit k 30 = true ∧ t.fld k 15 0 = s.fld k 15 0 ∧ t.mem = s.mem)
      ∧ (s.bit k 30 = true → ∃ t : State, o = .next t ∧ t.fld k 7 0 = min (s.fld k 7 0 + 1) 255 ∧ t.bit k 30 = true)
    (q.plugged = false → s.mode.mainOn = true → ∃ t : State, exec (.hpdPlug h) s = .next t ∧ (t.head h.val).plugged = true
      ∧ t.linkSt h.val = 1 ∧ t.bit stat 16 = true ∧ t.bit (kHead h.val 0x1008) 0 = true
      ∧ t.fld hpd 15 8 = min (s.fld hpd 15 8 + 1) 255)
    ∧ (q.plugged = true ∨ s.mode.mainOn = false → exec (.hpdPlug h) s = .next s)
    ∧ (q.plugged = true → ∃ t : State, exec (.hpdUnplug h) s = .next t ∧ (t.head h.val).plugged = false
      ∧ t.linkSt h.val = 0 ∧ t.sending h.val = false ∧ (t.head h.val).run = q.run ∧ t.bit (kHead h.val 0x1008) 0 = true
      ∧ (t.head h.val).psrHeld = false)
    ∧ (q.plugged = false → exec (.hpdUnplug h) s = .next s ∧ exec (.irqHpd h level) s = .next s)
    ∧ (q.plugged = true → exec (.irqHpd h false) s = .next ((s.incSat hpd 7 0).headEvt h.val 1))
    ∧ (q.plugged = true → s.linkSt h.val = 2 ∨ s.linkSt h.val = 3 →
      trains (exec (.irqHpd h true) s) ∧ trains (exec (.linkLost h) s))
    ∧ (q.plugged = true → s.linkSt h.val = 2 ∨ s.linkSt h.val = 3 → q.stopAsk = 3 → s.dozeAsk = false →
      ∃ t : State, exec (.linkLost h) s = .next t ∧ (t.head h.val).stopAsk = 0 ∧ (t.head h.val).psrHeld = true)
    ∧ (q.plugged = true → s.linkSt h.val = 1 →
      exec (.irqHpd h true) s = .next (((s.incSat hpd 7 0).headEvt h.val 1).setHead h.val { q with irqLost := true }))
    ∧ (q.plugged = true → s.linkSt h.val = 0 ∨ 3 < s.linkSt h.val →
      exec (.irqHpd h true) s = .next ((s.incSat hpd 7 0).headEvt h.val 1))
    ∧ (s.linkSt h.val ≠ 2 → s.linkSt h.val ≠ 3 → exec (.linkLost h) s = .next s)
    ∧ exec (.hpdGlitch h) s = .next (s.incSat hpd 31 16)
    ∧ (s.linkSt h.val = 1 →
      (q.irqLost = false → ∃ t : State, done = .next t ∧ t.linkSt h.val = 2 ∧ t.fld stat 23 20 = code
        ∧ (s.isEdp h.val = true → code ≤ 7) ∧ (s.isEdp h.val = false → 3 ≤ code ∧ code ≤ 9)
        ∧ t.fld stat 19 18 = min lanes.val (min 2 (wfld q.linkNow 2 1)) ∧ (t.bit stat 17 = true ↔ 8 ≤ code) ∧ t.fld stat 7 0 = 0
        ∧ (t.head h.val).psrSink = (psr && s.isEdp h.val) ∧ (t.head h.val).suLines = suLines.val ∧ t.mem = s.mem)
      ∧ (q.irqLost = true → q.plugged = true → trains done)
      ∧ fails (exec (.linkTrainingDone h .failCr) s) 2 ∧ fails (exec (.linkTrainingDone h .failAux) s) 1)
    ∧ (s.linkSt h.val ≠ 1 → exec (.linkTrainingDone h .failCr) s = .next s ∧ exec (.linkTrainingDone h .failAux) s = .next s
      ∧ done = .next s)
    ∧ (s.linkSt h.val = 4 → q.plugged = true → trains (exec (.linkRetryTimer h) s))
    ∧ (s.linkSt h.val ≠ 4 → exec (.linkRetryTimer h) s = .next s)
    ∧ (Served s r (kHead h.val 0x1030) → ((s.arrived r).head h.val).waitFab = [] →
      ((s.arrived r).head h.val).waitCore = [] → ∃ t : State, exec (.linkRetrain r h) s = .next t
      ∧ ((s.arrived r).linkSt h.val ≠ 0 → (s.arrived r).linkSt h.val ≠ 5 → ((s.arrived r).head h.val).plugged = true →
        t.linkSt h.val = 1)
      ∧ ((s.arrived r).linkSt h.val = 0 ∨ (s.arrived r).linkSt h.val = 5 → t.linkSt h.val = (s.arrived r).linkSt h.val))
    ∧ (q.moving = true →
      (s.syncSrc h.val = 1 → q.teLevel ≠ level → level ≠ nbit q.syncCtl.toNat 28 → latches (exec (.syncEdge h (.te level)) s))
      ∧ (s.syncSrc h.val = 2 → q.flkLevel ≠ level → level ≠ nbit q.syncCtl.toNat 28 →
        latches (exec (.syncEdge h (.flkIn level)) s))
      ∧ (p.moving = true → p.ahead.length ≤ p.rlead → ¬(p.ahead.length = p.rlead ∧ p.stopDue = true) →
        u.wraps ref.val (p.line + 1) = true → u.syncSrc h.val = 3 → u.refHead h.val = some ref.val →
        ∃ t : State, exec (.renderLineBoundary ref view) s = .next t ∧ t.bit k 30 = true))
    ∧ exec (.syncEdge h .refHead) s = .next s
    ∧ (s.syncSrc h.val ≠ 2 → exec (.syncEdge h (.flkIn level)) s = .next (s.setHead h.val { q with flkLevel := level }))
    ∧ (s.syncSrc h.val ≠ 1 → exec (.syncEdge h (.te level)) s = .next (s.setHead h.val { q with teLevel := level }))

/-- AUX_GO, AUX_REPLY, PSR_ENTER, PSR_EXIT and PSR_SU_GO (R298, R299, R301): one request at a time; a request with a reserved command
ends at once; a reply leaves its result, and the bytes of a read in the data registers; DEFER, no reply and a malformed one bring up to
seven more tries; a panel that refreshes itself is entered at the frame's end of a head that is sent, and left by EXIT or, for one
frame, by SU_GO. -/
def Obligations.AuxAndSelfRefresh : Prop :=
  ∀ (s : State) (r : Requester) (h : HeadId) (ctl : Word) (bytes : List Byte),
    let a := s.arrived r
    let q := a.head h.val
    let aux := kAux h.val
    let data (t : State) : List Byte := (List.range 4).flatMap fun i => leBytes 4 (t.rdN (kHead h.val (0x1090 + 4 * i)))
    let u := a.store (kHead h.val 0x1080) (setBit ctl 31 true) 15
    let cmd := u.fld (kHead h.val 0x1080) 30 28
    let sends (n : Nat) (t : State) : State := (t.setHead h.val { t.head h.val with auxTries := n }).emit
      (.auxRequest h.val (t.rd (kHead h.val 0x1080))
        (if t.fld (kHead h.val 0x1080) 30 28 % 2 = 0 then (data t).take (t.fld (kHead h.val 0x1080) 27 24 + 1) else []))
    let ends (o : Host.Outcome State Fault Refusal) (result : Nat) : Prop :=
      ∃ t : State, o = .next t ∧ t.bit aux 31 = false ∧ t.fld aux 2 0 = result ∧ t.bit (kHead h.val 0x1008) 5 = true
    let psr := kHead h.val 0x1050
    let w (b : Nat) : State := a.store psr (setBit (s.rd psr) b true) 15
    let quiet := s.bit psr 31 = false ∧ s.bit psr 30 = false ∧ s.bit psr 29 = false
    let mine := s.bit aux 31 = true ∧ s.linkSt h.val ≠ 1
    q.waitFab = [] → q.waitCore = [] →
    (Served s r (kHead h.val 0x1080) →
      (a.bit aux 31 = true → exec (.auxGo r h ctl) s = .next u)
      ∧ (a.bit aux 31 = false → cmd = 2 ∨ cmd = 3 → ends (exec (.auxGo r h ctl) s) 5)
      ∧ (a.bit aux 31 = false → cmd ≠ 2 → cmd ≠ 3 → a.linkSt h.val = 1 →
        exec (.auxGo r h ctl) s = .next ((u.setB aux 31 true).setHead h.val { q with auxTries := 0 }))
      ∧ (a.bit aux 31 = false → cmd ≠ 2 → cmd ≠ 3 → a.linkSt h.val ≠ 1 → exec (.auxGo r h ctl) s
        = .next (sends 0 (u.setB aux 31 true))))
    ∧ (mine → ends (exec (.auxReply h .nack) s) 1 ∧ ends (exec (.auxReply h .noSink) s) 4
      ∧ ends (exec (.auxReply h (.ack bytes)) s) 0)
    ∧ (mine → (s.head h.val).auxTries < 7 →
      let again : Host.Outcome State Fault Refusal := .next (sends ((s.head h.val).auxTries + 1) s)
      exec (.auxReply h .defer) s = again ∧ exec (.auxReply h .timeout) s = again ∧ exec (.auxReply h .malformed) s = again)
    ∧ (mine → 7 ≤ (s.head h.val).auxTries → ends (exec (.auxReply h .defer) s) 2 ∧ ends (exec (.auxReply h .timeout) s) 3
      ∧ ends (exec (.auxReply h .malformed) s) 3)
    ∧ (mine → s.fld (kHead h.val 0x1080) 30 28 % 2 = 1 → ∃ t : State,
      exec (.auxReply h (.ack bytes)) s = .next t
      ∧ data t = (bytes.take (s.fld (kHead h.val 0x1080) 27 24 + 1)
        ++ (data s).drop (bytes.take (s.fld (kHead h.val 0x1080) 27 24 + 1)).length))
    ∧ (s.bit aux 31 = false ∨ s.linkSt h.val = 1 → exec (.auxReply h (.ack bytes)) s = .next s)
    ∧ (Served s r psr → quiet →
      (a.psrOk h.val = true → q.run = 2 → a.inPsr h.val = false →
        (a.sending h.val = true → a.linkSt h.val = 3 → ∃ t : State, exec (.psrEnter r h) s = .next t
          ∧ (t.head h.val).stopAsk = (if q.stopAsk = 0 then 3 else q.stopAsk) ∧ t.regs = (w 31).regs)
        ∧ (¬(a.sending h.val = true ∧ a.linkSt h.val = 3) → ∃ t : State, exec (.psrEnter r h) s = .next t ∧ (t.head h.val).psrHeld = true
          ∧ t.regs = (w 31).regs))
      ∧ (a.psrOk h.val = false ∨ q.run ≠ 2 ∨ a.inPsr h.val = true → exec (.psrEnter r h) s = .next (w 31))
      ∧ (a.psrOk h.val = false → exec (.psrSuGo r h) s = .next (w 29))
      ∧ (a.psrOk h.val = true → a.inPsr h.val = true →
        (∃ t : State, exec (.psrExit r h) s = .next t ∧ (t.head h.val).run = 1 ∧ t.inPsr h.val = false
          ∧ (t.head h.val).copy = a.timingRegs h.val ++ [a.rd (kHead h.val 0x1040)])
        ∧ ((w 29).bit psr 28 = true → a.fld (kHead h.val 0x1054) 11 0 ≤ a.fld (kHead h.val 0x1054) 27 16 →
          ∃ t : State, exec (.psrSuGo r h) s = .next t ∧ (t.head h.val).run = 1 ∧ (t.head h.val).stopAsk = 3
            ∧ (t.head h.val).psrSu = true ∧ t.inPsr h.val = false))
      ∧ (a.inPsr h.val = false → exec (.psrSuGo r h) s = .next (w 29)
        ∧ ∃ t : State, exec (.psrExit r h) s = .next t ∧ t.head h.val = { q with psrHeld := false }
          ∧ t.regs = (w 30).regs))

/-! ### Engines, the journeyman and the daybook -/

/-- MIRROR_COPY_DONE and ENGINE_INTERNAL_CHECK_FAIL (R309, R316 to R318, R335): a copy that completes is noted, and for a stopped head
the hand-over or hand-back it was made for takes effect at once; a failing engine is handed over by a free journeyman, and
otherwise retired, its head going to the safe card, and in either case its planes go transparent; an engine that has failed already
fails no second time; a failing journeyman is retired; an uncorrectable error in the state of another unit of a bench is a UNIT_STATE
report with the unit's status word (R502, R507; that this row carries it, and what stands for a cache's segment and syndrome, is the
model's choice: log 104). -/
def Obligations.EnginesFailAndHandOver : Prop :=
  ∀ (s : State) (h k : HeadId) (e : Fin 8) (c : ChanId) (blk : BlkId) (core : Fin 32) (bench : BenchId),
    let j := s.jm
    let q := s.head h.val
    let done : State := { s with jm := { j with copied := true } }
    let fails (unit : CheckUnit) (holder : Option Nat) (source syn : Nat) : Prop :=
      (∀ b, holder = some b → exec (.engineInternalCheckFail unit) s = .next (s.report 0x14 source b syn))
      ∧ (holder = none → exec (.engineInternalCheckFail unit) s = .next s)
    (j.mirror = some h.val → j.copied = false → q.moving = true → j.started = true →
      exec (.mirrorCopyDone h) s = .next done)
    ∧ (q.moving = true → j.started = false → exec (.mirrorCopyDone h) s = .next s)
    ∧ (j.mirror = some h.val → j.copied = false → q.moving = false →
      (j.handOver = some h.val → ∃ t : State, exec (.mirrorCopyDone h) s = .next t ∧ (t.head h.val).engine = 8
        ∧ t.jm.duty = .stand h.val ∧ t.jm.handOver = none ∧ t.mem = s.mem)
      ∧ (j.handOver ≠ some h.val → j.handBack = some h.val → ∃ t : State, exec (.mirrorCopyDone h) s = .next t
        ∧ (t.head h.val).engine = h.val ∧ t.jm.handBack = none ∧ t.mem = s.mem)
      ∧ (j.handOver ≠ some h.val → j.handBack ≠ some h.val → exec (.mirrorCopyDone h) s = .next done))
    ∧ (j.mirror ≠ some h.val ∨ j.copied = true → exec (.mirrorCopyDone h) s = .next s)
    ∧ ((List.range 8).find? (fun i => (s.head i).engine == e.val) = some h.val → s.badEngines.contains e.val = false →
      (j.duty = .idle → j.handOver = none → ∃ t : State, exec (.engineInternalCheckFail (.engine ⟨e.val, by omega⟩)) s = .next t
        ∧ (t.head h.val).engineBad = true ∧ t.jm.duty = .assay h.val ∧ t.jm.handOver = some h.val ∧ t.jm.reason = 2)
      ∧ (j.duty = .stand k.val → j.testing = none → j.handOver ≠ some h.val → ∃ t : State, exec (.engineInternalCheckFail (.engine ⟨e.val, by omega⟩)) s = .next t
        ∧ (t.head h.val).engineBad = true ∧ (t.head h.val).safeNext = true ∧ e.val ∈ t.badEngines ∧ t.jm = j))
    ∧ ((List.range 8).find? (fun i => (s.head i).engine == e.val) = none →
      exec (.engineInternalCheckFail (.engine ⟨e.val, by omega⟩)) s = .next s)
    ∧ ((List.range 8).find? (fun i => (s.head i).engine == e.val) = some h.val →
      s.badEngines.contains e.val = true ∨ (j.handOver = some h.val ∧ j.testing = none) →
      exec (.engineInternalCheckFail (.engine ⟨e.val, by omega⟩)) s = .next (s.planesGone h.val))
    ∧ ((List.range 8).find? (fun i => (s.head i).engine == 8) = some k.val → j.duty = .stand k.val → j.handOver = none →
      s.badEngines.contains 8 = false → ∃ t : State, exec (.engineInternalCheckFail (.engine 8)) s = .next t ∧ t.jm.duty = .retired
      ∧ (t.head k.val).safeNext = true ∧ (t.head k.val).engineBad = true ∧ 8 ∈ t.badEngines)
    ∧ ((List.range 8).find? (fun i => (s.head i).engine == 8) = none →
      (j.duty ≠ .retired → ∃ t : State, exec (.engineInternalCheckFail (.engine 8)) s = .next t ∧ t.jm.duty = .retired ∧ 8 ∈ t.badEngines)
      ∧ (j.duty = .retired → exec (.engineInternalCheckFail (.engine 8)) s = .next s))
    ∧ fails (.carter c) (s.plan.carterBench c.val) (0x0600 + c.val) (s.rdN (kCar c.val 0x18))
    ∧ fails (.block blk) (s.blk blk.val).owner (0x0700 + blk.val) (s.rdN (kBlk blk.val 0x40))
    ∧ fails (.core (.scene core)) (s.plan.coreBench core.val) (0x0100 + core.val) (s.coreStat core.val).toNat
    ∧ fails (.core (.line h)) (s.plan.headBench h.val) (0x0200 + h.val) (s.coreStat (32 + h.val)).toNat
    ∧ exec (.engineInternalCheckFail (.core .clerk)) s = .next s
    ∧ ((s.plan.bench bench.val).present = true → ∃ t : State, exec (.engineInternalCheckFail (.cache bench)) s = .next t
      ∧ t.tally.reports.length = s.tally.reports.length + 1 ∧ t.regs = s.regs ∧ t.mem = s.mem
      ∧ ∃ r, t.tally.reports.getLast? = some r ∧ r.cls = 0x14 ∧ r.source / 256 = 0x10 ∧ r.scope = bench.val)
    ∧ ((s.plan.bench bench.val).present = false → ∃ t : State, exec (.engineInternalCheckFail (.cache bench)) s = .next t
      ∧ t.tally = s.tally ∧ t.regs = s.regs ∧ t.mem = s.mem)

/-- JOURNAL_BLOCK_SEAL, GAP_RECORD, CKPT_REQ, CKPT_END, DRAIN_ENABLE, DRAIN_DISABLE and DRAIN_BLOCK (R320, R321, R327 to R331): a
seal makes the next block of the records that fit in it, and stores it at its place of the journal in the house region; a gap record
tells what was lost; a checkpoint is asked for unless one runs, and its end names its start block; the drain copies the next block
to its buffer, the oldest one present where the next has been written over, counting the blocks it skips; it waits while the buffer
is full, and stops at a hole. -/
def Obligations.JournalCheckpointsAndDrain : Prop :=
  ∀ (s : State) (r : Requester) (h : HeadId) (size : Fin 32) (b src : Nat),
    let a := s.arrived r
    let q := a.head h.val
    let j := s.journal h.val
    let k (off : Nat) : Nat := kHead h.val off
    let n := packLen j.open_.length j.open_ 0
    let body := (j.open_.take n).flatMap fun w => leBytes 8 w.toNat
    let blk := blockBytes j.seq h.val body.length j.openTb j.openFnum j.prevCrc body
    let place := s.blockAddr h.val j.place
    let free := q.waitFab = [] ∧ q.waitCore = []
    (j.open_ = [] → exec (.journalBlockSeal h) s = .next s)
    ∧ (j.open_ ≠ [] → ∃ t : State, exec (.journalBlockSeal h) s = .next t ∧ (t.journal h.val).open_ = j.open_.drop n
      ∧ (t.journal h.val).seq = (j.seq + 1) % 2 ^ 32 ∧ (t.journal h.val).prevCrc = blockCrc blk
      ∧ (t.journal h.val).place = (j.place + 1) % s.journalCap ∧ (t.journal h.val).count = min s.journalCap (j.count + 1)
      ∧ t.rd (k 0x10018) = BitVec.ofNat 32 j.seq ∧ (∀ i, i < 4096 → t.byte ((place + i) % 2 ^ 40) = blk.getD i 0)
      ∧ ∀ x, (∀ i, i < 4096 → x ≠ (place + i) % 2 ^ 40) → t.byte x = s.byte x)
    ∧ (j.lost = 0 ∨ 8192 < j.open_.length + 2 → exec (.gapRecord h) s = .next s)
    ∧ (j.lost ≠ 0 → j.open_.length + 2 ≤ 8192 → ∃ t : State, exec (.gapRecord h) s = .next t ∧ (t.journal h.val).lost = 0
      ∧ (t.journal h.val).open_.length = j.open_.length + 2 ∧ t.mem = s.mem ∧ t.regs = s.regs)
    ∧ (free → Served s r (k 0x10010) → ∃ t : State, exec (.ckptReq r h) s = .next t
      ∧ (t.journal h.val).ckptReq = ((a.journal h.val).ckptReq || !(a.journal h.val).ckptRun) ∧ t.mem = a.mem)
    ∧ (j.ckptRun = false → exec (.ckptEnd h) s = .next s)
    ∧ (j.ckptRun = true → ∃ t : State, exec (.ckptEnd h) s = .next t ∧ (t.journal h.val).ckptRun = false
      ∧ t.bit (k 0x10014) 31 = false ∧ t.rd (k 0x1001C) = BitVec.ofNat 32 j.ckptSeq)
    ∧ (free → Served s r (k 0x10030) →
      (∃ t : State, exec (.drainEnable r h size) s = .next t ∧ t.bit (k 0x10030) 31 = true ∧ t.fld (k 0x10030) 4 0 = size.val
        ∧ t.mem = a.mem)
      ∧ ∃ t : State, exec (.drainDisable r h size) s = .next t ∧ t.bit (k 0x10030) 31 = false
        ∧ t.fld (k 0x10030) 4 0 = size.val ∧ (t.journal h.val).drainStop = false ∧ t.mem = a.mem)
    ∧ (s.bit (k 0x10030) 31 = false ∨ j.drainStop = true → exec (.drainBlock h) s = .next s)
    ∧ (let entries := 2 ^ s.drainLog h.val
      let prod := s.drainIdx h.val 0x10034
      let full := (prod + 2 * entries - s.drainIdx h.val 0x10038) % (2 * entries) = entries
      let dst := (s.rd64 (k 0x10028) + 4096 * (prod % entries)) % 2 ^ 40
      let behind := seqGap j.drainNext j.oldest
      let skips := behind ≠ 0 ∧ behind < 2 ^ 31
      let next := if skips then j.oldest else j.drainNext
      let lost (t : State) : Prop := t.rdN (k 0x1003C) = if skips then min (s.rdN (k 0x1003C) + behind) (2 ^ 32 - 1)
        else s.rdN (k 0x1003C)
      s.bit (k 0x10030) 31 = true → j.drainStop = false →
      (full → exec (.drainBlock h) s = .next s)
      ∧ (¬full → s.plan.headBench h.val = some b → s.blockOf h.val next = none → ∃ t : State,
        exec (.drainBlock h) s = .next t ∧ (t.journal h.val).drainNext = next ∧ t.mem = s.mem ∧ lost t)
      ∧ (¬full → s.plan.headBench h.val = some b → s.blockOf h.val next = some src →
        (s.rangeHeld b dst 4096 = true → ∃ t : State, exec (.drainBlock h) s = .next t
          ∧ (∀ i, i < 4096 → t.byte ((dst + i) % 2 ^ 40) = (s.goodBytes src 4096).getD i 0)
          ∧ (∀ x, (∀ i, i < 4096 → x ≠ (dst + i) % 2 ^ 40) → t.byte x = s.byte x)
          ∧ (t.journal h.val).drainNext = (next + 1) % 2 ^ 32
          ∧ t.rd (k 0x10034) = BitVec.ofNat 32 ((prod + 1) % (2 * entries)) ∧ lost t)
        ∧ (s.rangeHeld b dst 4096 = false → ∃ t : State, exec (.drainBlock h) s = .next t
          ∧ (t.journal h.val).drainStop = true ∧ t.bit (k 0x10014) 29 = true ∧ t.mem = s.mem
          ∧ t.rdN (kBench b 0x20) = min (s.rdN (kBench b 0x20) + 1) (2 ^ 32 - 1) ∧ lost t)))

/-! ### Audio -/

/-- KEY_ON, KEY_OFF, KILL, AUD_SWAP, VOICE_FETCH_RETURN, GAIN_TIMEOUT, CROSSFADE_END, AUDIO_CMD_WRITE, AUDIO_CMD_MARK,
AUDIO_CMD_UNKNOWN, WCLK_EDGE, WCLK_LOSS, WCLK_RETURN and BRIDGE_LOCK (R341, R348, R349, R351, R358, R359, R363 to R367): key
requests and swaps wait for the next sample boundary; a fetch from a hole kills its voice, bad data is noted for its samples, and
data that is late is known to be; the value last written, where one waits and its time is out,
applies, a route's new source with a crossfade; an entry of the audio command port completes with its status; a lost word clock
puts its domain on the fallback. -/
def Obligations.AudioRequestsAndClocks : Prop :=
  ∀ (s : State) (r : Requester) (v : VoiceId) (n : Fin 1024) (addr : Addr) (len : Fin 65536) (value : Word) (b g : Nat) (e : List Byte)
    (portB ok : Bool) (c : Fin 128) (side : Bool) (bus : Fin 64) (w : Word) (i : Nat) (o : Option (Addr × EccFound)),
    let a := s.arrived r
    let vn := voiceNum v
    let q := a.voice vn
    let stat := kVoice n.val 0x4C
    let y := s.voice n.val
    let old := y.bad.filter fun r => !inRanges [r] addr.toNat len.val
    let fetch (o : Option (Addr × EccFound)) : Instr := .voiceFetchReturn n addr (.back ⟨len, o⟩)
    let good : State := (s.upset o).mends addr.toNat len.val
    let d := portB.toNat
    let dom := s.dom d
    let z := s.route c.val
    let bg := 2 * bus.val + side.toNat
    let taken := s.portTake 1 b g
    let zeros : List Byte := List.replicate 48 0
    (Served s r (kVoice vn 0x40) →
      exec (.keyOn r v) s = .next (a.setVoice vn { q with reqOn := true })
      ∧ exec (.keyOff r v) s = .next (a.setVoice vn { q with reqOff := true })
      ∧ exec (.kill r v) s = .next (a.setVoice vn { q with reqKill := true }))
    ∧ (Served s r 0x3003071000 → a.benchOf r = some b → exec (.audSwap r value) s = .next { a with audio := { a.audio with
        swaps := a.audio.swaps ++ (((List.range (wfld value 29 20 + 1)).map fun i => wfld value 9 0 + i).filter fun i =>
          a.itemBench (wfld value 31 30) i == some b).map fun i => (wfld value 31 30, i) } })
    ∧ (s.audPlan.voiceBench n.val = some b → (s.voice n.val).st ≠ 0 → len.val ≠ 0 →
      (s.rangeHeld b addr.toNat len.val = true → good.marked addr.toNat len.val = false →
        exec (fetch o) s = .next (good.setVoice n.val { y with bad := old, late := false }))
      ∧ (s.rangeHeld b addr.toNat len.val = true → good.marked addr.toNat len.val = true →
        exec (fetch o) s = .next (((good.readUe addr.toNat len.val).setB stat 26 true).setVoice n.val
          { y with bad := old ++ [(addr.toNat, len.val)], late := false }))
      ∧ (s.rangeHeld b addr.toNat len.val = false → y.st ≠ 5 → ∃ t : State,
        exec (fetch o) s = .next t ∧ t.voice n.val = { y with st := 5, kill := 0 }
        ∧ t.bit stat 25 = true ∧ t.rdN (kBench b 0x20) = min (s.rdN (kBench b 0x20) + 1) (2 ^ 32 - 1)))
    ∧ (y.st = 0 → exec (fetch o) s = .next s)
    ∧ exec (.voiceFetchReturn n addr .late) s = .next (if y.st = 0 then s else s.setVoice n.val { y with late := true })
    ∧ ((s.busGain bg).wait = some (w, i) → (s.busGain bg).fade = none → waitLimit w 96000 ≤ i → ∃ t : State,
      exec (.gainTimeout (.bus bus)) s = .next t
      ∧ t.busGain bg = { s.busGain bg with now := s.rd (kBus bus.val 0x50), wait := none }
      ∧ t.regs = s.regs ∧ t.mem = s.mem)
    ∧ (c.val < 96 → z.wait = some (w, i) → z.fade = none → waitLimit w 96000 ≤ i →
      exec (.gainTimeout (.out c)) s = .next (s.setRoute c.val { z with
        now := s.rd (kOut c.val), wait := none
        fade := if wfld (s.rd (kOut c.val)) 31 24 = wfld z.now 31 24 then none else some (0, z.now) }))
    ∧ (c.val < 96 → z.fade = some (i, w) →
      exec (.crossfadeEnd (.out c)) s = .next (if 64 ≤ i then s.setRoute c.val { z with fade := none } else s))
    ∧ exec (.crossfadeEnd (.bus bus)) s = .next s
    ∧ (s.portNext 1 = some (b, g, e) → s.mode.ringsRun = true → s.mode ≠ .hold → s.mode ≠ .limp →
      (entryOp e = 2 → exec .audioCmdMark s = .next (taken.completeEntry g e 0 zeros) ∧ exec .audioCmdUnknown s = .next s)
      ∧ (entryOp e ≠ 1 → entryOp e ≠ 2 → exec .audioCmdUnknown s = .next (taken.completeEntry g e 1 zeros)
        ∧ exec .audioCmdWrite s = .next s ∧ exec .audioCmdMark s = .next s)
      ∧ (∀ bad t, entryOp e = 1 →
        taken.audioWords b (min 14 (nfld (entryArg e) 31 28 + 1)) (0x3003000000 + 4 * nfld (entryArg e) 21 2) (e.drop 8) = (bad, t) →
        exec .audioCmdWrite s = .next (t.completeEntry g e (if bad then 2 else 0) zeros)))
    ∧ (s.portNext 1 = none → exec .audioCmdWrite s = .next s ∧ exec .audioCmdMark s = .next s ∧ exec .audioCmdUnknown s = .next s)
    ∧ (s.domWclk d = true →
      exec (.wclkEdge portB ok) s = .next (s.setDom d { dom with good := ok })
      ∧ (dom.fallback = false → ∃ t : State, exec (.wclkLoss portB) s = .next t ∧ (t.dom d).fallback = true
        ∧ (t.dom d).locked = false ∧ (t.dom d).good = false
        ∧ t.fld (kDomain d) 15 0 = (s.fld (kDomain d) 15 0 + 1) % 2 ^ 16 ∧ t.mem = s.mem)
      ∧ (dom.fallback = true → dom.good = true → exec (.wclkReturn portB) s = .next (s.setDom d { dom with back := true }))
      ∧ (dom.fallback = true → dom.back = false → exec (.wclkLoss portB) s = .next s)
      ∧ (dom.fallback = false ∨ dom.good = false → exec (.wclkReturn portB) s = .next s)
      ∧ (dom.locked = false → ∃ t : State, exec (.bridgeLock portB) s = .next t ∧ (t.dom d).locked = true ∧ t.mem = s.mem)
      ∧ (dom.locked = true → exec (.bridgeLock portB) s = .next s))
    ∧ (s.domWclk d = false → exec (.wclkEdge portB ok) s = .next s ∧ exec (.wclkLoss portB) s = .next s
      ∧ exec (.wclkReturn portB) s = .next s ∧ exec (.bridgeLock portB) s = .next s)

/-- SAMPLE_BOUNDARY and TDM_FRAME (R338, R339, R342 to R348, R353 to R356, R361, R535): at a sample boundary the outputs of the last
stage are handed over, and each item whose swap waited has its load page as its active page; a sounding voice with no requests
forms its sample of its data or its waveform, steps its position and its envelope and adds to its bus; each bus channel equalises
and scales the sum of the sample before, and each output pair routes, delays and limits the bus outputs of the one before that;
voices stand still in Hold, with the swaps of voices and tones; at a frame boundary each port of the domain runs as its enable
says, one that runs has the slots of the input frame, and one that stops drives its pins low. -/
def Obligations.SampleAndFrameBoundaries : Prop :=
  ∀ (s : State) (portB : Bool) (slots : List (Fin 4 × Fin 16 × BitVec 24)) (p : Fin 4) (v b : Nat) (s0 s1 : Int) (side : Bool)
    (bus : Fin 64) (pair : Fin 48),
    let d := portB.toNat
    let port := s.tdmPort p.val
    let ctl := s.rd (kTdm p.val)
    let runs := s.bit (kTdm p.val) 31 && s.fld (kTdm p.val) 30 30 == d && (s.audPlan.tdmBench p.val).isSome && !s.dozeAsk
    let y := s.voice v
    let quiet (y : Voice) : Prop := y.reqOn = false ∧ y.reqOff = false ∧ y.reqKill = false ∧ y.inOn = false ∧ y.inOff = false
      ∧ y.memOn = false ∧ y.memOff = false
    let sounds : Prop := s.mode.voiceOn = true ∧ s.mode ≠ .hold ∧ Sparse.sorted s.audio.voices = true ∧ s.audio.swaps = []
      ∧ 1 ≤ y.st ∧ y.st ≤ 4 ∧ quiet y ∧ (v < 1024 → y.late = false)
    let envelope (q : Voice) : Prop :=
      let rate (off : Nat) : Nat := wfld (s.act (kVoice v off)) 23 0
      let sus := wfld (s.act (kVoice v 0x24)) 14 0 * 65536
      let up := if rate 0x18 = 0 then 0x7FFFFFFF else min 0x7FFFFFFF (y.lv + rate 0x18)
      let down := if rate 0x1C = 0 then sus else max sus (y.lv - rate 0x1C)
      (y.st = 1 → q.lv = up ∧ q.st = if up = 0x7FFFFFFF then 2 else 1)
      ∧ (y.st = 2 → q.lv = down ∧ q.st = if down = sus then 3 else 2)
      ∧ (y.st = 3 → q.lv = y.lv ∧ q.st = 3)
      ∧ (y.st = 4 → rate 0x20 ≠ 0 → rate 0x20 < y.lv → q.lv = y.lv - rate 0x20 ∧ q.st = 4)
      ∧ (y.st = 4 → rate 0x20 = 0 ∨ y.lv ≤ rate 0x20 → q.lv = 0 ∧ q.st = 0)
    let adds (x : Int) (t : State) : Prop :=
      let mix := s.act (kVoice v 0x28)
      let dest := s.act (kVoice v 0x2C)
      let vol := x * Int.ofNat (y.lv / 65536) / 32768 * Int.ofNat (wfld mix 31 16) / 32768
      let pan := min 256 (wfld mix 8 0)
      let sum (n : Nat) : Int := Sparse.get (fun _ => (0 : Int)) t.audio.sums n
      s.audio.voices = [(v, y)] → nbit dest.toNat 7 = true → nbit dest.toNat 15 = false → nbit dest.toNat 23 = false →
      s.audPlan.busBench (wfld dest 5 0) = some b →
      sum (2 * wfld dest 5 0) = vol * Int.ofNat (min 256 (2 * (256 - pan))) / 256
      ∧ sum (2 * wfld dest 5 0 + 1) = vol * Int.ofNat (min 256 (2 * pan)) / 256
    let w4 := s.act (kVoice v 4)
    let play := s.playParams b v
    let i' := y.pos + (y.frac + play.pitch) / 65536
    let loops : Prop := play.loopOn = true ∧ play.last < i'
    let ends : Prop := play.loopOn = false ∧ play.stop < i'
    let x := s0 + (s1 - s0) * Int.ofNat y.frac / 65536
    let wave : Int := if wfld w4 31 30 = 1 then
        (if nfld y.pos 31 16 < 32768 then 2 * Int.ofNat (nfld y.pos 31 16) - 32768 else 98303 - 2 * Int.ofNat (nfld y.pos 31 16))
      else if wfld w4 31 30 = 2 then (if y.lfsr % 2 = 0 then 32767 else -32768)
      else if nfld y.pos 31 24 < wfld w4 7 0 then 32767 else -32768
    let freq := (s.act (kVoice v 0)).toNat
    let bg := 2 * bus.val + side.toNat
    let c (k : Nat) : Nat := 2 * pair.val + k
    let src (k : Nat) : Nat := wfld (s.route (c k)).now 31 24
    let rests (k : Nat) : Prop := (s.route (c k)).wait = none ∧ (s.route (c k)).fade = none
      ∧ (s.route (c k)).now = s.rd (kOut (c k)) ∧ src k < 0x80 ∧ s.audPlan.busBench (src k / 2) = some b
    (s.mode.voiceOn = false → exec .sampleBoundary s = .next s ∧ exec (.tdmFrame portB slots) s = .next s)
    ∧ (s.mode.voiceOn = true → ∃ t : State, exec .sampleBoundary s = .next t ∧ t.audio.handed = s.audio.outs
      ∧ t.audio.odd = !s.audio.odd ∧ t.mem = s.mem ∧ t.mode = s.mode
      ∧ (s.mode = .hold → t.audio.voices = s.audio.voices ∧ t.audio.sums = []
        ∧ t.audio.swaps = s.audio.swaps.eraseDups.filter fun e => decide (e.1 < 2))
      ∧ (s.mode ≠ .hold → t.audio.swaps = [] ∧ (y.st = 0 → quiet y → t.voice v = y))
      ∧ (∀ e ∈ s.audio.swaps, s.mode ≠ .hold ∨ 2 ≤ e.1 → s.itemBench e.1 e.2 = some b →
        ∀ k ∈ pagedKeys e.1 e.2, t.act k = s.rd k)
      ∧ (s.audPlan.busBench bus.val = some b →
        let band (a : Int) (i : Nat) : Int := (bandStep (fun j => sgn 32 (t.act (kBus bus.val (0x14 * i + 4 * j))).toNat) a
          (Sparse.get (fun _ => ((0, 0, 0, 0) : Int × Int × Int × Int)) s.audio.eq (4 * bg + i))).1
        let acc := (List.range 4).foldl band (Sparse.get (fun _ => (0 : Int)) s.audio.sums bg)
        t.busGain bg = (s.busGain bg).gainStep (s.rd (kBus bus.val 0x50)) acc 96000
        ∧ Sparse.get (fun _ => (0 : Int)) t.audio.busOut bg = clamp24 ((acc * Int.ofNat (wfld (t.busGain bg).now 15 0) + 8) / 16))
      ∧ (s.audPlan.outBench (c 0) = some b → rests 0 → rests 1 →
        let par (off : Nat) : Word := t.act (kPair pair.val off)
        let delay := wfld (par 0) 12 0
        let x (k : Nat) : Int := routeLevel (s.route (c k)).now (Sparse.get (fun _ => (0 : Int)) s.audio.busOut (src k))
        let d (k : Nat) : Int := if delay = 0 then x k
          else (Sparse.get (fun _ => ([] : List Int)) s.audio.lines (c k)).getD (delay - 1) 0
        let yy (k : Nat) : Int := clamp24
          ((x k * Int.ofNat (wfld (par 8) 15 0) + d k * Int.ofNat (wfld (par 4) 15 0) + 16384) / 32768)
        let pk := max (yy 0).natAbs (yy 1).natAbs
        let g0 := Sparse.get (fun _ => 0x800000) s.audio.limits pair.val
        let top := wfld (par 0xC) 22 0 * 0x800000
        let g := if nbit (par 0xC).toNat 31 = true ∧ top < pk * g0 then top / pk else g0
        ∀ k, k < 2 → Sparse.get (fun _ => (0 : Int)) t.audio.outs (c k)
          = s.ramped (c k) ((yy k * Int.ofNat g + 4194304) / 8388608)))
    ∧ (sounds → v < 1024 → s.audPlan.voiceBench v = some b → play.fmt < 2 → s.pcmAt play y.pos = some s0 →
      (if play.loopOn = false ∧ y.pos = play.stop then s1 = 0 else s.pcmAt play (play.next y.pos) = some s1) → ∃ t : State,
      exec .sampleBoundary s = .next t ∧ (t.voice v).lastX = x ∧ (t.voice v).frac = (y.frac + play.pitch) % 65536
      ∧ (¬loops → (t.voice v).pos = i' % 2 ^ 32)
      ∧ (loops → (t.voice v).pos = (play.first + (i' - play.last - 1) % (play.last - play.first + 1)) % 2 ^ 32)
      ∧ (ends → (t.voice v).st = 0 ∧ (t.voice v).lv = 0) ∧ (¬ends → envelope (t.voice v)) ∧ adds x t)
    ∧ (sounds → 1024 ≤ v → v < 1088 → s.audPlan.toneBench (v - 1024) = some b → ∃ t : State,
      exec .sampleBoundary s = .next t ∧ (t.voice v).lastX = wave ∧ (t.voice v).pos = (y.pos + freq) % 2 ^ 32
      ∧ (y.pos + freq < 2 ^ 32 → (t.voice v).lfsr = y.lfsr) ∧ envelope (t.voice v) ∧ adds wave t)
    ∧ (s.mode.voiceOn = true → s.tdmDom p.val = d → s.audPlan.tdmBench p.val ≠ none ∨ port.running = true → ∃ t : State,
      exec (.tdmFrame portB slots) s = .next t ∧ t.mem = s.mem
      ∧ (runs = true → t.tdmPort p.val = { running := true, ctl := ctl, ins := (List.range 8).map (slotIn slots p.val) })
      ∧ (runs = false → t.tdmPort p.val = TdmPort.reset ∧ (port.running = true → Sent.tdmLow p.val ∈ t.sent))
      ∧ ((s.dom d).back = true → (t.dom d).fallback = false ∧ (t.dom d).back = false))
end

