-- ==== Sys2Proof/Laws/Access.lean ====
section
/-!
SUPPORT. Register accesses that their holder serves: what a write or a read of one register does, whoever makes it.
-/
namespace Sys2Proof.Machine

/-- A function that serves requests is not one of a module in Limp. -/
theorem State.serve_mode {s : State} {b : Nat} (h : s.hostGate b = .serve) : (s.mode == .limp) = false := by
  unfold State.hostGate at h
  cases hm : s.mode == .limp
  · rfl
  · simp only [hm, if_true] at h
    repeat' split at h
    all_goals cases h

/-- A served register write has the effects of the register's own write, in the state once the access has arrived. -/
theorem State.reqWrite_served {s t : State} {r : Requester} {a n : Nat} (h : Served s r a) (ha : a % 4 = 0)
    (lo : 0x3000000000 ≤ a) (hw : (s.arrived r).devWrite r a (BitVec.ofNat 32 n) 15 = t) :
    s.reqWrite r a 4 n = t.issued r (s.arrived r) := by
  cases r with
  | host b =>
    obtain ⟨hg, hr, hd⟩ := h
    simp only [State.arrived] at hg hr hd hw
    have hlo : ¬ a < 0x3000000000 := by omega
    simp [State.reqWrite, State.hostDevWrite, State.hostWords, hg, hostSizeOk, ha, State.servedWrite, State.serve_mode hg,
      State.hostWrite, hr, hd, hw, hlo, State.issued]
  | core c =>
    obtain ⟨hh, hr⟩ := h
    simp only [State.arrived] at hw
    have hdiv : a / 4 * 4 = a := by omega
    have hbe : beOf a 4 = 15 := by simp [beOf, ha]
    simp [State.reqWrite, State.corePut, hh, State.placeFault, ha, hr, State.writePlace, writeWords, hdiv, hbe, hw,
      State.issued, State.arrived]
  | carter c => exact h.elim
  | block e => exact h.elim

/-- A served register read changes what the register's own read changes, and is answered. -/
theorem State.reqRead_served {s t : State} {r : Requester} {a : Nat} {w : Word} (h : ServedRead s r a) (ha : a % 4 = 0)
    (lo : 0x3000000000 ≤ a) (hw : (s.arrived r).devRead r a = (w, t)) : s.reqRead r a 4 = t.answered r w.toNat := by
  obtain ⟨h, hb⟩ := h
  cases r with
  | host b =>
    obtain ⟨hg, hr, hd⟩ := h
    simp only [State.arrived] at hg hr hd hw
    have hlo : ¬ a < 0x3000000000 := by omega
    simp [State.reqRead, State.hostDevRead, State.hostWordsRead, hg, hostSizeOk, ha, State.servedRead, State.serve_mode hg,
      State.hostRead, hr, hd, hw, hlo, State.answered]
  | core c =>
    obtain ⟨hh, hr⟩ := h
    simp only [State.arrived] at hw
    have hdiv : a / 4 * 4 = a := by omega
    simp [State.reqRead, State.coreGet, hh, State.placeFault, ha, hr, hb, State.readPlace, readWords, hdiv, hw, State.answered]
  | carter c => exact h.elim
  | block e => exact h.elim

end Sys2Proof.Machine
end

