-- ==== Sys2Proof/Laws/Sparse.lean ====
section
/-!
SUPPORT. Laws of the sparse tables: a read after a write, and that every operation keeps the canonical form.
-/
namespace Sys2Proof.Machine

variable {α : Type}

/-- Every key of a table lies above a number. -/
def Sparse.above (n : Nat) (t : List (Nat × α)) : Prop := ∀ e ∈ t, n < e.1

theorem Sparse.sorted_cons (e : Nat × α) (t : List (Nat × α)) :
    Sparse.sorted (e :: t) = true ↔ Sparse.above e.1 t ∧ Sparse.sorted t = true := by
  induction t generalizing e with
  | nil => simp [Sparse.sorted, Sparse.above]
  | cons f t ih =>
    simp only [Sparse.sorted, Bool.and_eq_true, decide_eq_true_eq, ih f, Sparse.above, List.mem_cons, forall_eq_or_imp]
    constructor
    · rintro ⟨h, k, l⟩
      exact ⟨⟨h, fun x hx => Nat.lt_trans h (k x hx)⟩, k, l⟩
    · rintro ⟨⟨h, _⟩, k, l⟩
      exact ⟨h, k, l⟩

theorem Sparse.get_above (d : Nat → α) (t : List (Nat × α)) (k : Nat) (h : Sparse.above k t) : Sparse.get d t k = d k := by
  induction t with
  | nil => rfl
  | cons e t ih =>
    have h1 : k < e.1 := h e (by simp)
    simp only [Sparse.get]
    rw [if_neg (by omega)]
    exact ih fun x hx => h x (by simp [hx])

theorem Sparse.above_put (n k : Nat) (v : α) (t : List (Nat × α)) (h : Sparse.above n t) (hk : n < k) :
    Sparse.above n (Sparse.put t k v) := by
  induction t with
  | nil => simpa [Sparse.put, Sparse.above] using hk
  | cons e t ih =>
    have he : n < e.1 := h e (by simp)
    have ht : Sparse.above n t := fun x hx => h x (by simp [hx])
    simp only [Sparse.put]
    split
    · intro x hx
      rcases List.mem_cons.1 hx with rfl | hx
      · exact he
      · exact ih ht x hx
    · split
      · intro x hx
        rcases List.mem_cons.1 hx with rfl | hx
        · exact hk
        · exact ht x hx
      · intro x hx
        rcases List.mem_cons.1 hx with rfl | hx
        · exact hk
        · exact h x hx

theorem Sparse.sorted_put (k : Nat) (v : α) (t : List (Nat × α)) (h : Sparse.sorted t = true) :
    Sparse.sorted (Sparse.put t k v) = true := by
  induction t with
  | nil => rfl
  | cons e t ih =>
    obtain ⟨ha, ht⟩ := (Sparse.sorted_cons e t).1 h
    simp only [Sparse.put]
    split
    · exact (Sparse.sorted_cons _ _).2 ⟨Sparse.above_put _ _ _ _ ha (by assumption), ih ht⟩
    · split
      · rename_i _ he
        exact (Sparse.sorted_cons _ _).2 ⟨fun x hx => he ▸ ha x hx, ht⟩
      · refine (Sparse.sorted_cons _ _).2 ⟨fun x hx => ?_, h⟩
        rcases List.mem_cons.1 hx with rfl | hx
        · show k < e.1
          omega
        · have := ha x hx
          show k < x.1
          omega

theorem Sparse.sorted_filter (p : Nat × α → Bool) (t : List (Nat × α)) (h : Sparse.sorted t = true) :
    Sparse.sorted (t.filter p) = true := by
  induction t with
  | nil => rfl
  | cons e t ih =>
    obtain ⟨ha, ht⟩ := (Sparse.sorted_cons e t).1 h
    simp only [List.filter]
    split
    · exact (Sparse.sorted_cons _ _).2 ⟨fun x hx => ha x (List.mem_filter.1 hx).1, ih ht⟩
    · exact ih ht

/-- A read after a write gives the value written, and a write leaves every other key alone. -/
theorem Sparse.get_put (d : Nat → α) (t : List (Nat × α)) (k j : Nat) (v : α) :
    Sparse.get d (Sparse.put t k v) j = if j = k then v else Sparse.get d t j := by
  induction t with
  | nil => simp only [Sparse.put, Sparse.get, eq_comm]
  | cons e t ih =>
    obtain ⟨a, w⟩ := e
    simp only [Sparse.put]
    by_cases hj : j = k
    · subst hj
      split
      · have : a ≠ j := by omega
        simp [Sparse.get, ih, this]
      · split <;> simp [Sparse.get]
    · have hk : k ≠ j := fun h => hj h.symm
      split
      · simp [Sparse.get, ih, hj]
      · split
        · have : a ≠ j := by omega
          simp [Sparse.get, hk, this]
        · simp [Sparse.get, hk]

theorem Sparse.get_del (d : Nat → α) (t : List (Nat × α)) (k j : Nat) :
    Sparse.get d (Sparse.del t k) j = if j = k then d k else Sparse.get d t j := by
  induction t with
  | nil =>
    simp only [Sparse.del, List.filter, Sparse.get]
    split
    · subst j; rfl
    · rfl
  | cons e t ih =>
    obtain ⟨a, w⟩ := e
    simp only [Sparse.del] at ih ⊢
    by_cases he : a = k
    · subst he
      by_cases hj : j = a
      · simpa [hj] using ih
      · have : a ≠ j := fun h => hj h.symm
        simp [Sparse.get, ih, hj, this]
    · simp only [List.filter, bne_iff_ne.2 he, Sparse.get, ih]
      by_cases ha : a = j
      · have : j ≠ k := by omega
        simp [ha, this]
      · simp [ha]

theorem Sparse.get_set [DecidableEq α] (d : Nat → α) (t : List (Nat × α)) (k j : Nat) (v : α) :
    Sparse.get d (Sparse.set d t k v) j = if j = k then v else Sparse.get d t j := by
  simp only [Sparse.set]
  split
  · rename_i h
    rw [Sparse.get_del, h]
  · exact Sparse.get_put d t k j v

theorem Sparse.get_clear (d : Nat → α) (p : Nat → Bool) (t : List (Nat × α)) (j : Nat) :
    Sparse.get d (Sparse.clear p t) j = if p j then d j else Sparse.get d t j := by
  induction t with
  | nil => simp [Sparse.clear, Sparse.get]
  | cons e t ih =>
    simp only [Sparse.clear, List.filter] at ih ⊢
    by_cases he : p e.1
    · simp only [he, Bool.not_true, ih, Sparse.get]
      split
      · rfl
      · split
        · subst j; contradiction
        · rfl
    · simp only [he, Bool.not_false, Sparse.get, ih]
      split
      · subst j; simp [he]
      · rfl

theorem Sparse.wf_iff [DecidableEq α] (d : Nat → α) (t : List (Nat × α)) :
    Sparse.wf d t = true ↔ Sparse.sorted t = true ∧ ∀ e ∈ t, e.2 ≠ d e.1 := by
  simp [Sparse.wf, List.all_eq_true]

theorem Sparse.mem_put (t : List (Nat × α)) (k : Nat) (v : α) (e : Nat × α) (h : e ∈ Sparse.put t k v) :
    e = (k, v) ∨ e ∈ t := by
  induction t with
  | nil => simpa [Sparse.put] using h
  | cons f t ih =>
    simp only [Sparse.put] at h
    split at h
    · rcases List.mem_cons.1 h with rfl | h
      · exact .inr (by simp)
      · rcases ih h with h | h
        · exact .inl h
        · exact .inr (by simp [h])
    · split at h
      · rcases List.mem_cons.1 h with rfl | h
        · exact .inl rfl
        · exact .inr (by simp [h])
      · rcases List.mem_cons.1 h with rfl | h
        · exact .inl rfl
        · exact .inr h

/-- Setting a key keeps the canonical form. -/
theorem Sparse.wf_set [DecidableEq α] (d : Nat → α) (t : List (Nat × α)) (k : Nat) (v : α) (h : Sparse.wf d t = true) :
    Sparse.wf d (Sparse.set d t k v) = true := by
  obtain ⟨hs, hd⟩ := (Sparse.wf_iff d t).1 h
  simp only [Sparse.set]
  split
  · exact (Sparse.wf_iff _ _).2 ⟨Sparse.sorted_filter _ t hs, fun e he => hd e (List.mem_filter.1 he).1⟩
  · rename_i hv
    refine (Sparse.wf_iff _ _).2 ⟨Sparse.sorted_put k v t hs, fun e he => ?_⟩
    rcases Sparse.mem_put t k v e he with rfl | he
    · exact hv
    · exact hd e he

/-- Clearing keys keeps the canonical form. -/
theorem Sparse.wf_clear [DecidableEq α] (d : Nat → α) (p : Nat → Bool) (t : List (Nat × α)) (h : Sparse.wf d t = true) :
    Sparse.wf d (Sparse.clear p t) = true := by
  obtain ⟨hs, hd⟩ := (Sparse.wf_iff d t).1 h
  exact (Sparse.wf_iff _ _).2 ⟨Sparse.sorted_filter _ t hs, fun e he => hd e (List.mem_filter.1 he).1⟩

end Sys2Proof.Machine
end

