-- ==== Sys2Proof/Laws/Memory.lean ====
section
/-!
SUPPORT. Laws of memory, house flash and SRAM: a byte read after a store, and that every operation on them keeps the canonical
form.
-/
namespace Sys2Proof.Machine

/-! ### Bytes placed -/

/-- The byte read at an address after bytes have been placed from `a` on, `k` bytes behind the first: no more than 2^40 bytes. -/
theorem get_putBytes (m : List Host.Cell) (a : Nat) (bs : List Byte) (x : Nat) (hx : x < 2 ^ 40) (hl : bs.length ≤ 2 ^ 40) :
    Sparse.get (fun _ => (0 : Byte)) (putBytes m a bs) x
      = if (x + 2 ^ 40 - a % 2 ^ 40) % 2 ^ 40 < bs.length then bs.getD ((x + 2 ^ 40 - a % 2 ^ 40) % 2 ^ 40) 0
        else Sparse.get (fun _ => (0 : Byte)) m x := by
  induction bs generalizing m a with
  | nil => simp [putBytes]
  | cons b t ih =>
    simp only [List.length_cons] at hl
    rw [putBytes, ih _ _ (by omega), Sparse.get_set]
    by_cases h0 : x = a % 2 ^ 40
    · have e0 : (x + 2 ^ 40 - a % 2 ^ 40) % 2 ^ 40 = 0 := by omega
      have e1 : (x + 2 ^ 40 - (a + 1) % 2 ^ 40) % 2 ^ 40 = 2 ^ 40 - 1 := by omega
      rw [e0, e1, if_neg (by omega), if_pos h0, if_pos (by simp), List.getD_cons_zero]
    · have e1 : (x + 2 ^ 40 - a % 2 ^ 40) % 2 ^ 40 = (x + 2 ^ 40 - (a + 1) % 2 ^ 40) % 2 ^ 40 + 1 := by omega
      rw [e1, if_neg h0, List.getD_cons_succ]
      simp only [List.length_cons, Nat.add_lt_add_iff_right]

theorem putBytes_wf (m : List Host.Cell) (a : Nat) (bs : List Byte) (h : Memory.wf m = true) : Memory.wf (putBytes m a bs) = true := by
  induction bs generalizing m a with
  | nil => exact h
  | cons b t ih => exact ih _ _ (Sparse.wf_set _ _ _ _ h)

/-! ### Stores -/

/-- A byte after a store of at most 2^40 bytes. -/
theorem State.byte_poke (s : State) (a : Nat) (bs : List Byte) (x : Nat) (hx : x < 2 ^ 40) (hl : bs.length ≤ 2 ^ 40) :
    (s.poke a bs).byte x = if (x + 2 ^ 40 - a % 2 ^ 40) % 2 ^ 40 < bs.length then bs.getD ((x + 2 ^ 40 - a % 2 ^ 40) % 2 ^ 40) 0
      else s.byte x := get_putBytes _ _ _ _ hx hl

/-- A store leaves every byte outside it. -/
theorem State.byte_poke_outside (s : State) (a : Nat) (bs : List Byte) (x : Nat) (hx : x < 2 ^ 40) (hl : bs.length ≤ 2 ^ 40)
    (ho : bs.length ≤ (x + 2 ^ 40 - a % 2 ^ 40) % 2 ^ 40) : (s.poke a bs).byte x = s.byte x := by
  rw [State.byte_poke _ _ _ _ hx hl, if_neg (by omega)]

/-- The bytes just stored read back. -/
theorem State.byte_poke_inside (s : State) (a : Nat) (bs : List Byte) (i : Nat) (hi : i < bs.length) (hl : bs.length ≤ 2 ^ 40) :
    (s.poke a bs).byte ((a + i) % 2 ^ 40) = bs.getD i 0 := by
  have e : ((a + i) % 2 ^ 40 + 2 ^ 40 - a % 2 ^ 40) % 2 ^ 40 = i := by omega
  rw [State.byte_poke _ _ _ _ (Nat.mod_lt _ (by decide)) hl, e, if_pos hi]

theorem State.byte_zeroFill (s : State) (a n x : Nat) :
    (s.zeroFill a n).byte x = if a ≤ x ∧ x < a + n then 0 else s.byte x := by
  unfold State.byte State.zeroFill
  rw [Sparse.get_clear]
  simp only [Bool.and_eq_true, decide_eq_true_eq]

/-- A range that has been zero-filled holds no mark. -/
theorem State.marks_zeroFill (s : State) (a n m : Nat) (h : m ∈ (s.zeroFill a n).marks) : m ∈ s.marks ∧ (m < a ∨ a + n ≤ m) := by
  simp only [State.zeroFill, List.mem_filter, Bool.not_eq_true', Bool.and_eq_false_iff, decide_eq_false_iff_not] at h
  exact ⟨h.1, by omega⟩

@[simp] theorem State.byte_mark (s : State) (a x : Nat) : (s.mark a).byte x = s.byte x := rfl

theorem State.bytes_length (s : State) (a n : Nat) : (s.bytes a n).length = n := by
  induction n generalizing a with
  | zero => rfl
  | succ n ih => simp only [State.bytes, List.length_cons, ih]

/-- Byte i of a read of n bytes. -/
theorem State.getD_bytes (s : State) (a n i : Nat) (h : i < n) : (s.bytes a n).getD i 0 = s.byte ((a + i) % 2 ^ 40) := by
  induction n generalizing a i with
  | zero => omega
  | succ n ih =>
    cases i with
    | zero => simp only [State.bytes, List.getD_cons_zero, Nat.add_zero]
    | succ i => rw [State.bytes, List.getD_cons_succ, ih _ _ (by omega)]; congr 2; omega

/-! ### The canonical form -/

theorem State.poke_wf (s : State) (a : Nat) (bs : List Byte) (h : Memory.wf s.mem = true) : Memory.wf (s.poke a bs).mem = true :=
  putBytes_wf _ _ _ h

theorem State.zeroFill_wf (s : State) (a n : Nat) (h : Memory.wf s.mem = true) : Memory.wf (s.zeroFill a n).mem = true :=
  Sparse.wf_clear _ (fun k => decide (a ≤ k) && decide (k < a + n)) _ h

@[simp] theorem State.mark_mem (s : State) (a : Nat) : (s.mark a).mem = s.mem := rfl

/-- House flash keeps its form. -/
theorem putFlash_wf (m : List Host.Cell) (a : Nat) (bs : List Byte) (h : Flash.wf m = true) : Flash.wf (putFlash m a bs) = true := by
  induction bs generalizing m a with
  | nil => exact h
  | cons b t ih => exact ih _ _ (Sparse.wf_set _ _ _ _ h)

theorem State.flashPut_wf (s : State) (a : Nat) (bs : List Byte) (h : Flash.wf s.flash = true) : Flash.wf (s.flashPut a bs).flash = true :=
  putFlash_wf _ _ _ h

/-- The Clerk's stores to its own memory keep the form of flash and SRAM. -/
theorem State.housePut_wf (s : State) (flash : Bool) (off : Nat) (bs : List Byte) (hf : Flash.wf s.flash = true)
    (hs : Flash.wf s.sram = true) :
    Flash.wf (s.housePut flash off bs).flash = true ∧ Flash.wf (s.housePut flash off bs).sram = true := by
  induction bs generalizing s off with
  | nil => exact ⟨hf, hs⟩
  | cons b t ih =>
    rw [State.housePut]
    cases flash
    · exact ih _ _ hf (Sparse.wf_set _ _ _ _ hs)
    · by_cases hr : inSlotRecord off = true
      · simp only [hr, if_true]; exact ih _ _ hf hs
      · simp only [hr, if_true, if_false]; exact ih _ _ (Sparse.wf_set _ _ _ _ hf) hs

/-- Every store of the state after reset has its form. -/
theorem State.reset_canonical : Memory.wf State.reset.mem = true ∧ Flash.wf State.reset.flash = true
    ∧ Flash.wf State.reset.sram = true ∧ Sparse.wf regReset State.reset.regs = true := ⟨rfl, rfl, rfl, rfl⟩

end Sys2Proof.Machine
end

