-- ==== Sys2Proof/Laws/Registers.lean ====
section
/-!
SUPPORT. Laws of the register file: a word, a field and a bit read after a write, and what writes of other places leave.
-/
namespace Sys2Proof.Machine

/-! ### Fields of a word -/

theorem testBit_nfld (v hi lo i : Nat) : (nfld v hi lo).testBit i = (decide (i < hi + 1 - lo) && v.testBit (lo + i)) := by
  simp only [nfld, Nat.testBit_mod_two_pow, Nat.testBit_shiftRight]

/-- Bit j of a word whose field [hi:lo] has been replaced. -/
theorem testBit_setFld (v : Word) (hi lo n j : Nat) (h : hi < 32) :
    (setFld v hi lo n).toNat.testBit j
      = if lo ≤ j ∧ j ≤ hi then n.testBit (j - lo) else v.toNat.testBit j := by
  rw [BitVec.testBit_toNat, BitVec.testBit_toNat]
  unfold setFld maskBits
  rw [BitVec.getLsbD_or, BitVec.getLsbD_and, BitVec.getLsbD_not, BitVec.getLsbD_ofNat, BitVec.getLsbD_ofNat,
    Nat.testBit_shiftLeft, Nat.testBit_shiftLeft, Nat.testBit_two_pow_sub_one, Nat.testBit_mod_two_pow]
  by_cases hj : j < 32
  · by_cases h1 : lo ≤ j
    · by_cases h2 : j ≤ hi
      · have h3 : j - lo < hi + 1 - lo := by omega
        simp only [hj, h1, h2, h3, decide_true, Bool.true_and, Bool.not_true, Bool.and_false, Bool.false_or, and_self, if_true]
      · have h3 : ¬j - lo < hi + 1 - lo := by omega
        simp only [hj, h1, h2, h3, decide_true, decide_false, Bool.true_and, Bool.false_and, Bool.not_false, Bool.and_true, Bool.or_false,
          and_false, if_false]
    · simp only [hj, h1, decide_true, decide_false, Bool.true_and, Bool.false_and, Bool.not_false, Bool.and_true, Bool.or_false, false_and,
        if_false]
  · have h4 : v.getLsbD j = false := BitVec.getLsbD_of_ge v j (by omega)
    have h5 : ¬(lo ≤ j ∧ j ≤ hi) := by omega
    simp only [hj, h4, h5, decide_false, Bool.false_and, Bool.or_false, if_false]

/-- A field that has been replaced holds the number, cut to it. -/
theorem wfld_setFld (v : Word) (hi lo n : Nat) (h : hi < 32) : wfld (setFld v hi lo n) hi lo = n % 2 ^ (hi + 1 - lo) := by
  apply Nat.eq_of_testBit_eq
  intro i
  rw [wfld, testBit_nfld, testBit_setFld v hi lo n _ h, Nat.testBit_mod_two_pow]
  by_cases h1 : i < hi + 1 - lo
  · have h2 : lo ≤ lo + i ∧ lo + i ≤ hi := by omega
    simp only [h1, h2, and_self, if_true, Nat.add_sub_cancel_left]
  · simp only [h1, decide_false, Bool.false_and]

/-- A field that another field's replacement does not meet is as before. -/
theorem wfld_setFld_apart (v : Word) (hi lo n hi' lo' : Nat) (h : hi < 32) (ha : hi' < lo ∨ hi < lo') :
    wfld (setFld v hi lo n) hi' lo' = wfld v hi' lo' := by
  apply Nat.eq_of_testBit_eq
  intro i
  rw [wfld, wfld, testBit_nfld, testBit_nfld, testBit_setFld v hi lo n _ h]
  by_cases h1 : i < hi' + 1 - lo'
  · have h2 : ¬(lo ≤ lo' + i ∧ lo' + i ≤ hi) := by omega
    simp only [h2, if_false]
  · simp only [h1, decide_false, Bool.false_and]

/-! ### Words -/

theorem State.rd_wr (s : State) (k j : Nat) (v : Word) : (s.wr k v).rd j = if j = k then v else s.rd j :=
  Sparse.get_set _ _ _ _ _

@[simp] theorem State.rd_wr_self (s : State) (k : Nat) (v : Word) : (s.wr k v).rd k = v := by rw [State.rd_wr, if_pos rfl]

theorem State.rd_wr_ne (s : State) {k j : Nat} (v : Word) (h : j ≠ k) : (s.wr k v).rd j = s.rd j := by rw [State.rd_wr, if_neg h]

@[simp] theorem State.rdN_wrN_self (s : State) (k n : Nat) : (s.wrN k n).rdN k = n % 2 ^ 32 := by
  rw [State.rdN, State.wrN, State.rd_wr_self, BitVec.toNat_ofNat]

@[simp] theorem State.rd64_wr64_self (s : State) (k n : Nat) : (s.wr64 k n).rd64 k = n % 2 ^ 64 := by
  unfold State.rd64 State.wr64
  rw [State.rdN_wrN_self, State.rdN, State.wrN, State.rd_wr_ne _ _ (by omega), ← State.rdN, State.rdN_wrN_self]
  omega

theorem State.rd_clearRegs (s : State) (lo len k : Nat) :
    (s.clearRegs lo len).rd k = if lo ≤ k ∧ k < lo + len then regReset k else s.rd k := by
  unfold State.rd State.clearRegs
  rw [Sparse.get_clear]
  simp only [Bool.and_eq_true, decide_eq_true_eq]

/-! ### Fields and bits of the register file -/

theorem State.rd_setF_ne (s : State) {k j : Nat} (hi lo n : Nat) (h : j ≠ k) : (s.setF k hi lo n).rd j = s.rd j := s.rd_wr_ne _ h

theorem State.rd_setB_ne (s : State) {k j : Nat} (b : Nat) (v : Bool) (h : j ≠ k) : (s.setB k b v).rd j = s.rd j := s.rd_wr_ne _ h

theorem State.rd_incSat_ne (s : State) {k j : Nat} (hi lo : Nat) (h : j ≠ k) : (s.incSat k hi lo).rd j = s.rd j := s.rd_wr_ne _ h

/-- A field that has been written holds the number, cut to it. -/
theorem State.fld_setF_self (s : State) (k hi lo n : Nat) (h : hi < 32) : (s.setF k hi lo n).fld k hi lo = n % 2 ^ (hi + 1 - lo) := by
  rw [State.fld, State.setF, State.rd_wr_self, wfld_setFld _ _ _ _ h]

/-- A field of the same word that a write does not meet is as before. -/
theorem State.fld_setF_apart (s : State) (k hi lo n hi' lo' : Nat) (h : hi < 32) (ha : hi' < lo ∨ hi < lo') :
    (s.setF k hi lo n).fld k hi' lo' = s.fld k hi' lo' := by
  rw [State.fld, State.fld, State.setF, State.rd_wr_self, wfld_setFld_apart _ _ _ _ _ _ h ha]

/-- Bit j of a word of which bit b has been written. -/
theorem State.bit_setB (s : State) (k b j : Nat) (v : Bool) (h : b < 32) : (s.setB k b v).bit k j = if j = b then v else s.bit k j := by
  rw [State.bit, State.bit, State.rdN, State.rdN, State.setB, State.rd_wr_self, nbit, nbit, setBit, testBit_setFld _ _ _ _ _ h]
  by_cases hj : j = b
  · subst hj
    cases v <;> simp [Nat.testBit_zero]
  · rw [if_neg (by omega), if_neg hj]

theorem State.bit_setB_self (s : State) (k b : Nat) (v : Bool) (h : b < 32) : (s.setB k b v).bit k b = v := by
  rw [State.bit_setB _ _ _ _ _ h, if_pos rfl]

/-- Bit j of a word of which a field has been written. -/
theorem State.bit_setF (s : State) (k hi lo n j : Nat) (h : hi < 32) :
    (s.setF k hi lo n).bit k j = if lo ≤ j ∧ j ≤ hi then n.testBit (j - lo) else s.bit k j := by
  rw [State.bit, State.bit, State.rdN, State.rdN, State.setF, State.rd_wr_self, nbit, nbit, testBit_setFld _ _ _ _ _ h]

/-- A field that a written bit of the same word does not lie in is as before. -/
theorem State.fld_setB_apart (s : State) (k b hi lo : Nat) (v : Bool) (h : b < 32) (ha : hi < b ∨ b < lo) :
    (s.setB k b v).fld k hi lo = s.fld k hi lo := s.fld_setF_apart k b b _ hi lo h ha

/-- A bit of another word is as before. -/
theorem State.bit_setB_ne (s : State) {k j : Nat} (b i : Nat) (v : Bool) (h : j ≠ k) : (s.setB k b v).bit j i = s.bit j i := by
  rw [State.bit, State.rdN, s.rd_setB_ne b v h, ← State.rdN, ← State.bit]

theorem wfld_lt (v : Word) (hi lo : Nat) : wfld v hi lo < 2 ^ (hi + 1 - lo) := Nat.mod_lt _ (Nat.two_pow_pos _)

/-- A counter field that has been raised by one stops at its maximum. -/
theorem State.fld_incSat (s : State) (k hi lo : Nat) (h : hi < 32) :
    (s.incSat k hi lo).fld k hi lo = min (s.fld k hi lo + 1) (2 ^ (hi + 1 - lo) - 1) := by
  unfold State.incSat State.addSat
  rw [State.fld_setF_self _ _ _ _ _ h, Nat.mod_eq_of_lt]
  have := Nat.two_pow_pos (hi + 1 - lo)
  omega

/-! ### The canonical form -/

theorem State.wr_wf (s : State) (k : Nat) (v : Word) (h : Sparse.wf regReset s.regs = true) : Sparse.wf regReset (s.wr k v).regs = true :=
  Sparse.wf_set _ _ _ _ h

theorem State.clearRegs_wf (s : State) (lo len : Nat) (h : Sparse.wf regReset s.regs = true) :
    Sparse.wf regReset (s.clearRegs lo len).regs = true :=
  Sparse.wf_clear _ (fun k => decide (lo ≤ k) && decide (k < lo + len)) _ h

end Sys2Proof.Machine
end

