-- ==== Sys2Proof/Laws/State.lean ====
section
/-!
SUPPORT. Laws of State: for each shared update, every field and every table that it leaves, all true by unfolding, so that no
later proof unfolds a record update; and each table read after its own update.
-/
namespace Sys2Proof.Machine

/-! ### A table read after its update -/

theorem State.core_setCore (s : State) (k j : Nat) (x : Core) : (s.setCore k x).core j = if j = k then x else s.core j :=
  Sparse.get_set _ _ _ _ _

@[simp] theorem State.core_setCore_self (s : State) (k : Nat) (x : Core) : (s.setCore k x).core k = x := by
  rw [State.core_setCore, if_pos rfl]

theorem State.head_setHead (s : State) (k j : Nat) (x : Head) : (s.setHead k x).head j = if j = k then x else s.head j :=
  Sparse.get_set _ _ _ _ _

@[simp] theorem State.head_setHead_self (s : State) (k : Nat) (x : Head) : (s.setHead k x).head k = x := by
  rw [State.head_setHead, if_pos rfl]

theorem State.journal_setJournal (s : State) (k j : Nat) (x : Journal) : (s.setJournal k x).journal j = if j = k then x else s.journal j :=
  Sparse.get_set _ _ _ _ _

@[simp] theorem State.journal_setJournal_self (s : State) (k : Nat) (x : Journal) : (s.setJournal k x).journal k = x := by
  rw [State.journal_setJournal, if_pos rfl]

theorem State.link_setLink (s : State) (k j : Nat) (x : Link) : (s.setLink k x).link j = if j = k then x else s.link j :=
  Sparse.get_set _ _ _ _ _

@[simp] theorem State.link_setLink_self (s : State) (k : Nat) (x : Link) : (s.setLink k x).link k = x := by
  rw [State.link_setLink, if_pos rfl]

theorem State.fn_setFn (s : State) (k j : Nat) (x : Fn) : (s.setFn k x).fn j = if j = k then x else s.fn j :=
  Sparse.get_set _ _ _ _ _

@[simp] theorem State.fn_setFn_self (s : State) (k : Nat) (x : Fn) : (s.setFn k x).fn k = x := by
  rw [State.fn_setFn, if_pos rfl]

theorem State.blk_setBlk (s : State) (k j : Nat) (x : Blk) : (s.setBlk k x).blk j = if j = k then x else s.blk j :=
  Sparse.get_set _ _ _ _ _

@[simp] theorem State.blk_setBlk_self (s : State) (k : Nat) (x : Blk) : (s.setBlk k x).blk k = x := by
  rw [State.blk_setBlk, if_pos rfl]

theorem State.chan_setChan (s : State) (k j : Nat) (x : Chan) : (s.setChan k x).chan j = if j = k then x else s.chan j :=
  Sparse.get_set _ _ _ _ _

@[simp] theorem State.chan_setChan_self (s : State) (k : Nat) (x : Chan) : (s.setChan k x).chan k = x := by
  rw [State.chan_setChan, if_pos rfl]

theorem State.march_setMarch (s : State) (k j : Nat) (x : March) : (s.setMarch k x).march j = if j = k then x else s.march j :=
  Sparse.get_set _ _ _ _ _

@[simp] theorem State.march_setMarch_self (s : State) (k : Nat) (x : March) : (s.setMarch k x).march k = x := by
  rw [State.march_setMarch, if_pos rfl]

theorem State.cmp_setCmp (s : State) (k j : Nat) (x : Cmp) : (s.setCmp k x).cmp j = if j = k then x else s.cmp j :=
  Sparse.get_set _ _ _ _ _

@[simp] theorem State.cmp_setCmp_self (s : State) (k : Nat) (x : Cmp) : (s.setCmp k x).cmp k = x := by
  rw [State.cmp_setCmp, if_pos rfl]

theorem State.cap_setCap (s : State) (k j : Nat) (x : List (Nat × Bool)) : (s.setCap k x).cap j = if j = k then x else s.cap j :=
  Sparse.get_set _ _ _ _ _

@[simp] theorem State.cap_setCap_self (s : State) (k : Nat) (x : List (Nat × Bool)) : (s.setCap k x).cap k = x := by
  rw [State.cap_setCap, if_pos rfl]

theorem State.bell_setBell (s : State) (k j : Nat) (x : Bell) : (s.setBell k x).bell j = if j = k then x else s.bell j :=
  Sparse.get_set _ _ _ _ _

@[simp] theorem State.bell_setBell_self (s : State) (k : Nat) (x : Bell) : (s.setBell k x).bell k = x := by
  rw [State.bell_setBell, if_pos rfl]

theorem State.src_setSrc (s : State) (k j : Nat) (x : Source) : (s.setSrc k x).src j = if j = k then x else s.src j :=
  Sparse.get_set _ _ _ _ _

@[simp] theorem State.src_setSrc_self (s : State) (k : Nat) (x : Source) : (s.setSrc k x).src k = x := by
  rw [State.src_setSrc, if_pos rfl]

theorem State.pin_setPin (s : State) (k j : Nat) (x : Pin) : (s.setPin k x).pin j = if j = k then x else s.pin j :=
  Sparse.get_set _ _ _ _ _

@[simp] theorem State.pin_setPin_self (s : State) (k : Nat) (x : Pin) : (s.setPin k x).pin k = x := by
  rw [State.pin_setPin, if_pos rfl]

theorem State.ser_setSer (s : State) (k j : Nat) (x : Ser) : (s.setSer k x).ser j = if j = k then x else s.ser j :=
  Sparse.get_set _ _ _ _ _

@[simp] theorem State.ser_setSer_self (s : State) (k : Nat) (x : Ser) : (s.setSer k x).ser k = x := by
  rw [State.ser_setSer, if_pos rfl]

theorem State.qd_setQd (s : State) (k j : Nat) (x : CioUnit) : (s.setQd k x).qd j = if j = k then x else s.qd j :=
  Sparse.get_set _ _ _ _ _

@[simp] theorem State.qd_setQd_self (s : State) (k : Nat) (x : CioUnit) : (s.setQd k x).qd k = x := by
  rw [State.qd_setQd, if_pos rfl]

theorem State.mx_setMx (s : State) (k j : Nat) (x : CioUnit) : (s.setMx k x).mx j = if j = k then x else s.mx j :=
  Sparse.get_set _ _ _ _ _

@[simp] theorem State.mx_setMx_self (s : State) (k : Nat) (x : CioUnit) : (s.setMx k x).mx k = x := by
  rw [State.mx_setMx, if_pos rfl]

theorem State.mtr_setMtr (s : State) (k j : Nat) (x : Meter) : (s.setMtr k x).mtr j = if j = k then x else s.mtr j :=
  Sparse.get_set _ _ _ _ _

@[simp] theorem State.mtr_setMtr_self (s : State) (k : Nat) (x : Meter) : (s.setMtr k x).mtr k = x := by
  rw [State.mtr_setMtr, if_pos rfl]

theorem State.cached_setCached (s : State) (k j : Nat) (x : List (List Byte)) : (s.setCached k x).cached j = if j = k then x else s.cached j :=
  Sparse.get_set _ _ _ _ _

@[simp] theorem State.cached_setCached_self (s : State) (k : Nat) (x : List (List Byte)) : (s.setCached k x).cached k = x := by
  rw [State.cached_setCached, if_pos rfl]

theorem State.voice_setVoice (s : State) (k j : Nat) (x : Voice) : (s.setVoice k x).voice j = if j = k then x else s.voice j :=
  Sparse.get_set _ _ _ _ _

@[simp] theorem State.voice_setVoice_self (s : State) (k : Nat) (x : Voice) : (s.setVoice k x).voice k = x := by
  rw [State.voice_setVoice, if_pos rfl]

theorem State.turn_setTurn (s : State) (k j : Nat) (x : Nat) : (s.setTurn k x).turn j = if j = k then x else s.turn j :=
  Sparse.get_set _ _ _ _ _

@[simp] theorem State.turn_setTurn_self (s : State) (k : Nat) (x : Nat) : (s.setTurn k x).turn k = x := by
  rw [State.turn_setTurn, if_pos rfl]

/-! ### What each update leaves -/

@[simp] theorem State.wr_fields (s : State) (k : Nat) (v : Word) :
    (s.wr k v).pending = s.pending ∧ (s.wr k v).mem = s.mem ∧ (s.wr k v).marks = s.marks ∧ (s.wr k v).flaws = s.flaws
    ∧ (s.wr k v).flash = s.flash ∧ (s.wr k v).cards = s.cards ∧ (s.wr k v).sram = s.sram ∧ (s.wr k v).mode = s.mode
    ∧ (s.wr k v).plan = s.plan ∧ (s.wr k v).staged = s.staged ∧ (s.wr k v).links = s.links ∧ (s.wr k v).fns = s.fns
    ∧ (s.wr k v).perst = s.perst ∧ (s.wr k v).armed = s.armed ∧ (s.wr k v).railsIn = s.railsIn ∧ (s.wr k v).wakePin = s.wakePin
    ∧ (s.wr k v).cores = s.cores ∧ (s.wr k v).heads = s.heads ∧ (s.wr k v).journals = s.journals ∧ (s.wr k v).jm = s.jm
    ∧ (s.wr k v).badEngines = s.badEngines ∧ (s.wr k v).badUnits = s.badUnits ∧ (s.wr k v).ringCache = s.ringCache
    ∧ (s.wr k v).ringNow = s.ringNow ∧ (s.wr k v).turns = s.turns ∧ (s.wr k v).blks = s.blks ∧ (s.wr k v).chans = s.chans
    ∧ (s.wr k v).marches = s.marches ∧ (s.wr k v).rot = s.rot ∧ (s.wr k v).scrubPos = s.scrubPos ∧ (s.wr k v).watches = s.watches
    ∧ (s.wr k v).retired = s.retired ∧ (s.wr k v).retiring = s.retiring ∧ (s.wr k v).ueSeen = s.ueSeen ∧ (s.wr k v).tb = s.tb
    ∧ (s.wr k v).tbLf = s.tbLf ∧ (s.wr k v).tbStepNo = s.tbStepNo ∧ (s.wr k v).snaps = s.snaps ∧ (s.wr k v).cmps = s.cmps
    ∧ (s.wr k v).caps = s.caps ∧ (s.wr k v).bells = s.bells ∧ (s.wr k v).routes = s.routes ∧ (s.wr k v).fired = s.fired
    ∧ (s.wr k v).srcs = s.srcs ∧ (s.wr k v).pins = s.pins ∧ (s.wr k v).sers = s.sers ∧ (s.wr k v).qds = s.qds ∧ (s.wr k v).mxs = s.mxs
    ∧ (s.wr k v).mtrs = s.mtrs ∧ (s.wr k v).audio = s.audio ∧ (s.wr k v).tally = s.tally ∧ (s.wr k v).sense = s.sense
    ∧ (s.wr k v).stormLimit = s.stormLimit ∧ (s.wr k v).clerkRestarts = s.clerkRestarts ∧ (s.wr k v).clerkUp = s.clerkUp
    ∧ (s.wr k v).bootTb = s.bootTb ∧ (s.wr k v).slot = s.slot ∧ (s.wr k v).serviceAsk = s.serviceAsk
    ∧ (s.wr k v).unverified = s.unverified ∧ (s.wr k v).warm = s.warm ∧ (s.wr k v).ran = s.ran ∧ (s.wr k v).badCores = s.badCores
    ∧ (s.wr k v).badHeads = s.badHeads ∧ (s.wr k v).badBanks = s.badBanks ∧ (s.wr k v).badLanes = s.badLanes
    ∧ (s.wr k v).ordered = s.ordered ∧ (s.wr k v).openFills = s.openFills ∧ (s.wr k v).straps = s.straps
    ∧ (s.wr k v).bootLog = s.bootLog ∧ (s.wr k v).settings = s.settings ∧ (s.wr k v).closing = s.closing
    ∧ (s.wr k v).closingNo = s.closingNo ∧ (s.wr k v).closeStep = s.closeStep ∧ (s.wr k v).dozeAsk = s.dozeAsk
    ∧ (s.wr k v).dozeHeads = s.dozeHeads ∧ (s.wr k v).dozePaused = s.dozePaused ∧ (s.wr k v).wakeAsk = s.wakeAsk
    ∧ (s.wr k v).after = s.after ∧ (s.wr k v).testBy = s.testBy ∧ (s.wr k v).port = s.port ∧ (s.wr k v).sent = s.sent
    ∧ (s.wr k v).free = s.free := by
  and_intros <;> rfl

@[simp] theorem State.wr_tables (s : State) (k : Nat) (v : Word) :
    (∀ i, (s.wr k v).byte i = s.byte i) ∧ (∀ i, (s.wr k v).core i = s.core i) ∧ (∀ i, (s.wr k v).head i = s.head i)
    ∧ (∀ i, (s.wr k v).journal i = s.journal i) ∧ (∀ i, (s.wr k v).link i = s.link i) ∧ (∀ i, (s.wr k v).fn i = s.fn i)
    ∧ (∀ i, (s.wr k v).blk i = s.blk i) ∧ (∀ i, (s.wr k v).chan i = s.chan i) ∧ (∀ i, (s.wr k v).march i = s.march i)
    ∧ (∀ i, (s.wr k v).cmp i = s.cmp i) ∧ (∀ i, (s.wr k v).cap i = s.cap i) ∧ (∀ i, (s.wr k v).bell i = s.bell i)
    ∧ (∀ i, (s.wr k v).src i = s.src i) ∧ (∀ i, (s.wr k v).pin i = s.pin i) ∧ (∀ i, (s.wr k v).ser i = s.ser i)
    ∧ (∀ i, (s.wr k v).qd i = s.qd i) ∧ (∀ i, (s.wr k v).mx i = s.mx i) ∧ (∀ i, (s.wr k v).mtr i = s.mtr i)
    ∧ (∀ i, (s.wr k v).cached i = s.cached i) ∧ (∀ i, (s.wr k v).voice i = s.voice i) ∧ (∀ i, (s.wr k v).turn i = s.turn i) := by
  and_intros <;> exact fun _ => rfl

@[simp] theorem State.wrN_fields (s : State) (k n : Nat) :
    (s.wrN k n).pending = s.pending ∧ (s.wrN k n).mem = s.mem ∧ (s.wrN k n).marks = s.marks ∧ (s.wrN k n).flaws = s.flaws
    ∧ (s.wrN k n).flash = s.flash ∧ (s.wrN k n).cards = s.cards ∧ (s.wrN k n).sram = s.sram ∧ (s.wrN k n).mode = s.mode
    ∧ (s.wrN k n).plan = s.plan ∧ (s.wrN k n).staged = s.staged ∧ (s.wrN k n).links = s.links ∧ (s.wrN k n).fns = s.fns
    ∧ (s.wrN k n).perst = s.perst ∧ (s.wrN k n).armed = s.armed ∧ (s.wrN k n).railsIn = s.railsIn ∧ (s.wrN k n).wakePin = s.wakePin
    ∧ (s.wrN k n).cores = s.cores ∧ (s.wrN k n).heads = s.heads ∧ (s.wrN k n).journals = s.journals ∧ (s.wrN k n).jm = s.jm
    ∧ (s.wrN k n).badEngines = s.badEngines ∧ (s.wrN k n).badUnits = s.badUnits ∧ (s.wrN k n).ringCache = s.ringCache
    ∧ (s.wrN k n).ringNow = s.ringNow ∧ (s.wrN k n).turns = s.turns ∧ (s.wrN k n).blks = s.blks ∧ (s.wrN k n).chans = s.chans
    ∧ (s.wrN k n).marches = s.marches ∧ (s.wrN k n).rot = s.rot ∧ (s.wrN k n).scrubPos = s.scrubPos ∧ (s.wrN k n).watches = s.watches
    ∧ (s.wrN k n).retired = s.retired ∧ (s.wrN k n).retiring = s.retiring ∧ (s.wrN k n).ueSeen = s.ueSeen ∧ (s.wrN k n).tb = s.tb
    ∧ (s.wrN k n).tbLf = s.tbLf ∧ (s.wrN k n).tbStepNo = s.tbStepNo ∧ (s.wrN k n).snaps = s.snaps ∧ (s.wrN k n).cmps = s.cmps
    ∧ (s.wrN k n).caps = s.caps ∧ (s.wrN k n).bells = s.bells ∧ (s.wrN k n).routes = s.routes ∧ (s.wrN k n).fired = s.fired
    ∧ (s.wrN k n).srcs = s.srcs ∧ (s.wrN k n).pins = s.pins ∧ (s.wrN k n).sers = s.sers ∧ (s.wrN k n).qds = s.qds
    ∧ (s.wrN k n).mxs = s.mxs ∧ (s.wrN k n).mtrs = s.mtrs ∧ (s.wrN k n).audio = s.audio ∧ (s.wrN k n).tally = s.tally
    ∧ (s.wrN k n).sense = s.sense ∧ (s.wrN k n).stormLimit = s.stormLimit ∧ (s.wrN k n).clerkRestarts = s.clerkRestarts
    ∧ (s.wrN k n).clerkUp = s.clerkUp ∧ (s.wrN k n).bootTb = s.bootTb ∧ (s.wrN k n).slot = s.slot
    ∧ (s.wrN k n).serviceAsk = s.serviceAsk ∧ (s.wrN k n).unverified = s.unverified ∧ (s.wrN k n).warm = s.warm
    ∧ (s.wrN k n).ran = s.ran ∧ (s.wrN k n).badCores = s.badCores ∧ (s.wrN k n).badHeads = s.badHeads
    ∧ (s.wrN k n).badBanks = s.badBanks ∧ (s.wrN k n).badLanes = s.badLanes ∧ (s.wrN k n).ordered = s.ordered
    ∧ (s.wrN k n).openFills = s.openFills ∧ (s.wrN k n).straps = s.straps ∧ (s.wrN k n).bootLog = s.bootLog
    ∧ (s.wrN k n).settings = s.settings ∧ (s.wrN k n).closing = s.closing ∧ (s.wrN k n).closingNo = s.closingNo
    ∧ (s.wrN k n).closeStep = s.closeStep ∧ (s.wrN k n).dozeAsk = s.dozeAsk ∧ (s.wrN k n).dozeHeads = s.dozeHeads
    ∧ (s.wrN k n).dozePaused = s.dozePaused ∧ (s.wrN k n).wakeAsk = s.wakeAsk ∧ (s.wrN k n).after = s.after
    ∧ (s.wrN k n).testBy = s.testBy ∧ (s.wrN k n).port = s.port ∧ (s.wrN k n).sent = s.sent ∧ (s.wrN k n).free = s.free := s.wr_fields k _

@[simp] theorem State.wrN_tables (s : State) (k n : Nat) :
    (∀ i, (s.wrN k n).byte i = s.byte i) ∧ (∀ i, (s.wrN k n).core i = s.core i) ∧ (∀ i, (s.wrN k n).head i = s.head i)
    ∧ (∀ i, (s.wrN k n).journal i = s.journal i) ∧ (∀ i, (s.wrN k n).link i = s.link i) ∧ (∀ i, (s.wrN k n).fn i = s.fn i)
    ∧ (∀ i, (s.wrN k n).blk i = s.blk i) ∧ (∀ i, (s.wrN k n).chan i = s.chan i) ∧ (∀ i, (s.wrN k n).march i = s.march i)
    ∧ (∀ i, (s.wrN k n).cmp i = s.cmp i) ∧ (∀ i, (s.wrN k n).cap i = s.cap i) ∧ (∀ i, (s.wrN k n).bell i = s.bell i)
    ∧ (∀ i, (s.wrN k n).src i = s.src i) ∧ (∀ i, (s.wrN k n).pin i = s.pin i) ∧ (∀ i, (s.wrN k n).ser i = s.ser i)
    ∧ (∀ i, (s.wrN k n).qd i = s.qd i) ∧ (∀ i, (s.wrN k n).mx i = s.mx i) ∧ (∀ i, (s.wrN k n).mtr i = s.mtr i)
    ∧ (∀ i, (s.wrN k n).cached i = s.cached i) ∧ (∀ i, (s.wrN k n).voice i = s.voice i) ∧ (∀ i, (s.wrN k n).turn i = s.turn i) := s.wr_tables k _

@[simp] theorem State.wr64_fields (s : State) (k n : Nat) :
    (s.wr64 k n).pending = s.pending ∧ (s.wr64 k n).mem = s.mem ∧ (s.wr64 k n).marks = s.marks ∧ (s.wr64 k n).flaws = s.flaws
    ∧ (s.wr64 k n).flash = s.flash ∧ (s.wr64 k n).cards = s.cards ∧ (s.wr64 k n).sram = s.sram ∧ (s.wr64 k n).mode = s.mode
    ∧ (s.wr64 k n).plan = s.plan ∧ (s.wr64 k n).staged = s.staged ∧ (s.wr64 k n).links = s.links ∧ (s.wr64 k n).fns = s.fns
    ∧ (s.wr64 k n).perst = s.perst ∧ (s.wr64 k n).armed = s.armed ∧ (s.wr64 k n).railsIn = s.railsIn ∧ (s.wr64 k n).wakePin = s.wakePin
    ∧ (s.wr64 k n).cores = s.cores ∧ (s.wr64 k n).heads = s.heads ∧ (s.wr64 k n).journals = s.journals ∧ (s.wr64 k n).jm = s.jm
    ∧ (s.wr64 k n).badEngines = s.badEngines ∧ (s.wr64 k n).badUnits = s.badUnits ∧ (s.wr64 k n).ringCache = s.ringCache
    ∧ (s.wr64 k n).ringNow = s.ringNow ∧ (s.wr64 k n).turns = s.turns ∧ (s.wr64 k n).blks = s.blks ∧ (s.wr64 k n).chans = s.chans
    ∧ (s.wr64 k n).marches = s.marches ∧ (s.wr64 k n).rot = s.rot ∧ (s.wr64 k n).scrubPos = s.scrubPos
    ∧ (s.wr64 k n).watches = s.watches ∧ (s.wr64 k n).retired = s.retired ∧ (s.wr64 k n).retiring = s.retiring
    ∧ (s.wr64 k n).ueSeen = s.ueSeen ∧ (s.wr64 k n).tb = s.tb ∧ (s.wr64 k n).tbLf = s.tbLf ∧ (s.wr64 k n).tbStepNo = s.tbStepNo
    ∧ (s.wr64 k n).snaps = s.snaps ∧ (s.wr64 k n).cmps = s.cmps ∧ (s.wr64 k n).caps = s.caps ∧ (s.wr64 k n).bells = s.bells
    ∧ (s.wr64 k n).routes = s.routes ∧ (s.wr64 k n).fired = s.fired ∧ (s.wr64 k n).srcs = s.srcs ∧ (s.wr64 k n).pins = s.pins
    ∧ (s.wr64 k n).sers = s.sers ∧ (s.wr64 k n).qds = s.qds ∧ (s.wr64 k n).mxs = s.mxs ∧ (s.wr64 k n).mtrs = s.mtrs
    ∧ (s.wr64 k n).audio = s.audio ∧ (s.wr64 k n).tally = s.tally ∧ (s.wr64 k n).sense = s.sense
    ∧ (s.wr64 k n).stormLimit = s.stormLimit ∧ (s.wr64 k n).clerkRestarts = s.clerkRestarts ∧ (s.wr64 k n).clerkUp = s.clerkUp
    ∧ (s.wr64 k n).bootTb = s.bootTb ∧ (s.wr64 k n).slot = s.slot ∧ (s.wr64 k n).serviceAsk = s.serviceAsk
    ∧ (s.wr64 k n).unverified = s.unverified ∧ (s.wr64 k n).warm = s.warm ∧ (s.wr64 k n).ran = s.ran
    ∧ (s.wr64 k n).badCores = s.badCores ∧ (s.wr64 k n).badHeads = s.badHeads ∧ (s.wr64 k n).badBanks = s.badBanks
    ∧ (s.wr64 k n).badLanes = s.badLanes ∧ (s.wr64 k n).ordered = s.ordered ∧ (s.wr64 k n).openFills = s.openFills
    ∧ (s.wr64 k n).straps = s.straps ∧ (s.wr64 k n).bootLog = s.bootLog ∧ (s.wr64 k n).settings = s.settings
    ∧ (s.wr64 k n).closing = s.closing ∧ (s.wr64 k n).closingNo = s.closingNo ∧ (s.wr64 k n).closeStep = s.closeStep
    ∧ (s.wr64 k n).dozeAsk = s.dozeAsk ∧ (s.wr64 k n).dozeHeads = s.dozeHeads ∧ (s.wr64 k n).dozePaused = s.dozePaused
    ∧ (s.wr64 k n).wakeAsk = s.wakeAsk ∧ (s.wr64 k n).after = s.after ∧ (s.wr64 k n).testBy = s.testBy ∧ (s.wr64 k n).port = s.port
    ∧ (s.wr64 k n).sent = s.sent ∧ (s.wr64 k n).free = s.free := by
  and_intros <;> rfl

@[simp] theorem State.wr64_tables (s : State) (k n : Nat) :
    (∀ i, (s.wr64 k n).byte i = s.byte i) ∧ (∀ i, (s.wr64 k n).core i = s.core i) ∧ (∀ i, (s.wr64 k n).head i = s.head i)
    ∧ (∀ i, (s.wr64 k n).journal i = s.journal i) ∧ (∀ i, (s.wr64 k n).link i = s.link i) ∧ (∀ i, (s.wr64 k n).fn i = s.fn i)
    ∧ (∀ i, (s.wr64 k n).blk i = s.blk i) ∧ (∀ i, (s.wr64 k n).chan i = s.chan i) ∧ (∀ i, (s.wr64 k n).march i = s.march i)
    ∧ (∀ i, (s.wr64 k n).cmp i = s.cmp i) ∧ (∀ i, (s.wr64 k n).cap i = s.cap i) ∧ (∀ i, (s.wr64 k n).bell i = s.bell i)
    ∧ (∀ i, (s.wr64 k n).src i = s.src i) ∧ (∀ i, (s.wr64 k n).pin i = s.pin i) ∧ (∀ i, (s.wr64 k n).ser i = s.ser i)
    ∧ (∀ i, (s.wr64 k n).qd i = s.qd i) ∧ (∀ i, (s.wr64 k n).mx i = s.mx i) ∧ (∀ i, (s.wr64 k n).mtr i = s.mtr i)
    ∧ (∀ i, (s.wr64 k n).cached i = s.cached i) ∧ (∀ i, (s.wr64 k n).voice i = s.voice i) ∧ (∀ i, (s.wr64 k n).turn i = s.turn i) := by
  and_intros <;> exact fun _ => rfl

@[simp] theorem State.setF_fields (s : State) (k hi lo n : Nat) :
    (s.setF k hi lo n).pending = s.pending ∧ (s.setF k hi lo n).mem = s.mem ∧ (s.setF k hi lo n).marks = s.marks
    ∧ (s.setF k hi lo n).flaws = s.flaws ∧ (s.setF k hi lo n).flash = s.flash ∧ (s.setF k hi lo n).cards = s.cards
    ∧ (s.setF k hi lo n).sram = s.sram ∧ (s.setF k hi lo n).mode = s.mode ∧ (s.setF k hi lo n).plan = s.plan
    ∧ (s.setF k hi lo n).staged = s.staged ∧ (s.setF k hi lo n).links = s.links ∧ (s.setF k hi lo n).fns = s.fns
    ∧ (s.setF k hi lo n).perst = s.perst ∧ (s.setF k hi lo n).armed = s.armed ∧ (s.setF k hi lo n).railsIn = s.railsIn
    ∧ (s.setF k hi lo n).wakePin = s.wakePin ∧ (s.setF k hi lo n).cores = s.cores ∧ (s.setF k hi lo n).heads = s.heads
    ∧ (s.setF k hi lo n).journals = s.journals ∧ (s.setF k hi lo n).jm = s.jm ∧ (s.setF k hi lo n).badEngines = s.badEngines
    ∧ (s.setF k hi lo n).badUnits = s.badUnits ∧ (s.setF k hi lo n).ringCache = s.ringCache ∧ (s.setF k hi lo n).ringNow = s.ringNow
    ∧ (s.setF k hi lo n).turns = s.turns ∧ (s.setF k hi lo n).blks = s.blks ∧ (s.setF k hi lo n).chans = s.chans
    ∧ (s.setF k hi lo n).marches = s.marches ∧ (s.setF k hi lo n).rot = s.rot ∧ (s.setF k hi lo n).scrubPos = s.scrubPos
    ∧ (s.setF k hi lo n).watches = s.watches ∧ (s.setF k hi lo n).retired = s.retired ∧ (s.setF k hi lo n).retiring = s.retiring
    ∧ (s.setF k hi lo n).ueSeen = s.ueSeen ∧ (s.setF k hi lo n).tb = s.tb ∧ (s.setF k hi lo n).tbLf = s.tbLf
    ∧ (s.setF k hi lo n).tbStepNo = s.tbStepNo ∧ (s.setF k hi lo n).snaps = s.snaps ∧ (s.setF k hi lo n).cmps = s.cmps
    ∧ (s.setF k hi lo n).caps = s.caps ∧ (s.setF k hi lo n).bells = s.bells ∧ (s.setF k hi lo n).routes = s.routes
    ∧ (s.setF k hi lo n).fired = s.fired ∧ (s.setF k hi lo n).srcs = s.srcs ∧ (s.setF k hi lo n).pins = s.pins
    ∧ (s.setF k hi lo n).sers = s.sers ∧ (s.setF k hi lo n).qds = s.qds ∧ (s.setF k hi lo n).mxs = s.mxs
    ∧ (s.setF k hi lo n).mtrs = s.mtrs ∧ (s.setF k hi lo n).audio = s.audio ∧ (s.setF k hi lo n).tally = s.tally
    ∧ (s.setF k hi lo n).sense = s.sense ∧ (s.setF k hi lo n).stormLimit = s.stormLimit
    ∧ (s.setF k hi lo n).clerkRestarts = s.clerkRestarts ∧ (s.setF k hi lo n).clerkUp = s.clerkUp
    ∧ (s.setF k hi lo n).bootTb = s.bootTb ∧ (s.setF k hi lo n).slot = s.slot ∧ (s.setF k hi lo n).serviceAsk = s.serviceAsk
    ∧ (s.setF k hi lo n).unverified = s.unverified ∧ (s.setF k hi lo n).warm = s.warm ∧ (s.setF k hi lo n).ran = s.ran
    ∧ (s.setF k hi lo n).badCores = s.badCores ∧ (s.setF k hi lo n).badHeads = s.badHeads ∧ (s.setF k hi lo n).badBanks = s.badBanks
    ∧ (s.setF k hi lo n).badLanes = s.badLanes ∧ (s.setF k hi lo n).ordered = s.ordered ∧ (s.setF k hi lo n).openFills = s.openFills
    ∧ (s.setF k hi lo n).straps = s.straps ∧ (s.setF k hi lo n).bootLog = s.bootLog ∧ (s.setF k hi lo n).settings = s.settings
    ∧ (s.setF k hi lo n).closing = s.closing ∧ (s.setF k hi lo n).closingNo = s.closingNo ∧ (s.setF k hi lo n).closeStep = s.closeStep
    ∧ (s.setF k hi lo n).dozeAsk = s.dozeAsk ∧ (s.setF k hi lo n).dozeHeads = s.dozeHeads
    ∧ (s.setF k hi lo n).dozePaused = s.dozePaused ∧ (s.setF k hi lo n).wakeAsk = s.wakeAsk ∧ (s.setF k hi lo n).after = s.after
    ∧ (s.setF k hi lo n).testBy = s.testBy ∧ (s.setF k hi lo n).port = s.port ∧ (s.setF k hi lo n).sent = s.sent
    ∧ (s.setF k hi lo n).free = s.free := s.wr_fields k _

@[simp] theorem State.setF_tables (s : State) (k hi lo n : Nat) :
    (∀ i, (s.setF k hi lo n).byte i = s.byte i) ∧ (∀ i, (s.setF k hi lo n).core i = s.core i)
    ∧ (∀ i, (s.setF k hi lo n).head i = s.head i) ∧ (∀ i, (s.setF k hi lo n).journal i = s.journal i)
    ∧ (∀ i, (s.setF k hi lo n).link i = s.link i) ∧ (∀ i, (s.setF k hi lo n).fn i = s.fn i) ∧ (∀ i, (s.setF k hi lo n).blk i = s.blk i)
    ∧ (∀ i, (s.setF k hi lo n).chan i = s.chan i) ∧ (∀ i, (s.setF k hi lo n).march i = s.march i)
    ∧ (∀ i, (s.setF k hi lo n).cmp i = s.cmp i) ∧ (∀ i, (s.setF k hi lo n).cap i = s.cap i)
    ∧ (∀ i, (s.setF k hi lo n).bell i = s.bell i) ∧ (∀ i, (s.setF k hi lo n).src i = s.src i)
    ∧ (∀ i, (s.setF k hi lo n).pin i = s.pin i) ∧ (∀ i, (s.setF k hi lo n).ser i = s.ser i) ∧ (∀ i, (s.setF k hi lo n).qd i = s.qd i)
    ∧ (∀ i, (s.setF k hi lo n).mx i = s.mx i) ∧ (∀ i, (s.setF k hi lo n).mtr i = s.mtr i)
    ∧ (∀ i, (s.setF k hi lo n).cached i = s.cached i) ∧ (∀ i, (s.setF k hi lo n).voice i = s.voice i)
    ∧ (∀ i, (s.setF k hi lo n).turn i = s.turn i) := s.wr_tables k _

@[simp] theorem State.setB_fields (s : State) (k b : Nat) (v : Bool) :
    (s.setB k b v).pending = s.pending ∧ (s.setB k b v).mem = s.mem ∧ (s.setB k b v).marks = s.marks ∧ (s.setB k b v).flaws = s.flaws
    ∧ (s.setB k b v).flash = s.flash ∧ (s.setB k b v).cards = s.cards ∧ (s.setB k b v).sram = s.sram ∧ (s.setB k b v).mode = s.mode
    ∧ (s.setB k b v).plan = s.plan ∧ (s.setB k b v).staged = s.staged ∧ (s.setB k b v).links = s.links ∧ (s.setB k b v).fns = s.fns
    ∧ (s.setB k b v).perst = s.perst ∧ (s.setB k b v).armed = s.armed ∧ (s.setB k b v).railsIn = s.railsIn
    ∧ (s.setB k b v).wakePin = s.wakePin ∧ (s.setB k b v).cores = s.cores ∧ (s.setB k b v).heads = s.heads
    ∧ (s.setB k b v).journals = s.journals ∧ (s.setB k b v).jm = s.jm ∧ (s.setB k b v).badEngines = s.badEngines
    ∧ (s.setB k b v).badUnits = s.badUnits ∧ (s.setB k b v).ringCache = s.ringCache ∧ (s.setB k b v).ringNow = s.ringNow
    ∧ (s.setB k b v).turns = s.turns ∧ (s.setB k b v).blks = s.blks ∧ (s.setB k b v).chans = s.chans
    ∧ (s.setB k b v).marches = s.marches ∧ (s.setB k b v).rot = s.rot ∧ (s.setB k b v).scrubPos = s.scrubPos
    ∧ (s.setB k b v).watches = s.watches ∧ (s.setB k b v).retired = s.retired ∧ (s.setB k b v).retiring = s.retiring
    ∧ (s.setB k b v).ueSeen = s.ueSeen ∧ (s.setB k b v).tb = s.tb ∧ (s.setB k b v).tbLf = s.tbLf ∧ (s.setB k b v).tbStepNo = s.tbStepNo
    ∧ (s.setB k b v).snaps = s.snaps ∧ (s.setB k b v).cmps = s.cmps ∧ (s.setB k b v).caps = s.caps ∧ (s.setB k b v).bells = s.bells
    ∧ (s.setB k b v).routes = s.routes ∧ (s.setB k b v).fired = s.fired ∧ (s.setB k b v).srcs = s.srcs ∧ (s.setB k b v).pins = s.pins
    ∧ (s.setB k b v).sers = s.sers ∧ (s.setB k b v).qds = s.qds ∧ (s.setB k b v).mxs = s.mxs ∧ (s.setB k b v).mtrs = s.mtrs
    ∧ (s.setB k b v).audio = s.audio ∧ (s.setB k b v).tally = s.tally ∧ (s.setB k b v).sense = s.sense
    ∧ (s.setB k b v).stormLimit = s.stormLimit ∧ (s.setB k b v).clerkRestarts = s.clerkRestarts ∧ (s.setB k b v).clerkUp = s.clerkUp
    ∧ (s.setB k b v).bootTb = s.bootTb ∧ (s.setB k b v).slot = s.slot ∧ (s.setB k b v).serviceAsk = s.serviceAsk
    ∧ (s.setB k b v).unverified = s.unverified ∧ (s.setB k b v).warm = s.warm ∧ (s.setB k b v).ran = s.ran
    ∧ (s.setB k b v).badCores = s.badCores ∧ (s.setB k b v).badHeads = s.badHeads ∧ (s.setB k b v).badBanks = s.badBanks
    ∧ (s.setB k b v).badLanes = s.badLanes ∧ (s.setB k b v).ordered = s.ordered ∧ (s.setB k b v).openFills = s.openFills
    ∧ (s.setB k b v).straps = s.straps ∧ (s.setB k b v).bootLog = s.bootLog ∧ (s.setB k b v).settings = s.settings
    ∧ (s.setB k b v).closing = s.closing ∧ (s.setB k b v).closingNo = s.closingNo ∧ (s.setB k b v).closeStep = s.closeStep
    ∧ (s.setB k b v).dozeAsk = s.dozeAsk ∧ (s.setB k b v).dozeHeads = s.dozeHeads ∧ (s.setB k b v).dozePaused = s.dozePaused
    ∧ (s.setB k b v).wakeAsk = s.wakeAsk ∧ (s.setB k b v).after = s.after ∧ (s.setB k b v).testBy = s.testBy
    ∧ (s.setB k b v).port = s.port ∧ (s.setB k b v).sent = s.sent ∧ (s.setB k b v).free = s.free := s.wr_fields k _

@[simp] theorem State.setB_tables (s : State) (k b : Nat) (v : Bool) :
    (∀ i, (s.setB k b v).byte i = s.byte i) ∧ (∀ i, (s.setB k b v).core i = s.core i) ∧ (∀ i, (s.setB k b v).head i = s.head i)
    ∧ (∀ i, (s.setB k b v).journal i = s.journal i) ∧ (∀ i, (s.setB k b v).link i = s.link i) ∧ (∀ i, (s.setB k b v).fn i = s.fn i)
    ∧ (∀ i, (s.setB k b v).blk i = s.blk i) ∧ (∀ i, (s.setB k b v).chan i = s.chan i) ∧ (∀ i, (s.setB k b v).march i = s.march i)
    ∧ (∀ i, (s.setB k b v).cmp i = s.cmp i) ∧ (∀ i, (s.setB k b v).cap i = s.cap i) ∧ (∀ i, (s.setB k b v).bell i = s.bell i)
    ∧ (∀ i, (s.setB k b v).src i = s.src i) ∧ (∀ i, (s.setB k b v).pin i = s.pin i) ∧ (∀ i, (s.setB k b v).ser i = s.ser i)
    ∧ (∀ i, (s.setB k b v).qd i = s.qd i) ∧ (∀ i, (s.setB k b v).mx i = s.mx i) ∧ (∀ i, (s.setB k b v).mtr i = s.mtr i)
    ∧ (∀ i, (s.setB k b v).cached i = s.cached i) ∧ (∀ i, (s.setB k b v).voice i = s.voice i) ∧ (∀ i, (s.setB k b v).turn i = s.turn i) := s.wr_tables k _

@[simp] theorem State.addSat_fields (s : State) (k hi lo n : Nat) :
    (s.addSat k hi lo n).pending = s.pending ∧ (s.addSat k hi lo n).mem = s.mem ∧ (s.addSat k hi lo n).marks = s.marks
    ∧ (s.addSat k hi lo n).flaws = s.flaws ∧ (s.addSat k hi lo n).flash = s.flash ∧ (s.addSat k hi lo n).cards = s.cards
    ∧ (s.addSat k hi lo n).sram = s.sram ∧ (s.addSat k hi lo n).mode = s.mode ∧ (s.addSat k hi lo n).plan = s.plan
    ∧ (s.addSat k hi lo n).staged = s.staged ∧ (s.addSat k hi lo n).links = s.links ∧ (s.addSat k hi lo n).fns = s.fns
    ∧ (s.addSat k hi lo n).perst = s.perst ∧ (s.addSat k hi lo n).armed = s.armed ∧ (s.addSat k hi lo n).railsIn = s.railsIn
    ∧ (s.addSat k hi lo n).wakePin = s.wakePin ∧ (s.addSat k hi lo n).cores = s.cores ∧ (s.addSat k hi lo n).heads = s.heads
    ∧ (s.addSat k hi lo n).journals = s.journals ∧ (s.addSat k hi lo n).jm = s.jm ∧ (s.addSat k hi lo n).badEngines = s.badEngines
    ∧ (s.addSat k hi lo n).badUnits = s.badUnits ∧ (s.addSat k hi lo n).ringCache = s.ringCache
    ∧ (s.addSat k hi lo n).ringNow = s.ringNow ∧ (s.addSat k hi lo n).turns = s.turns ∧ (s.addSat k hi lo n).blks = s.blks
    ∧ (s.addSat k hi lo n).chans = s.chans ∧ (s.addSat k hi lo n).marches = s.marches ∧ (s.addSat k hi lo n).rot = s.rot
    ∧ (s.addSat k hi lo n).scrubPos = s.scrubPos ∧ (s.addSat k hi lo n).watches = s.watches ∧ (s.addSat k hi lo n).retired = s.retired
    ∧ (s.addSat k hi lo n).retiring = s.retiring ∧ (s.addSat k hi lo n).ueSeen = s.ueSeen ∧ (s.addSat k hi lo n).tb = s.tb
    ∧ (s.addSat k hi lo n).tbLf = s.tbLf ∧ (s.addSat k hi lo n).tbStepNo = s.tbStepNo ∧ (s.addSat k hi lo n).snaps = s.snaps
    ∧ (s.addSat k hi lo n).cmps = s.cmps ∧ (s.addSat k hi lo n).caps = s.caps ∧ (s.addSat k hi lo n).bells = s.bells
    ∧ (s.addSat k hi lo n).routes = s.routes ∧ (s.addSat k hi lo n).fired = s.fired ∧ (s.addSat k hi lo n).srcs = s.srcs
    ∧ (s.addSat k hi lo n).pins = s.pins ∧ (s.addSat k hi lo n).sers = s.sers ∧ (s.addSat k hi lo n).qds = s.qds
    ∧ (s.addSat k hi lo n).mxs = s.mxs ∧ (s.addSat k hi lo n).mtrs = s.mtrs ∧ (s.addSat k hi lo n).audio = s.audio
    ∧ (s.addSat k hi lo n).tally = s.tally ∧ (s.addSat k hi lo n).sense = s.sense ∧ (s.addSat k hi lo n).stormLimit = s.stormLimit
    ∧ (s.addSat k hi lo n).clerkRestarts = s.clerkRestarts ∧ (s.addSat k hi lo n).clerkUp = s.clerkUp
    ∧ (s.addSat k hi lo n).bootTb = s.bootTb ∧ (s.addSat k hi lo n).slot = s.slot ∧ (s.addSat k hi lo n).serviceAsk = s.serviceAsk
    ∧ (s.addSat k hi lo n).unverified = s.unverified ∧ (s.addSat k hi lo n).warm = s.warm ∧ (s.addSat k hi lo n).ran = s.ran
    ∧ (s.addSat k hi lo n).badCores = s.badCores ∧ (s.addSat k hi lo n).badHeads = s.badHeads
    ∧ (s.addSat k hi lo n).badBanks = s.badBanks ∧ (s.addSat k hi lo n).badLanes = s.badLanes
    ∧ (s.addSat k hi lo n).ordered = s.ordered ∧ (s.addSat k hi lo n).openFills = s.openFills ∧ (s.addSat k hi lo n).straps = s.straps
    ∧ (s.addSat k hi lo n).bootLog = s.bootLog ∧ (s.addSat k hi lo n).settings = s.settings ∧ (s.addSat k hi lo n).closing = s.closing
    ∧ (s.addSat k hi lo n).closingNo = s.closingNo ∧ (s.addSat k hi lo n).closeStep = s.closeStep
    ∧ (s.addSat k hi lo n).dozeAsk = s.dozeAsk ∧ (s.addSat k hi lo n).dozeHeads = s.dozeHeads
    ∧ (s.addSat k hi lo n).dozePaused = s.dozePaused ∧ (s.addSat k hi lo n).wakeAsk = s.wakeAsk ∧ (s.addSat k hi lo n).after = s.after
    ∧ (s.addSat k hi lo n).testBy = s.testBy ∧ (s.addSat k hi lo n).port = s.port ∧ (s.addSat k hi lo n).sent = s.sent
    ∧ (s.addSat k hi lo n).free = s.free := s.setF_fields k hi lo _

@[simp] theorem State.addSat_tables (s : State) (k hi lo n : Nat) :
    (∀ i, (s.addSat k hi lo n).byte i = s.byte i) ∧ (∀ i, (s.addSat k hi lo n).core i = s.core i)
    ∧ (∀ i, (s.addSat k hi lo n).head i = s.head i) ∧ (∀ i, (s.addSat k hi lo n).journal i = s.journal i)
    ∧ (∀ i, (s.addSat k hi lo n).link i = s.link i) ∧ (∀ i, (s.addSat k hi lo n).fn i = s.fn i)
    ∧ (∀ i, (s.addSat k hi lo n).blk i = s.blk i) ∧ (∀ i, (s.addSat k hi lo n).chan i = s.chan i)
    ∧ (∀ i, (s.addSat k hi lo n).march i = s.march i) ∧ (∀ i, (s.addSat k hi lo n).cmp i = s.cmp i)
    ∧ (∀ i, (s.addSat k hi lo n).cap i = s.cap i) ∧ (∀ i, (s.addSat k hi lo n).bell i = s.bell i)
    ∧ (∀ i, (s.addSat k hi lo n).src i = s.src i) ∧ (∀ i, (s.addSat k hi lo n).pin i = s.pin i)
    ∧ (∀ i, (s.addSat k hi lo n).ser i = s.ser i) ∧ (∀ i, (s.addSat k hi lo n).qd i = s.qd i)
    ∧ (∀ i, (s.addSat k hi lo n).mx i = s.mx i) ∧ (∀ i, (s.addSat k hi lo n).mtr i = s.mtr i)
    ∧ (∀ i, (s.addSat k hi lo n).cached i = s.cached i) ∧ (∀ i, (s.addSat k hi lo n).voice i = s.voice i)
    ∧ (∀ i, (s.addSat k hi lo n).turn i = s.turn i) := s.setF_tables k hi lo _

@[simp] theorem State.incSat_fields (s : State) (k hi lo : Nat) :
    (s.incSat k hi lo).pending = s.pending ∧ (s.incSat k hi lo).mem = s.mem ∧ (s.incSat k hi lo).marks = s.marks
    ∧ (s.incSat k hi lo).flaws = s.flaws ∧ (s.incSat k hi lo).flash = s.flash ∧ (s.incSat k hi lo).cards = s.cards
    ∧ (s.incSat k hi lo).sram = s.sram ∧ (s.incSat k hi lo).mode = s.mode ∧ (s.incSat k hi lo).plan = s.plan
    ∧ (s.incSat k hi lo).staged = s.staged ∧ (s.incSat k hi lo).links = s.links ∧ (s.incSat k hi lo).fns = s.fns
    ∧ (s.incSat k hi lo).perst = s.perst ∧ (s.incSat k hi lo).armed = s.armed ∧ (s.incSat k hi lo).railsIn = s.railsIn
    ∧ (s.incSat k hi lo).wakePin = s.wakePin ∧ (s.incSat k hi lo).cores = s.cores ∧ (s.incSat k hi lo).heads = s.heads
    ∧ (s.incSat k hi lo).journals = s.journals ∧ (s.incSat k hi lo).jm = s.jm ∧ (s.incSat k hi lo).badEngines = s.badEngines
    ∧ (s.incSat k hi lo).badUnits = s.badUnits ∧ (s.incSat k hi lo).ringCache = s.ringCache ∧ (s.incSat k hi lo).ringNow = s.ringNow
    ∧ (s.incSat k hi lo).turns = s.turns ∧ (s.incSat k hi lo).blks = s.blks ∧ (s.incSat k hi lo).chans = s.chans
    ∧ (s.incSat k hi lo).marches = s.marches ∧ (s.incSat k hi lo).rot = s.rot ∧ (s.incSat k hi lo).scrubPos = s.scrubPos
    ∧ (s.incSat k hi lo).watches = s.watches ∧ (s.incSat k hi lo).retired = s.retired ∧ (s.incSat k hi lo).retiring = s.retiring
    ∧ (s.incSat k hi lo).ueSeen = s.ueSeen ∧ (s.incSat k hi lo).tb = s.tb ∧ (s.incSat k hi lo).tbLf = s.tbLf
    ∧ (s.incSat k hi lo).tbStepNo = s.tbStepNo ∧ (s.incSat k hi lo).snaps = s.snaps ∧ (s.incSat k hi lo).cmps = s.cmps
    ∧ (s.incSat k hi lo).caps = s.caps ∧ (s.incSat k hi lo).bells = s.bells ∧ (s.incSat k hi lo).routes = s.routes
    ∧ (s.incSat k hi lo).fired = s.fired ∧ (s.incSat k hi lo).srcs = s.srcs ∧ (s.incSat k hi lo).pins = s.pins
    ∧ (s.incSat k hi lo).sers = s.sers ∧ (s.incSat k hi lo).qds = s.qds ∧ (s.incSat k hi lo).mxs = s.mxs
    ∧ (s.incSat k hi lo).mtrs = s.mtrs ∧ (s.incSat k hi lo).audio = s.audio ∧ (s.incSat k hi lo).tally = s.tally
    ∧ (s.incSat k hi lo).sense = s.sense ∧ (s.incSat k hi lo).stormLimit = s.stormLimit
    ∧ (s.incSat k hi lo).clerkRestarts = s.clerkRestarts ∧ (s.incSat k hi lo).clerkUp = s.clerkUp
    ∧ (s.incSat k hi lo).bootTb = s.bootTb ∧ (s.incSat k hi lo).slot = s.slot ∧ (s.incSat k hi lo).serviceAsk = s.serviceAsk
    ∧ (s.incSat k hi lo).unverified = s.unverified ∧ (s.incSat k hi lo).warm = s.warm ∧ (s.incSat k hi lo).ran = s.ran
    ∧ (s.incSat k hi lo).badCores = s.badCores ∧ (s.incSat k hi lo).badHeads = s.badHeads ∧ (s.incSat k hi lo).badBanks = s.badBanks
    ∧ (s.incSat k hi lo).badLanes = s.badLanes ∧ (s.incSat k hi lo).ordered = s.ordered ∧ (s.incSat k hi lo).openFills = s.openFills
    ∧ (s.incSat k hi lo).straps = s.straps ∧ (s.incSat k hi lo).bootLog = s.bootLog ∧ (s.incSat k hi lo).settings = s.settings
    ∧ (s.incSat k hi lo).closing = s.closing ∧ (s.incSat k hi lo).closingNo = s.closingNo ∧ (s.incSat k hi lo).closeStep = s.closeStep
    ∧ (s.incSat k hi lo).dozeAsk = s.dozeAsk ∧ (s.incSat k hi lo).dozeHeads = s.dozeHeads
    ∧ (s.incSat k hi lo).dozePaused = s.dozePaused ∧ (s.incSat k hi lo).wakeAsk = s.wakeAsk ∧ (s.incSat k hi lo).after = s.after
    ∧ (s.incSat k hi lo).testBy = s.testBy ∧ (s.incSat k hi lo).port = s.port ∧ (s.incSat k hi lo).sent = s.sent
    ∧ (s.incSat k hi lo).free = s.free := s.addSat_fields k hi lo 1

@[simp] theorem State.incSat_tables (s : State) (k hi lo : Nat) :
    (∀ i, (s.incSat k hi lo).byte i = s.byte i) ∧ (∀ i, (s.incSat k hi lo).core i = s.core i)
    ∧ (∀ i, (s.incSat k hi lo).head i = s.head i) ∧ (∀ i, (s.incSat k hi lo).journal i = s.journal i)
    ∧ (∀ i, (s.incSat k hi lo).link i = s.link i) ∧ (∀ i, (s.incSat k hi lo).fn i = s.fn i) ∧ (∀ i, (s.incSat k hi lo).blk i = s.blk i)
    ∧ (∀ i, (s.incSat k hi lo).chan i = s.chan i) ∧ (∀ i, (s.incSat k hi lo).march i = s.march i)
    ∧ (∀ i, (s.incSat k hi lo).cmp i = s.cmp i) ∧ (∀ i, (s.incSat k hi lo).cap i = s.cap i)
    ∧ (∀ i, (s.incSat k hi lo).bell i = s.bell i) ∧ (∀ i, (s.incSat k hi lo).src i = s.src i)
    ∧ (∀ i, (s.incSat k hi lo).pin i = s.pin i) ∧ (∀ i, (s.incSat k hi lo).ser i = s.ser i) ∧ (∀ i, (s.incSat k hi lo).qd i = s.qd i)
    ∧ (∀ i, (s.incSat k hi lo).mx i = s.mx i) ∧ (∀ i, (s.incSat k hi lo).mtr i = s.mtr i)
    ∧ (∀ i, (s.incSat k hi lo).cached i = s.cached i) ∧ (∀ i, (s.incSat k hi lo).voice i = s.voice i)
    ∧ (∀ i, (s.incSat k hi lo).turn i = s.turn i) := s.addSat_tables k hi lo 1

@[simp] theorem State.incWrap_fields (s : State) (k hi lo : Nat) :
    (s.incWrap k hi lo).pending = s.pending ∧ (s.incWrap k hi lo).mem = s.mem ∧ (s.incWrap k hi lo).marks = s.marks
    ∧ (s.incWrap k hi lo).flaws = s.flaws ∧ (s.incWrap k hi lo).flash = s.flash ∧ (s.incWrap k hi lo).cards = s.cards
    ∧ (s.incWrap k hi lo).sram = s.sram ∧ (s.incWrap k hi lo).mode = s.mode ∧ (s.incWrap k hi lo).plan = s.plan
    ∧ (s.incWrap k hi lo).staged = s.staged ∧ (s.incWrap k hi lo).links = s.links ∧ (s.incWrap k hi lo).fns = s.fns
    ∧ (s.incWrap k hi lo).perst = s.perst ∧ (s.incWrap k hi lo).armed = s.armed ∧ (s.incWrap k hi lo).railsIn = s.railsIn
    ∧ (s.incWrap k hi lo).wakePin = s.wakePin ∧ (s.incWrap k hi lo).cores = s.cores ∧ (s.incWrap k hi lo).heads = s.heads
    ∧ (s.incWrap k hi lo).journals = s.journals ∧ (s.incWrap k hi lo).jm = s.jm ∧ (s.incWrap k hi lo).badEngines = s.badEngines
    ∧ (s.incWrap k hi lo).badUnits = s.badUnits ∧ (s.incWrap k hi lo).ringCache = s.ringCache ∧ (s.incWrap k hi lo).ringNow = s.ringNow
    ∧ (s.incWrap k hi lo).turns = s.turns ∧ (s.incWrap k hi lo).blks = s.blks ∧ (s.incWrap k hi lo).chans = s.chans
    ∧ (s.incWrap k hi lo).marches = s.marches ∧ (s.incWrap k hi lo).rot = s.rot ∧ (s.incWrap k hi lo).scrubPos = s.scrubPos
    ∧ (s.incWrap k hi lo).watches = s.watches ∧ (s.incWrap k hi lo).retired = s.retired ∧ (s.incWrap k hi lo).retiring = s.retiring
    ∧ (s.incWrap k hi lo).ueSeen = s.ueSeen ∧ (s.incWrap k hi lo).tb = s.tb ∧ (s.incWrap k hi lo).tbLf = s.tbLf
    ∧ (s.incWrap k hi lo).tbStepNo = s.tbStepNo ∧ (s.incWrap k hi lo).snaps = s.snaps ∧ (s.incWrap k hi lo).cmps = s.cmps
    ∧ (s.incWrap k hi lo).caps = s.caps ∧ (s.incWrap k hi lo).bells = s.bells ∧ (s.incWrap k hi lo).routes = s.routes
    ∧ (s.incWrap k hi lo).fired = s.fired ∧ (s.incWrap k hi lo).srcs = s.srcs ∧ (s.incWrap k hi lo).pins = s.pins
    ∧ (s.incWrap k hi lo).sers = s.sers ∧ (s.incWrap k hi lo).qds = s.qds ∧ (s.incWrap k hi lo).mxs = s.mxs
    ∧ (s.incWrap k hi lo).mtrs = s.mtrs ∧ (s.incWrap k hi lo).audio = s.audio ∧ (s.incWrap k hi lo).tally = s.tally
    ∧ (s.incWrap k hi lo).sense = s.sense ∧ (s.incWrap k hi lo).stormLimit = s.stormLimit
    ∧ (s.incWrap k hi lo).clerkRestarts = s.clerkRestarts ∧ (s.incWrap k hi lo).clerkUp = s.clerkUp
    ∧ (s.incWrap k hi lo).bootTb = s.bootTb ∧ (s.incWrap k hi lo).slot = s.slot ∧ (s.incWrap k hi lo).serviceAsk = s.serviceAsk
    ∧ (s.incWrap k hi lo).unverified = s.unverified ∧ (s.incWrap k hi lo).warm = s.warm ∧ (s.incWrap k hi lo).ran = s.ran
    ∧ (s.incWrap k hi lo).badCores = s.badCores ∧ (s.incWrap k hi lo).badHeads = s.badHeads ∧ (s.incWrap k hi lo).badBanks = s.badBanks
    ∧ (s.incWrap k hi lo).badLanes = s.badLanes ∧ (s.incWrap k hi lo).ordered = s.ordered ∧ (s.incWrap k hi lo).openFills = s.openFills
    ∧ (s.incWrap k hi lo).straps = s.straps ∧ (s.incWrap k hi lo).bootLog = s.bootLog ∧ (s.incWrap k hi lo).settings = s.settings
    ∧ (s.incWrap k hi lo).closing = s.closing ∧ (s.incWrap k hi lo).closingNo = s.closingNo
    ∧ (s.incWrap k hi lo).closeStep = s.closeStep ∧ (s.incWrap k hi lo).dozeAsk = s.dozeAsk
    ∧ (s.incWrap k hi lo).dozeHeads = s.dozeHeads ∧ (s.incWrap k hi lo).dozePaused = s.dozePaused
    ∧ (s.incWrap k hi lo).wakeAsk = s.wakeAsk ∧ (s.incWrap k hi lo).after = s.after ∧ (s.incWrap k hi lo).testBy = s.testBy
    ∧ (s.incWrap k hi lo).port = s.port ∧ (s.incWrap k hi lo).sent = s.sent ∧ (s.incWrap k hi lo).free = s.free := s.setF_fields k hi lo _

@[simp] theorem State.incWrap_tables (s : State) (k hi lo : Nat) :
    (∀ i, (s.incWrap k hi lo).byte i = s.byte i) ∧ (∀ i, (s.incWrap k hi lo).core i = s.core i)
    ∧ (∀ i, (s.incWrap k hi lo).head i = s.head i) ∧ (∀ i, (s.incWrap k hi lo).journal i = s.journal i)
    ∧ (∀ i, (s.incWrap k hi lo).link i = s.link i) ∧ (∀ i, (s.incWrap k hi lo).fn i = s.fn i)
    ∧ (∀ i, (s.incWrap k hi lo).blk i = s.blk i) ∧ (∀ i, (s.incWrap k hi lo).chan i = s.chan i)
    ∧ (∀ i, (s.incWrap k hi lo).march i = s.march i) ∧ (∀ i, (s.incWrap k hi lo).cmp i = s.cmp i)
    ∧ (∀ i, (s.incWrap k hi lo).cap i = s.cap i) ∧ (∀ i, (s.incWrap k hi lo).bell i = s.bell i)
    ∧ (∀ i, (s.incWrap k hi lo).src i = s.src i) ∧ (∀ i, (s.incWrap k hi lo).pin i = s.pin i)
    ∧ (∀ i, (s.incWrap k hi lo).ser i = s.ser i) ∧ (∀ i, (s.incWrap k hi lo).qd i = s.qd i) ∧ (∀ i, (s.incWrap k hi lo).mx i = s.mx i)
    ∧ (∀ i, (s.incWrap k hi lo).mtr i = s.mtr i) ∧ (∀ i, (s.incWrap k hi lo).cached i = s.cached i)
    ∧ (∀ i, (s.incWrap k hi lo).voice i = s.voice i) ∧ (∀ i, (s.incWrap k hi lo).turn i = s.turn i) := s.setF_tables k hi lo _

@[simp] theorem State.clearRegs_fields (s : State) (lo len : Nat) :
    (s.clearRegs lo len).pending = s.pending ∧ (s.clearRegs lo len).mem = s.mem ∧ (s.clearRegs lo len).marks = s.marks
    ∧ (s.clearRegs lo len).flaws = s.flaws ∧ (s.clearRegs lo len).flash = s.flash ∧ (s.clearRegs lo len).cards = s.cards
    ∧ (s.clearRegs lo len).sram = s.sram ∧ (s.clearRegs lo len).mode = s.mode ∧ (s.clearRegs lo len).plan = s.plan
    ∧ (s.clearRegs lo len).staged = s.staged ∧ (s.clearRegs lo len).links = s.links ∧ (s.clearRegs lo len).fns = s.fns
    ∧ (s.clearRegs lo len).perst = s.perst ∧ (s.clearRegs lo len).armed = s.armed ∧ (s.clearRegs lo len).railsIn = s.railsIn
    ∧ (s.clearRegs lo len).wakePin = s.wakePin ∧ (s.clearRegs lo len).cores = s.cores ∧ (s.clearRegs lo len).heads = s.heads
    ∧ (s.clearRegs lo len).journals = s.journals ∧ (s.clearRegs lo len).jm = s.jm ∧ (s.clearRegs lo len).badEngines = s.badEngines
    ∧ (s.clearRegs lo len).badUnits = s.badUnits ∧ (s.clearRegs lo len).ringCache = s.ringCache
    ∧ (s.clearRegs lo len).ringNow = s.ringNow ∧ (s.clearRegs lo len).turns = s.turns ∧ (s.clearRegs lo len).blks = s.blks
    ∧ (s.clearRegs lo len).chans = s.chans ∧ (s.clearRegs lo len).marches = s.marches ∧ (s.clearRegs lo len).rot = s.rot
    ∧ (s.clearRegs lo len).scrubPos = s.scrubPos ∧ (s.clearRegs lo len).watches = s.watches ∧ (s.clearRegs lo len).retired = s.retired
    ∧ (s.clearRegs lo len).retiring = s.retiring ∧ (s.clearRegs lo len).ueSeen = s.ueSeen ∧ (s.clearRegs lo len).tb = s.tb
    ∧ (s.clearRegs lo len).tbLf = s.tbLf ∧ (s.clearRegs lo len).tbStepNo = s.tbStepNo ∧ (s.clearRegs lo len).snaps = s.snaps
    ∧ (s.clearRegs lo len).cmps = s.cmps ∧ (s.clearRegs lo len).caps = s.caps ∧ (s.clearRegs lo len).bells = s.bells
    ∧ (s.clearRegs lo len).routes = s.routes ∧ (s.clearRegs lo len).fired = s.fired ∧ (s.clearRegs lo len).srcs = s.srcs
    ∧ (s.clearRegs lo len).pins = s.pins ∧ (s.clearRegs lo len).sers = s.sers ∧ (s.clearRegs lo len).qds = s.qds
    ∧ (s.clearRegs lo len).mxs = s.mxs ∧ (s.clearRegs lo len).mtrs = s.mtrs ∧ (s.clearRegs lo len).audio = s.audio
    ∧ (s.clearRegs lo len).tally = s.tally ∧ (s.clearRegs lo len).sense = s.sense ∧ (s.clearRegs lo len).stormLimit = s.stormLimit
    ∧ (s.clearRegs lo len).clerkRestarts = s.clerkRestarts ∧ (s.clearRegs lo len).clerkUp = s.clerkUp
    ∧ (s.clearRegs lo len).bootTb = s.bootTb ∧ (s.clearRegs lo len).slot = s.slot ∧ (s.clearRegs lo len).serviceAsk = s.serviceAsk
    ∧ (s.clearRegs lo len).unverified = s.unverified ∧ (s.clearRegs lo len).warm = s.warm ∧ (s.clearRegs lo len).ran = s.ran
    ∧ (s.clearRegs lo len).badCores = s.badCores ∧ (s.clearRegs lo len).badHeads = s.badHeads
    ∧ (s.clearRegs lo len).badBanks = s.badBanks ∧ (s.clearRegs lo len).badLanes = s.badLanes
    ∧ (s.clearRegs lo len).ordered = s.ordered ∧ (s.clearRegs lo len).openFills = s.openFills ∧ (s.clearRegs lo len).straps = s.straps
    ∧ (s.clearRegs lo len).bootLog = s.bootLog ∧ (s.clearRegs lo len).settings = s.settings ∧ (s.clearRegs lo len).closing = s.closing
    ∧ (s.clearRegs lo len).closingNo = s.closingNo ∧ (s.clearRegs lo len).closeStep = s.closeStep
    ∧ (s.clearRegs lo len).dozeAsk = s.dozeAsk ∧ (s.clearRegs lo len).dozeHeads = s.dozeHeads
    ∧ (s.clearRegs lo len).dozePaused = s.dozePaused ∧ (s.clearRegs lo len).wakeAsk = s.wakeAsk ∧ (s.clearRegs lo len).after = s.after
    ∧ (s.clearRegs lo len).testBy = s.testBy ∧ (s.clearRegs lo len).port = s.port ∧ (s.clearRegs lo len).sent = s.sent
    ∧ (s.clearRegs lo len).free = s.free := by
  and_intros <;> rfl

@[simp] theorem State.clearRegs_tables (s : State) (lo len : Nat) :
    (∀ i, (s.clearRegs lo len).byte i = s.byte i) ∧ (∀ i, (s.clearRegs lo len).core i = s.core i)
    ∧ (∀ i, (s.clearRegs lo len).head i = s.head i) ∧ (∀ i, (s.clearRegs lo len).journal i = s.journal i)
    ∧ (∀ i, (s.clearRegs lo len).link i = s.link i) ∧ (∀ i, (s.clearRegs lo len).fn i = s.fn i)
    ∧ (∀ i, (s.clearRegs lo len).blk i = s.blk i) ∧ (∀ i, (s.clearRegs lo len).chan i = s.chan i)
    ∧ (∀ i, (s.clearRegs lo len).march i = s.march i) ∧ (∀ i, (s.clearRegs lo len).cmp i = s.cmp i)
    ∧ (∀ i, (s.clearRegs lo len).cap i = s.cap i) ∧ (∀ i, (s.clearRegs lo len).bell i = s.bell i)
    ∧ (∀ i, (s.clearRegs lo len).src i = s.src i) ∧ (∀ i, (s.clearRegs lo len).pin i = s.pin i)
    ∧ (∀ i, (s.clearRegs lo len).ser i = s.ser i) ∧ (∀ i, (s.clearRegs lo len).qd i = s.qd i)
    ∧ (∀ i, (s.clearRegs lo len).mx i = s.mx i) ∧ (∀ i, (s.clearRegs lo len).mtr i = s.mtr i)
    ∧ (∀ i, (s.clearRegs lo len).cached i = s.cached i) ∧ (∀ i, (s.clearRegs lo len).voice i = s.voice i)
    ∧ (∀ i, (s.clearRegs lo len).turn i = s.turn i) := by
  and_intros <;> exact fun _ => rfl

@[simp] theorem State.setCore_fields (s : State) (k : Nat) (x : Core) :
    (s.setCore k x).pending = s.pending ∧ (s.setCore k x).regs = s.regs ∧ (s.setCore k x).mem = s.mem ∧ (s.setCore k x).marks = s.marks
    ∧ (s.setCore k x).flaws = s.flaws ∧ (s.setCore k x).flash = s.flash ∧ (s.setCore k x).cards = s.cards
    ∧ (s.setCore k x).sram = s.sram ∧ (s.setCore k x).mode = s.mode ∧ (s.setCore k x).plan = s.plan ∧ (s.setCore k x).staged = s.staged
    ∧ (s.setCore k x).links = s.links ∧ (s.setCore k x).fns = s.fns ∧ (s.setCore k x).perst = s.perst ∧ (s.setCore k x).armed = s.armed
    ∧ (s.setCore k x).railsIn = s.railsIn ∧ (s.setCore k x).wakePin = s.wakePin ∧ (s.setCore k x).heads = s.heads
    ∧ (s.setCore k x).journals = s.journals ∧ (s.setCore k x).jm = s.jm ∧ (s.setCore k x).badEngines = s.badEngines
    ∧ (s.setCore k x).badUnits = s.badUnits ∧ (s.setCore k x).ringCache = s.ringCache ∧ (s.setCore k x).ringNow = s.ringNow
    ∧ (s.setCore k x).turns = s.turns ∧ (s.setCore k x).blks = s.blks ∧ (s.setCore k x).chans = s.chans
    ∧ (s.setCore k x).marches = s.marches ∧ (s.setCore k x).rot = s.rot ∧ (s.setCore k x).scrubPos = s.scrubPos
    ∧ (s.setCore k x).watches = s.watches ∧ (s.setCore k x).retired = s.retired ∧ (s.setCore k x).retiring = s.retiring
    ∧ (s.setCore k x).ueSeen = s.ueSeen ∧ (s.setCore k x).tb = s.tb ∧ (s.setCore k x).tbLf = s.tbLf
    ∧ (s.setCore k x).tbStepNo = s.tbStepNo ∧ (s.setCore k x).snaps = s.snaps ∧ (s.setCore k x).cmps = s.cmps
    ∧ (s.setCore k x).caps = s.caps ∧ (s.setCore k x).bells = s.bells ∧ (s.setCore k x).routes = s.routes
    ∧ (s.setCore k x).fired = s.fired ∧ (s.setCore k x).srcs = s.srcs ∧ (s.setCore k x).pins = s.pins ∧ (s.setCore k x).sers = s.sers
    ∧ (s.setCore k x).qds = s.qds ∧ (s.setCore k x).mxs = s.mxs ∧ (s.setCore k x).mtrs = s.mtrs ∧ (s.setCore k x).audio = s.audio
    ∧ (s.setCore k x).tally = s.tally ∧ (s.setCore k x).sense = s.sense ∧ (s.setCore k x).stormLimit = s.stormLimit
    ∧ (s.setCore k x).clerkRestarts = s.clerkRestarts ∧ (s.setCore k x).clerkUp = s.clerkUp ∧ (s.setCore k x).bootTb = s.bootTb
    ∧ (s.setCore k x).slot = s.slot ∧ (s.setCore k x).serviceAsk = s.serviceAsk ∧ (s.setCore k x).unverified = s.unverified
    ∧ (s.setCore k x).warm = s.warm ∧ (s.setCore k x).ran = s.ran ∧ (s.setCore k x).badCores = s.badCores
    ∧ (s.setCore k x).badHeads = s.badHeads ∧ (s.setCore k x).badBanks = s.badBanks ∧ (s.setCore k x).badLanes = s.badLanes
    ∧ (s.setCore k x).ordered = s.ordered ∧ (s.setCore k x).openFills = s.openFills ∧ (s.setCore k x).straps = s.straps
    ∧ (s.setCore k x).bootLog = s.bootLog ∧ (s.setCore k x).settings = s.settings ∧ (s.setCore k x).closing = s.closing
    ∧ (s.setCore k x).closingNo = s.closingNo ∧ (s.setCore k x).closeStep = s.closeStep ∧ (s.setCore k x).dozeAsk = s.dozeAsk
    ∧ (s.setCore k x).dozeHeads = s.dozeHeads ∧ (s.setCore k x).dozePaused = s.dozePaused ∧ (s.setCore k x).wakeAsk = s.wakeAsk
    ∧ (s.setCore k x).after = s.after ∧ (s.setCore k x).testBy = s.testBy ∧ (s.setCore k x).port = s.port
    ∧ (s.setCore k x).sent = s.sent ∧ (s.setCore k x).free = s.free := by
  and_intros <;> rfl

@[simp] theorem State.setCore_tables (s : State) (k : Nat) (x : Core) :
    (∀ i, (s.setCore k x).rd i = s.rd i) ∧ (∀ i, (s.setCore k x).byte i = s.byte i) ∧ (∀ i, (s.setCore k x).head i = s.head i)
    ∧ (∀ i, (s.setCore k x).journal i = s.journal i) ∧ (∀ i, (s.setCore k x).link i = s.link i) ∧ (∀ i, (s.setCore k x).fn i = s.fn i)
    ∧ (∀ i, (s.setCore k x).blk i = s.blk i) ∧ (∀ i, (s.setCore k x).chan i = s.chan i) ∧ (∀ i, (s.setCore k x).march i = s.march i)
    ∧ (∀ i, (s.setCore k x).cmp i = s.cmp i) ∧ (∀ i, (s.setCore k x).cap i = s.cap i) ∧ (∀ i, (s.setCore k x).bell i = s.bell i)
    ∧ (∀ i, (s.setCore k x).src i = s.src i) ∧ (∀ i, (s.setCore k x).pin i = s.pin i) ∧ (∀ i, (s.setCore k x).ser i = s.ser i)
    ∧ (∀ i, (s.setCore k x).qd i = s.qd i) ∧ (∀ i, (s.setCore k x).mx i = s.mx i) ∧ (∀ i, (s.setCore k x).mtr i = s.mtr i)
    ∧ (∀ i, (s.setCore k x).cached i = s.cached i) ∧ (∀ i, (s.setCore k x).voice i = s.voice i)
    ∧ (∀ i, (s.setCore k x).turn i = s.turn i) := by
  and_intros <;> exact fun _ => rfl

@[simp] theorem State.setHead_fields (s : State) (k : Nat) (x : Head) :
    (s.setHead k x).pending = s.pending ∧ (s.setHead k x).regs = s.regs ∧ (s.setHead k x).mem = s.mem ∧ (s.setHead k x).marks = s.marks
    ∧ (s.setHead k x).flaws = s.flaws ∧ (s.setHead k x).flash = s.flash ∧ (s.setHead k x).cards = s.cards
    ∧ (s.setHead k x).sram = s.sram ∧ (s.setHead k x).mode = s.mode ∧ (s.setHead k x).plan = s.plan ∧ (s.setHead k x).staged = s.staged
    ∧ (s.setHead k x).links = s.links ∧ (s.setHead k x).fns = s.fns ∧ (s.setHead k x).perst = s.perst ∧ (s.setHead k x).armed = s.armed
    ∧ (s.setHead k x).railsIn = s.railsIn ∧ (s.setHead k x).wakePin = s.wakePin ∧ (s.setHead k x).cores = s.cores
    ∧ (s.setHead k x).journals = s.journals ∧ (s.setHead k x).jm = s.jm ∧ (s.setHead k x).badEngines = s.badEngines
    ∧ (s.setHead k x).badUnits = s.badUnits ∧ (s.setHead k x).ringCache = s.ringCache ∧ (s.setHead k x).ringNow = s.ringNow
    ∧ (s.setHead k x).turns = s.turns ∧ (s.setHead k x).blks = s.blks ∧ (s.setHead k x).chans = s.chans
    ∧ (s.setHead k x).marches = s.marches ∧ (s.setHead k x).rot = s.rot ∧ (s.setHead k x).scrubPos = s.scrubPos
    ∧ (s.setHead k x).watches = s.watches ∧ (s.setHead k x).retired = s.retired ∧ (s.setHead k x).retiring = s.retiring
    ∧ (s.setHead k x).ueSeen = s.ueSeen ∧ (s.setHead k x).tb = s.tb ∧ (s.setHead k x).tbLf = s.tbLf
    ∧ (s.setHead k x).tbStepNo = s.tbStepNo ∧ (s.setHead k x).snaps = s.snaps ∧ (s.setHead k x).cmps = s.cmps
    ∧ (s.setHead k x).caps = s.caps ∧ (s.setHead k x).bells = s.bells ∧ (s.setHead k x).routes = s.routes
    ∧ (s.setHead k x).fired = s.fired ∧ (s.setHead k x).srcs = s.srcs ∧ (s.setHead k x).pins = s.pins ∧ (s.setHead k x).sers = s.sers
    ∧ (s.setHead k x).qds = s.qds ∧ (s.setHead k x).mxs = s.mxs ∧ (s.setHead k x).mtrs = s.mtrs ∧ (s.setHead k x).audio = s.audio
    ∧ (s.setHead k x).tally = s.tally ∧ (s.setHead k x).sense = s.sense ∧ (s.setHead k x).stormLimit = s.stormLimit
    ∧ (s.setHead k x).clerkRestarts = s.clerkRestarts ∧ (s.setHead k x).clerkUp = s.clerkUp ∧ (s.setHead k x).bootTb = s.bootTb
    ∧ (s.setHead k x).slot = s.slot ∧ (s.setHead k x).serviceAsk = s.serviceAsk ∧ (s.setHead k x).unverified = s.unverified
    ∧ (s.setHead k x).warm = s.warm ∧ (s.setHead k x).ran = s.ran ∧ (s.setHead k x).badCores = s.badCores
    ∧ (s.setHead k x).badHeads = s.badHeads ∧ (s.setHead k x).badBanks = s.badBanks ∧ (s.setHead k x).badLanes = s.badLanes
    ∧ (s.setHead k x).ordered = s.ordered ∧ (s.setHead k x).openFills = s.openFills ∧ (s.setHead k x).straps = s.straps
    ∧ (s.setHead k x).bootLog = s.bootLog ∧ (s.setHead k x).settings = s.settings ∧ (s.setHead k x).closing = s.closing
    ∧ (s.setHead k x).closingNo = s.closingNo ∧ (s.setHead k x).closeStep = s.closeStep ∧ (s.setHead k x).dozeAsk = s.dozeAsk
    ∧ (s.setHead k x).dozeHeads = s.dozeHeads ∧ (s.setHead k x).dozePaused = s.dozePaused ∧ (s.setHead k x).wakeAsk = s.wakeAsk
    ∧ (s.setHead k x).after = s.after ∧ (s.setHead k x).testBy = s.testBy ∧ (s.setHead k x).port = s.port
    ∧ (s.setHead k x).sent = s.sent ∧ (s.setHead k x).free = s.free := by
  and_intros <;> rfl

@[simp] theorem State.setHead_tables (s : State) (k : Nat) (x : Head) :
    (∀ i, (s.setHead k x).rd i = s.rd i) ∧ (∀ i, (s.setHead k x).byte i = s.byte i) ∧ (∀ i, (s.setHead k x).core i = s.core i)
    ∧ (∀ i, (s.setHead k x).journal i = s.journal i) ∧ (∀ i, (s.setHead k x).link i = s.link i) ∧ (∀ i, (s.setHead k x).fn i = s.fn i)
    ∧ (∀ i, (s.setHead k x).blk i = s.blk i) ∧ (∀ i, (s.setHead k x).chan i = s.chan i) ∧ (∀ i, (s.setHead k x).march i = s.march i)
    ∧ (∀ i, (s.setHead k x).cmp i = s.cmp i) ∧ (∀ i, (s.setHead k x).cap i = s.cap i) ∧ (∀ i, (s.setHead k x).bell i = s.bell i)
    ∧ (∀ i, (s.setHead k x).src i = s.src i) ∧ (∀ i, (s.setHead k x).pin i = s.pin i) ∧ (∀ i, (s.setHead k x).ser i = s.ser i)
    ∧ (∀ i, (s.setHead k x).qd i = s.qd i) ∧ (∀ i, (s.setHead k x).mx i = s.mx i) ∧ (∀ i, (s.setHead k x).mtr i = s.mtr i)
    ∧ (∀ i, (s.setHead k x).cached i = s.cached i) ∧ (∀ i, (s.setHead k x).voice i = s.voice i)
    ∧ (∀ i, (s.setHead k x).turn i = s.turn i) := by
  and_intros <;> exact fun _ => rfl

@[simp] theorem State.setJournal_fields (s : State) (k : Nat) (x : Journal) :
    (s.setJournal k x).pending = s.pending ∧ (s.setJournal k x).regs = s.regs ∧ (s.setJournal k x).mem = s.mem
    ∧ (s.setJournal k x).marks = s.marks ∧ (s.setJournal k x).flaws = s.flaws ∧ (s.setJournal k x).flash = s.flash
    ∧ (s.setJournal k x).cards = s.cards ∧ (s.setJournal k x).sram = s.sram ∧ (s.setJournal k x).mode = s.mode
    ∧ (s.setJournal k x).plan = s.plan ∧ (s.setJournal k x).staged = s.staged ∧ (s.setJournal k x).links = s.links
    ∧ (s.setJournal k x).fns = s.fns ∧ (s.setJournal k x).perst = s.perst ∧ (s.setJournal k x).armed = s.armed
    ∧ (s.setJournal k x).railsIn = s.railsIn ∧ (s.setJournal k x).wakePin = s.wakePin ∧ (s.setJournal k x).cores = s.cores
    ∧ (s.setJournal k x).heads = s.heads ∧ (s.setJournal k x).jm = s.jm ∧ (s.setJournal k x).badEngines = s.badEngines
    ∧ (s.setJournal k x).badUnits = s.badUnits ∧ (s.setJournal k x).ringCache = s.ringCache ∧ (s.setJournal k x).ringNow = s.ringNow
    ∧ (s.setJournal k x).turns = s.turns ∧ (s.setJournal k x).blks = s.blks ∧ (s.setJournal k x).chans = s.chans
    ∧ (s.setJournal k x).marches = s.marches ∧ (s.setJournal k x).rot = s.rot ∧ (s.setJournal k x).scrubPos = s.scrubPos
    ∧ (s.setJournal k x).watches = s.watches ∧ (s.setJournal k x).retired = s.retired ∧ (s.setJournal k x).retiring = s.retiring
    ∧ (s.setJournal k x).ueSeen = s.ueSeen ∧ (s.setJournal k x).tb = s.tb ∧ (s.setJournal k x).tbLf = s.tbLf
    ∧ (s.setJournal k x).tbStepNo = s.tbStepNo ∧ (s.setJournal k x).snaps = s.snaps ∧ (s.setJournal k x).cmps = s.cmps
    ∧ (s.setJournal k x).caps = s.caps ∧ (s.setJournal k x).bells = s.bells ∧ (s.setJournal k x).routes = s.routes
    ∧ (s.setJournal k x).fired = s.fired ∧ (s.setJournal k x).srcs = s.srcs ∧ (s.setJournal k x).pins = s.pins
    ∧ (s.setJournal k x).sers = s.sers ∧ (s.setJournal k x).qds = s.qds ∧ (s.setJournal k x).mxs = s.mxs
    ∧ (s.setJournal k x).mtrs = s.mtrs ∧ (s.setJournal k x).audio = s.audio ∧ (s.setJournal k x).tally = s.tally
    ∧ (s.setJournal k x).sense = s.sense ∧ (s.setJournal k x).stormLimit = s.stormLimit
    ∧ (s.setJournal k x).clerkRestarts = s.clerkRestarts ∧ (s.setJournal k x).clerkUp = s.clerkUp
    ∧ (s.setJournal k x).bootTb = s.bootTb ∧ (s.setJournal k x).slot = s.slot ∧ (s.setJournal k x).serviceAsk = s.serviceAsk
    ∧ (s.setJournal k x).unverified = s.unverified ∧ (s.setJournal k x).warm = s.warm ∧ (s.setJournal k x).ran = s.ran
    ∧ (s.setJournal k x).badCores = s.badCores ∧ (s.setJournal k x).badHeads = s.badHeads ∧ (s.setJournal k x).badBanks = s.badBanks
    ∧ (s.setJournal k x).badLanes = s.badLanes ∧ (s.setJournal k x).ordered = s.ordered ∧ (s.setJournal k x).openFills = s.openFills
    ∧ (s.setJournal k x).straps = s.straps ∧ (s.setJournal k x).bootLog = s.bootLog ∧ (s.setJournal k x).settings = s.settings
    ∧ (s.setJournal k x).closing = s.closing ∧ (s.setJournal k x).closingNo = s.closingNo ∧ (s.setJournal k x).closeStep = s.closeStep
    ∧ (s.setJournal k x).dozeAsk = s.dozeAsk ∧ (s.setJournal k x).dozeHeads = s.dozeHeads
    ∧ (s.setJournal k x).dozePaused = s.dozePaused ∧ (s.setJournal k x).wakeAsk = s.wakeAsk ∧ (s.setJournal k x).after = s.after
    ∧ (s.setJournal k x).testBy = s.testBy ∧ (s.setJournal k x).port = s.port ∧ (s.setJournal k x).sent = s.sent
    ∧ (s.setJournal k x).free = s.free := by
  and_intros <;> rfl

@[simp] theorem State.setJournal_tables (s : State) (k : Nat) (x : Journal) :
    (∀ i, (s.setJournal k x).rd i = s.rd i) ∧ (∀ i, (s.setJournal k x).byte i = s.byte i) ∧ (∀ i, (s.setJournal k x).core i = s.core i)
    ∧ (∀ i, (s.setJournal k x).head i = s.head i) ∧ (∀ i, (s.setJournal k x).link i = s.link i)
    ∧ (∀ i, (s.setJournal k x).fn i = s.fn i) ∧ (∀ i, (s.setJournal k x).blk i = s.blk i) ∧ (∀ i, (s.setJournal k x).chan i = s.chan i)
    ∧ (∀ i, (s.setJournal k x).march i = s.march i) ∧ (∀ i, (s.setJournal k x).cmp i = s.cmp i)
    ∧ (∀ i, (s.setJournal k x).cap i = s.cap i) ∧ (∀ i, (s.setJournal k x).bell i = s.bell i)
    ∧ (∀ i, (s.setJournal k x).src i = s.src i) ∧ (∀ i, (s.setJournal k x).pin i = s.pin i) ∧ (∀ i, (s.setJournal k x).ser i = s.ser i)
    ∧ (∀ i, (s.setJournal k x).qd i = s.qd i) ∧ (∀ i, (s.setJournal k x).mx i = s.mx i) ∧ (∀ i, (s.setJournal k x).mtr i = s.mtr i)
    ∧ (∀ i, (s.setJournal k x).cached i = s.cached i) ∧ (∀ i, (s.setJournal k x).voice i = s.voice i)
    ∧ (∀ i, (s.setJournal k x).turn i = s.turn i) := by
  and_intros <;> exact fun _ => rfl

@[simp] theorem State.setLink_fields (s : State) (k : Nat) (x : Link) :
    (s.setLink k x).pending = s.pending ∧ (s.setLink k x).regs = s.regs ∧ (s.setLink k x).mem = s.mem ∧ (s.setLink k x).marks = s.marks
    ∧ (s.setLink k x).flaws = s.flaws ∧ (s.setLink k x).flash = s.flash ∧ (s.setLink k x).cards = s.cards
    ∧ (s.setLink k x).sram = s.sram ∧ (s.setLink k x).mode = s.mode ∧ (s.setLink k x).plan = s.plan ∧ (s.setLink k x).staged = s.staged
    ∧ (s.setLink k x).fns = s.fns ∧ (s.setLink k x).perst = s.perst ∧ (s.setLink k x).armed = s.armed
    ∧ (s.setLink k x).railsIn = s.railsIn ∧ (s.setLink k x).wakePin = s.wakePin ∧ (s.setLink k x).cores = s.cores
    ∧ (s.setLink k x).heads = s.heads ∧ (s.setLink k x).journals = s.journals ∧ (s.setLink k x).jm = s.jm
    ∧ (s.setLink k x).badEngines = s.badEngines ∧ (s.setLink k x).badUnits = s.badUnits ∧ (s.setLink k x).ringCache = s.ringCache
    ∧ (s.setLink k x).ringNow = s.ringNow ∧ (s.setLink k x).turns = s.turns ∧ (s.setLink k x).blks = s.blks
    ∧ (s.setLink k x).chans = s.chans ∧ (s.setLink k x).marches = s.marches ∧ (s.setLink k x).rot = s.rot
    ∧ (s.setLink k x).scrubPos = s.scrubPos ∧ (s.setLink k x).watches = s.watches ∧ (s.setLink k x).retired = s.retired
    ∧ (s.setLink k x).retiring = s.retiring ∧ (s.setLink k x).ueSeen = s.ueSeen ∧ (s.setLink k x).tb = s.tb
    ∧ (s.setLink k x).tbLf = s.tbLf ∧ (s.setLink k x).tbStepNo = s.tbStepNo ∧ (s.setLink k x).snaps = s.snaps
    ∧ (s.setLink k x).cmps = s.cmps ∧ (s.setLink k x).caps = s.caps ∧ (s.setLink k x).bells = s.bells
    ∧ (s.setLink k x).routes = s.routes ∧ (s.setLink k x).fired = s.fired ∧ (s.setLink k x).srcs = s.srcs
    ∧ (s.setLink k x).pins = s.pins ∧ (s.setLink k x).sers = s.sers ∧ (s.setLink k x).qds = s.qds ∧ (s.setLink k x).mxs = s.mxs
    ∧ (s.setLink k x).mtrs = s.mtrs ∧ (s.setLink k x).audio = s.audio ∧ (s.setLink k x).tally = s.tally
    ∧ (s.setLink k x).sense = s.sense ∧ (s.setLink k x).stormLimit = s.stormLimit ∧ (s.setLink k x).clerkRestarts = s.clerkRestarts
    ∧ (s.setLink k x).clerkUp = s.clerkUp ∧ (s.setLink k x).bootTb = s.bootTb ∧ (s.setLink k x).slot = s.slot
    ∧ (s.setLink k x).serviceAsk = s.serviceAsk ∧ (s.setLink k x).unverified = s.unverified ∧ (s.setLink k x).warm = s.warm
    ∧ (s.setLink k x).ran = s.ran ∧ (s.setLink k x).badCores = s.badCores ∧ (s.setLink k x).badHeads = s.badHeads
    ∧ (s.setLink k x).badBanks = s.badBanks ∧ (s.setLink k x).badLanes = s.badLanes ∧ (s.setLink k x).ordered = s.ordered
    ∧ (s.setLink k x).openFills = s.openFills ∧ (s.setLink k x).straps = s.straps ∧ (s.setLink k x).bootLog = s.bootLog
    ∧ (s.setLink k x).settings = s.settings ∧ (s.setLink k x).closing = s.closing ∧ (s.setLink k x).closingNo = s.closingNo
    ∧ (s.setLink k x).closeStep = s.closeStep ∧ (s.setLink k x).dozeAsk = s.dozeAsk ∧ (s.setLink k x).dozeHeads = s.dozeHeads
    ∧ (s.setLink k x).dozePaused = s.dozePaused ∧ (s.setLink k x).wakeAsk = s.wakeAsk ∧ (s.setLink k x).after = s.after
    ∧ (s.setLink k x).testBy = s.testBy ∧ (s.setLink k x).port = s.port ∧ (s.setLink k x).sent = s.sent ∧ (s.setLink k x).free = s.free := by
  and_intros <;> rfl

@[simp] theorem State.setLink_tables (s : State) (k : Nat) (x : Link) :
    (∀ i, (s.setLink k x).rd i = s.rd i) ∧ (∀ i, (s.setLink k x).byte i = s.byte i) ∧ (∀ i, (s.setLink k x).core i = s.core i)
    ∧ (∀ i, (s.setLink k x).head i = s.head i) ∧ (∀ i, (s.setLink k x).journal i = s.journal i) ∧ (∀ i, (s.setLink k x).fn i = s.fn i)
    ∧ (∀ i, (s.setLink k x).blk i = s.blk i) ∧ (∀ i, (s.setLink k x).chan i = s.chan i) ∧ (∀ i, (s.setLink k x).march i = s.march i)
    ∧ (∀ i, (s.setLink k x).cmp i = s.cmp i) ∧ (∀ i, (s.setLink k x).cap i = s.cap i) ∧ (∀ i, (s.setLink k x).bell i = s.bell i)
    ∧ (∀ i, (s.setLink k x).src i = s.src i) ∧ (∀ i, (s.setLink k x).pin i = s.pin i) ∧ (∀ i, (s.setLink k x).ser i = s.ser i)
    ∧ (∀ i, (s.setLink k x).qd i = s.qd i) ∧ (∀ i, (s.setLink k x).mx i = s.mx i) ∧ (∀ i, (s.setLink k x).mtr i = s.mtr i)
    ∧ (∀ i, (s.setLink k x).cached i = s.cached i) ∧ (∀ i, (s.setLink k x).voice i = s.voice i)
    ∧ (∀ i, (s.setLink k x).turn i = s.turn i) := by
  and_intros <;> exact fun _ => rfl

@[simp] theorem State.setFn_fields (s : State) (k : Nat) (x : Fn) :
    (s.setFn k x).pending = s.pending ∧ (s.setFn k x).regs = s.regs ∧ (s.setFn k x).mem = s.mem ∧ (s.setFn k x).marks = s.marks
    ∧ (s.setFn k x).flaws = s.flaws ∧ (s.setFn k x).flash = s.flash ∧ (s.setFn k x).cards = s.cards ∧ (s.setFn k x).sram = s.sram
    ∧ (s.setFn k x).mode = s.mode ∧ (s.setFn k x).plan = s.plan ∧ (s.setFn k x).staged = s.staged ∧ (s.setFn k x).links = s.links
    ∧ (s.setFn k x).perst = s.perst ∧ (s.setFn k x).armed = s.armed ∧ (s.setFn k x).railsIn = s.railsIn
    ∧ (s.setFn k x).wakePin = s.wakePin ∧ (s.setFn k x).cores = s.cores ∧ (s.setFn k x).heads = s.heads
    ∧ (s.setFn k x).journals = s.journals ∧ (s.setFn k x).jm = s.jm ∧ (s.setFn k x).badEngines = s.badEngines
    ∧ (s.setFn k x).badUnits = s.badUnits ∧ (s.setFn k x).ringCache = s.ringCache ∧ (s.setFn k x).ringNow = s.ringNow
    ∧ (s.setFn k x).turns = s.turns ∧ (s.setFn k x).blks = s.blks ∧ (s.setFn k x).chans = s.chans ∧ (s.setFn k x).marches = s.marches
    ∧ (s.setFn k x).rot = s.rot ∧ (s.setFn k x).scrubPos = s.scrubPos ∧ (s.setFn k x).watches = s.watches
    ∧ (s.setFn k x).retired = s.retired ∧ (s.setFn k x).retiring = s.retiring ∧ (s.setFn k x).ueSeen = s.ueSeen
    ∧ (s.setFn k x).tb = s.tb ∧ (s.setFn k x).tbLf = s.tbLf ∧ (s.setFn k x).tbStepNo = s.tbStepNo ∧ (s.setFn k x).snaps = s.snaps
    ∧ (s.setFn k x).cmps = s.cmps ∧ (s.setFn k x).caps = s.caps ∧ (s.setFn k x).bells = s.bells ∧ (s.setFn k x).routes = s.routes
    ∧ (s.setFn k x).fired = s.fired ∧ (s.setFn k x).srcs = s.srcs ∧ (s.setFn k x).pins = s.pins ∧ (s.setFn k x).sers = s.sers
    ∧ (s.setFn k x).qds = s.qds ∧ (s.setFn k x).mxs = s.mxs ∧ (s.setFn k x).mtrs = s.mtrs ∧ (s.setFn k x).audio = s.audio
    ∧ (s.setFn k x).tally = s.tally ∧ (s.setFn k x).sense = s.sense ∧ (s.setFn k x).stormLimit = s.stormLimit
    ∧ (s.setFn k x).clerkRestarts = s.clerkRestarts ∧ (s.setFn k x).clerkUp = s.clerkUp ∧ (s.setFn k x).bootTb = s.bootTb
    ∧ (s.setFn k x).slot = s.slot ∧ (s.setFn k x).serviceAsk = s.serviceAsk ∧ (s.setFn k x).unverified = s.unverified
    ∧ (s.setFn k x).warm = s.warm ∧ (s.setFn k x).ran = s.ran ∧ (s.setFn k x).badCores = s.badCores
    ∧ (s.setFn k x).badHeads = s.badHeads ∧ (s.setFn k x).badBanks = s.badBanks ∧ (s.setFn k x).badLanes = s.badLanes
    ∧ (s.setFn k x).ordered = s.ordered ∧ (s.setFn k x).openFills = s.openFills ∧ (s.setFn k x).straps = s.straps
    ∧ (s.setFn k x).bootLog = s.bootLog ∧ (s.setFn k x).settings = s.settings ∧ (s.setFn k x).closing = s.closing
    ∧ (s.setFn k x).closingNo = s.closingNo ∧ (s.setFn k x).closeStep = s.closeStep ∧ (s.setFn k x).dozeAsk = s.dozeAsk
    ∧ (s.setFn k x).dozeHeads = s.dozeHeads ∧ (s.setFn k x).dozePaused = s.dozePaused ∧ (s.setFn k x).wakeAsk = s.wakeAsk
    ∧ (s.setFn k x).after = s.after ∧ (s.setFn k x).testBy = s.testBy ∧ (s.setFn k x).port = s.port ∧ (s.setFn k x).sent = s.sent
    ∧ (s.setFn k x).free = s.free := by
  and_intros <;> rfl

@[simp] theorem State.setFn_tables (s : State) (k : Nat) (x : Fn) :
    (∀ i, (s.setFn k x).rd i = s.rd i) ∧ (∀ i, (s.setFn k x).byte i = s.byte i) ∧ (∀ i, (s.setFn k x).core i = s.core i)
    ∧ (∀ i, (s.setFn k x).head i = s.head i) ∧ (∀ i, (s.setFn k x).journal i = s.journal i) ∧ (∀ i, (s.setFn k x).link i = s.link i)
    ∧ (∀ i, (s.setFn k x).blk i = s.blk i) ∧ (∀ i, (s.setFn k x).chan i = s.chan i) ∧ (∀ i, (s.setFn k x).march i = s.march i)
    ∧ (∀ i, (s.setFn k x).cmp i = s.cmp i) ∧ (∀ i, (s.setFn k x).cap i = s.cap i) ∧ (∀ i, (s.setFn k x).bell i = s.bell i)
    ∧ (∀ i, (s.setFn k x).src i = s.src i) ∧ (∀ i, (s.setFn k x).pin i = s.pin i) ∧ (∀ i, (s.setFn k x).ser i = s.ser i)
    ∧ (∀ i, (s.setFn k x).qd i = s.qd i) ∧ (∀ i, (s.setFn k x).mx i = s.mx i) ∧ (∀ i, (s.setFn k x).mtr i = s.mtr i)
    ∧ (∀ i, (s.setFn k x).cached i = s.cached i) ∧ (∀ i, (s.setFn k x).voice i = s.voice i) ∧ (∀ i, (s.setFn k x).turn i = s.turn i) := by
  and_intros <;> exact fun _ => rfl

@[simp] theorem State.setBlk_fields (s : State) (k : Nat) (x : Blk) :
    (s.setBlk k x).pending = s.pending ∧ (s.setBlk k x).regs = s.regs ∧ (s.setBlk k x).mem = s.mem ∧ (s.setBlk k x).marks = s.marks
    ∧ (s.setBlk k x).flaws = s.flaws ∧ (s.setBlk k x).flash = s.flash ∧ (s.setBlk k x).cards = s.cards ∧ (s.setBlk k x).sram = s.sram
    ∧ (s.setBlk k x).mode = s.mode ∧ (s.setBlk k x).plan = s.plan ∧ (s.setBlk k x).staged = s.staged ∧ (s.setBlk k x).links = s.links
    ∧ (s.setBlk k x).fns = s.fns ∧ (s.setBlk k x).perst = s.perst ∧ (s.setBlk k x).armed = s.armed ∧ (s.setBlk k x).railsIn = s.railsIn
    ∧ (s.setBlk k x).wakePin = s.wakePin ∧ (s.setBlk k x).cores = s.cores ∧ (s.setBlk k x).heads = s.heads
    ∧ (s.setBlk k x).journals = s.journals ∧ (s.setBlk k x).jm = s.jm ∧ (s.setBlk k x).badEngines = s.badEngines
    ∧ (s.setBlk k x).badUnits = s.badUnits ∧ (s.setBlk k x).ringCache = s.ringCache ∧ (s.setBlk k x).ringNow = s.ringNow
    ∧ (s.setBlk k x).turns = s.turns ∧ (s.setBlk k x).chans = s.chans ∧ (s.setBlk k x).marches = s.marches ∧ (s.setBlk k x).rot = s.rot
    ∧ (s.setBlk k x).scrubPos = s.scrubPos ∧ (s.setBlk k x).watches = s.watches ∧ (s.setBlk k x).retired = s.retired
    ∧ (s.setBlk k x).retiring = s.retiring ∧ (s.setBlk k x).ueSeen = s.ueSeen ∧ (s.setBlk k x).tb = s.tb ∧ (s.setBlk k x).tbLf = s.tbLf
    ∧ (s.setBlk k x).tbStepNo = s.tbStepNo ∧ (s.setBlk k x).snaps = s.snaps ∧ (s.setBlk k x).cmps = s.cmps
    ∧ (s.setBlk k x).caps = s.caps ∧ (s.setBlk k x).bells = s.bells ∧ (s.setBlk k x).routes = s.routes ∧ (s.setBlk k x).fired = s.fired
    ∧ (s.setBlk k x).srcs = s.srcs ∧ (s.setBlk k x).pins = s.pins ∧ (s.setBlk k x).sers = s.sers ∧ (s.setBlk k x).qds = s.qds
    ∧ (s.setBlk k x).mxs = s.mxs ∧ (s.setBlk k x).mtrs = s.mtrs ∧ (s.setBlk k x).audio = s.audio ∧ (s.setBlk k x).tally = s.tally
    ∧ (s.setBlk k x).sense = s.sense ∧ (s.setBlk k x).stormLimit = s.stormLimit ∧ (s.setBlk k x).clerkRestarts = s.clerkRestarts
    ∧ (s.setBlk k x).clerkUp = s.clerkUp ∧ (s.setBlk k x).bootTb = s.bootTb ∧ (s.setBlk k x).slot = s.slot
    ∧ (s.setBlk k x).serviceAsk = s.serviceAsk ∧ (s.setBlk k x).unverified = s.unverified ∧ (s.setBlk k x).warm = s.warm
    ∧ (s.setBlk k x).ran = s.ran ∧ (s.setBlk k x).badCores = s.badCores ∧ (s.setBlk k x).badHeads = s.badHeads
    ∧ (s.setBlk k x).badBanks = s.badBanks ∧ (s.setBlk k x).badLanes = s.badLanes ∧ (s.setBlk k x).ordered = s.ordered
    ∧ (s.setBlk k x).openFills = s.openFills ∧ (s.setBlk k x).straps = s.straps ∧ (s.setBlk k x).bootLog = s.bootLog
    ∧ (s.setBlk k x).settings = s.settings ∧ (s.setBlk k x).closing = s.closing ∧ (s.setBlk k x).closingNo = s.closingNo
    ∧ (s.setBlk k x).closeStep = s.closeStep ∧ (s.setBlk k x).dozeAsk = s.dozeAsk ∧ (s.setBlk k x).dozeHeads = s.dozeHeads
    ∧ (s.setBlk k x).dozePaused = s.dozePaused ∧ (s.setBlk k x).wakeAsk = s.wakeAsk ∧ (s.setBlk k x).after = s.after
    ∧ (s.setBlk k x).testBy = s.testBy ∧ (s.setBlk k x).port = s.port ∧ (s.setBlk k x).sent = s.sent ∧ (s.setBlk k x).free = s.free := by
  and_intros <;> rfl

@[simp] theorem State.setBlk_tables (s : State) (k : Nat) (x : Blk) :
    (∀ i, (s.setBlk k x).rd i = s.rd i) ∧ (∀ i, (s.setBlk k x).byte i = s.byte i) ∧ (∀ i, (s.setBlk k x).core i = s.core i)
    ∧ (∀ i, (s.setBlk k x).head i = s.head i) ∧ (∀ i, (s.setBlk k x).journal i = s.journal i) ∧ (∀ i, (s.setBlk k x).link i = s.link i)
    ∧ (∀ i, (s.setBlk k x).fn i = s.fn i) ∧ (∀ i, (s.setBlk k x).chan i = s.chan i) ∧ (∀ i, (s.setBlk k x).march i = s.march i)
    ∧ (∀ i, (s.setBlk k x).cmp i = s.cmp i) ∧ (∀ i, (s.setBlk k x).cap i = s.cap i) ∧ (∀ i, (s.setBlk k x).bell i = s.bell i)
    ∧ (∀ i, (s.setBlk k x).src i = s.src i) ∧ (∀ i, (s.setBlk k x).pin i = s.pin i) ∧ (∀ i, (s.setBlk k x).ser i = s.ser i)
    ∧ (∀ i, (s.setBlk k x).qd i = s.qd i) ∧ (∀ i, (s.setBlk k x).mx i = s.mx i) ∧ (∀ i, (s.setBlk k x).mtr i = s.mtr i)
    ∧ (∀ i, (s.setBlk k x).cached i = s.cached i) ∧ (∀ i, (s.setBlk k x).voice i = s.voice i) ∧ (∀ i, (s.setBlk k x).turn i = s.turn i) := by
  and_intros <;> exact fun _ => rfl

@[simp] theorem State.setChan_fields (s : State) (k : Nat) (x : Chan) :
    (s.setChan k x).pending = s.pending ∧ (s.setChan k x).regs = s.regs ∧ (s.setChan k x).mem = s.mem ∧ (s.setChan k x).marks = s.marks
    ∧ (s.setChan k x).flaws = s.flaws ∧ (s.setChan k x).flash = s.flash ∧ (s.setChan k x).cards = s.cards
    ∧ (s.setChan k x).sram = s.sram ∧ (s.setChan k x).mode = s.mode ∧ (s.setChan k x).plan = s.plan ∧ (s.setChan k x).staged = s.staged
    ∧ (s.setChan k x).links = s.links ∧ (s.setChan k x).fns = s.fns ∧ (s.setChan k x).perst = s.perst ∧ (s.setChan k x).armed = s.armed
    ∧ (s.setChan k x).railsIn = s.railsIn ∧ (s.setChan k x).wakePin = s.wakePin ∧ (s.setChan k x).cores = s.cores
    ∧ (s.setChan k x).heads = s.heads ∧ (s.setChan k x).journals = s.journals ∧ (s.setChan k x).jm = s.jm
    ∧ (s.setChan k x).badEngines = s.badEngines ∧ (s.setChan k x).badUnits = s.badUnits ∧ (s.setChan k x).ringCache = s.ringCache
    ∧ (s.setChan k x).ringNow = s.ringNow ∧ (s.setChan k x).turns = s.turns ∧ (s.setChan k x).blks = s.blks
    ∧ (s.setChan k x).marches = s.marches ∧ (s.setChan k x).rot = s.rot ∧ (s.setChan k x).scrubPos = s.scrubPos
    ∧ (s.setChan k x).watches = s.watches ∧ (s.setChan k x).retired = s.retired ∧ (s.setChan k x).retiring = s.retiring
    ∧ (s.setChan k x).ueSeen = s.ueSeen ∧ (s.setChan k x).tb = s.tb ∧ (s.setChan k x).tbLf = s.tbLf
    ∧ (s.setChan k x).tbStepNo = s.tbStepNo ∧ (s.setChan k x).snaps = s.snaps ∧ (s.setChan k x).cmps = s.cmps
    ∧ (s.setChan k x).caps = s.caps ∧ (s.setChan k x).bells = s.bells ∧ (s.setChan k x).routes = s.routes
    ∧ (s.setChan k x).fired = s.fired ∧ (s.setChan k x).srcs = s.srcs ∧ (s.setChan k x).pins = s.pins ∧ (s.setChan k x).sers = s.sers
    ∧ (s.setChan k x).qds = s.qds ∧ (s.setChan k x).mxs = s.mxs ∧ (s.setChan k x).mtrs = s.mtrs ∧ (s.setChan k x).audio = s.audio
    ∧ (s.setChan k x).tally = s.tally ∧ (s.setChan k x).sense = s.sense ∧ (s.setChan k x).stormLimit = s.stormLimit
    ∧ (s.setChan k x).clerkRestarts = s.clerkRestarts ∧ (s.setChan k x).clerkUp = s.clerkUp ∧ (s.setChan k x).bootTb = s.bootTb
    ∧ (s.setChan k x).slot = s.slot ∧ (s.setChan k x).serviceAsk = s.serviceAsk ∧ (s.setChan k x).unverified = s.unverified
    ∧ (s.setChan k x).warm = s.warm ∧ (s.setChan k x).ran = s.ran ∧ (s.setChan k x).badCores = s.badCores
    ∧ (s.setChan k x).badHeads = s.badHeads ∧ (s.setChan k x).badBanks = s.badBanks ∧ (s.setChan k x).badLanes = s.badLanes
    ∧ (s.setChan k x).ordered = s.ordered ∧ (s.setChan k x).openFills = s.openFills ∧ (s.setChan k x).straps = s.straps
    ∧ (s.setChan k x).bootLog = s.bootLog ∧ (s.setChan k x).settings = s.settings ∧ (s.setChan k x).closing = s.closing
    ∧ (s.setChan k x).closingNo = s.closingNo ∧ (s.setChan k x).closeStep = s.closeStep ∧ (s.setChan k x).dozeAsk = s.dozeAsk
    ∧ (s.setChan k x).dozeHeads = s.dozeHeads ∧ (s.setChan k x).dozePaused = s.dozePaused ∧ (s.setChan k x).wakeAsk = s.wakeAsk
    ∧ (s.setChan k x).after = s.after ∧ (s.setChan k x).testBy = s.testBy ∧ (s.setChan k x).port = s.port
    ∧ (s.setChan k x).sent = s.sent ∧ (s.setChan k x).free = s.free := by
  and_intros <;> rfl

@[simp] theorem State.setChan_tables (s : State) (k : Nat) (x : Chan) :
    (∀ i, (s.setChan k x).rd i = s.rd i) ∧ (∀ i, (s.setChan k x).byte i = s.byte i) ∧ (∀ i, (s.setChan k x).core i = s.core i)
    ∧ (∀ i, (s.setChan k x).head i = s.head i) ∧ (∀ i, (s.setChan k x).journal i = s.journal i)
    ∧ (∀ i, (s.setChan k x).link i = s.link i) ∧ (∀ i, (s.setChan k x).fn i = s.fn i) ∧ (∀ i, (s.setChan k x).blk i = s.blk i)
    ∧ (∀ i, (s.setChan k x).march i = s.march i) ∧ (∀ i, (s.setChan k x).cmp i = s.cmp i) ∧ (∀ i, (s.setChan k x).cap i = s.cap i)
    ∧ (∀ i, (s.setChan k x).bell i = s.bell i) ∧ (∀ i, (s.setChan k x).src i = s.src i) ∧ (∀ i, (s.setChan k x).pin i = s.pin i)
    ∧ (∀ i, (s.setChan k x).ser i = s.ser i) ∧ (∀ i, (s.setChan k x).qd i = s.qd i) ∧ (∀ i, (s.setChan k x).mx i = s.mx i)
    ∧ (∀ i, (s.setChan k x).mtr i = s.mtr i) ∧ (∀ i, (s.setChan k x).cached i = s.cached i)
    ∧ (∀ i, (s.setChan k x).voice i = s.voice i) ∧ (∀ i, (s.setChan k x).turn i = s.turn i) := by
  and_intros <;> exact fun _ => rfl

@[simp] theorem State.setMarch_fields (s : State) (k : Nat) (x : March) :
    (s.setMarch k x).pending = s.pending ∧ (s.setMarch k x).regs = s.regs ∧ (s.setMarch k x).mem = s.mem
    ∧ (s.setMarch k x).marks = s.marks ∧ (s.setMarch k x).flaws = s.flaws ∧ (s.setMarch k x).flash = s.flash
    ∧ (s.setMarch k x).cards = s.cards ∧ (s.setMarch k x).sram = s.sram ∧ (s.setMarch k x).mode = s.mode
    ∧ (s.setMarch k x).plan = s.plan ∧ (s.setMarch k x).staged = s.staged ∧ (s.setMarch k x).links = s.links
    ∧ (s.setMarch k x).fns = s.fns ∧ (s.setMarch k x).perst = s.perst ∧ (s.setMarch k x).armed = s.armed
    ∧ (s.setMarch k x).railsIn = s.railsIn ∧ (s.setMarch k x).wakePin = s.wakePin ∧ (s.setMarch k x).cores = s.cores
    ∧ (s.setMarch k x).heads = s.heads ∧ (s.setMarch k x).journals = s.journals ∧ (s.setMarch k x).jm = s.jm
    ∧ (s.setMarch k x).badEngines = s.badEngines ∧ (s.setMarch k x).badUnits = s.badUnits ∧ (s.setMarch k x).ringCache = s.ringCache
    ∧ (s.setMarch k x).ringNow = s.ringNow ∧ (s.setMarch k x).turns = s.turns ∧ (s.setMarch k x).blks = s.blks
    ∧ (s.setMarch k x).chans = s.chans ∧ (s.setMarch k x).rot = s.rot ∧ (s.setMarch k x).scrubPos = s.scrubPos
    ∧ (s.setMarch k x).watches = s.watches ∧ (s.setMarch k x).retired = s.retired ∧ (s.setMarch k x).retiring = s.retiring
    ∧ (s.setMarch k x).ueSeen = s.ueSeen ∧ (s.setMarch k x).tb = s.tb ∧ (s.setMarch k x).tbLf = s.tbLf
    ∧ (s.setMarch k x).tbStepNo = s.tbStepNo ∧ (s.setMarch k x).snaps = s.snaps ∧ (s.setMarch k x).cmps = s.cmps
    ∧ (s.setMarch k x).caps = s.caps ∧ (s.setMarch k x).bells = s.bells ∧ (s.setMarch k x).routes = s.routes
    ∧ (s.setMarch k x).fired = s.fired ∧ (s.setMarch k x).srcs = s.srcs ∧ (s.setMarch k x).pins = s.pins
    ∧ (s.setMarch k x).sers = s.sers ∧ (s.setMarch k x).qds = s.qds ∧ (s.setMarch k x).mxs = s.mxs ∧ (s.setMarch k x).mtrs = s.mtrs
    ∧ (s.setMarch k x).audio = s.audio ∧ (s.setMarch k x).tally = s.tally ∧ (s.setMarch k x).sense = s.sense
    ∧ (s.setMarch k x).stormLimit = s.stormLimit ∧ (s.setMarch k x).clerkRestarts = s.clerkRestarts
    ∧ (s.setMarch k x).clerkUp = s.clerkUp ∧ (s.setMarch k x).bootTb = s.bootTb ∧ (s.setMarch k x).slot = s.slot
    ∧ (s.setMarch k x).serviceAsk = s.serviceAsk ∧ (s.setMarch k x).unverified = s.unverified ∧ (s.setMarch k x).warm = s.warm
    ∧ (s.setMarch k x).ran = s.ran ∧ (s.setMarch k x).badCores = s.badCores ∧ (s.setMarch k x).badHeads = s.badHeads
    ∧ (s.setMarch k x).badBanks = s.badBanks ∧ (s.setMarch k x).badLanes = s.badLanes ∧ (s.setMarch k x).ordered = s.ordered
    ∧ (s.setMarch k x).openFills = s.openFills ∧ (s.setMarch k x).straps = s.straps ∧ (s.setMarch k x).bootLog = s.bootLog
    ∧ (s.setMarch k x).settings = s.settings ∧ (s.setMarch k x).closing = s.closing ∧ (s.setMarch k x).closingNo = s.closingNo
    ∧ (s.setMarch k x).closeStep = s.closeStep ∧ (s.setMarch k x).dozeAsk = s.dozeAsk ∧ (s.setMarch k x).dozeHeads = s.dozeHeads
    ∧ (s.setMarch k x).dozePaused = s.dozePaused ∧ (s.setMarch k x).wakeAsk = s.wakeAsk ∧ (s.setMarch k x).after = s.after
    ∧ (s.setMarch k x).testBy = s.testBy ∧ (s.setMarch k x).port = s.port ∧ (s.setMarch k x).sent = s.sent
    ∧ (s.setMarch k x).free = s.free := by
  and_intros <;> rfl

@[simp] theorem State.setMarch_tables (s : State) (k : Nat) (x : March) :
    (∀ i, (s.setMarch k x).rd i = s.rd i) ∧ (∀ i, (s.setMarch k x).byte i = s.byte i) ∧ (∀ i, (s.setMarch k x).core i = s.core i)
    ∧ (∀ i, (s.setMarch k x).head i = s.head i) ∧ (∀ i, (s.setMarch k x).journal i = s.journal i)
    ∧ (∀ i, (s.setMarch k x).link i = s.link i) ∧ (∀ i, (s.setMarch k x).fn i = s.fn i) ∧ (∀ i, (s.setMarch k x).blk i = s.blk i)
    ∧ (∀ i, (s.setMarch k x).chan i = s.chan i) ∧ (∀ i, (s.setMarch k x).cmp i = s.cmp i) ∧ (∀ i, (s.setMarch k x).cap i = s.cap i)
    ∧ (∀ i, (s.setMarch k x).bell i = s.bell i) ∧ (∀ i, (s.setMarch k x).src i = s.src i) ∧ (∀ i, (s.setMarch k x).pin i = s.pin i)
    ∧ (∀ i, (s.setMarch k x).ser i = s.ser i) ∧ (∀ i, (s.setMarch k x).qd i = s.qd i) ∧ (∀ i, (s.setMarch k x).mx i = s.mx i)
    ∧ (∀ i, (s.setMarch k x).mtr i = s.mtr i) ∧ (∀ i, (s.setMarch k x).cached i = s.cached i)
    ∧ (∀ i, (s.setMarch k x).voice i = s.voice i) ∧ (∀ i, (s.setMarch k x).turn i = s.turn i) := by
  and_intros <;> exact fun _ => rfl

@[simp] theorem State.setCmp_fields (s : State) (k : Nat) (x : Cmp) :
    (s.setCmp k x).pending = s.pending ∧ (s.setCmp k x).regs = s.regs ∧ (s.setCmp k x).mem = s.mem ∧ (s.setCmp k x).marks = s.marks
    ∧ (s.setCmp k x).flaws = s.flaws ∧ (s.setCmp k x).flash = s.flash ∧ (s.setCmp k x).cards = s.cards ∧ (s.setCmp k x).sram = s.sram
    ∧ (s.setCmp k x).mode = s.mode ∧ (s.setCmp k x).plan = s.plan ∧ (s.setCmp k x).staged = s.staged ∧ (s.setCmp k x).links = s.links
    ∧ (s.setCmp k x).fns = s.fns ∧ (s.setCmp k x).perst = s.perst ∧ (s.setCmp k x).armed = s.armed ∧ (s.setCmp k x).railsIn = s.railsIn
    ∧ (s.setCmp k x).wakePin = s.wakePin ∧ (s.setCmp k x).cores = s.cores ∧ (s.setCmp k x).heads = s.heads
    ∧ (s.setCmp k x).journals = s.journals ∧ (s.setCmp k x).jm = s.jm ∧ (s.setCmp k x).badEngines = s.badEngines
    ∧ (s.setCmp k x).badUnits = s.badUnits ∧ (s.setCmp k x).ringCache = s.ringCache ∧ (s.setCmp k x).ringNow = s.ringNow
    ∧ (s.setCmp k x).turns = s.turns ∧ (s.setCmp k x).blks = s.blks ∧ (s.setCmp k x).chans = s.chans
    ∧ (s.setCmp k x).marches = s.marches ∧ (s.setCmp k x).rot = s.rot ∧ (s.setCmp k x).scrubPos = s.scrubPos
    ∧ (s.setCmp k x).watches = s.watches ∧ (s.setCmp k x).retired = s.retired ∧ (s.setCmp k x).retiring = s.retiring
    ∧ (s.setCmp k x).ueSeen = s.ueSeen ∧ (s.setCmp k x).tb = s.tb ∧ (s.setCmp k x).tbLf = s.tbLf ∧ (s.setCmp k x).tbStepNo = s.tbStepNo
    ∧ (s.setCmp k x).snaps = s.snaps ∧ (s.setCmp k x).caps = s.caps ∧ (s.setCmp k x).bells = s.bells ∧ (s.setCmp k x).routes = s.routes
    ∧ (s.setCmp k x).fired = s.fired ∧ (s.setCmp k x).srcs = s.srcs ∧ (s.setCmp k x).pins = s.pins ∧ (s.setCmp k x).sers = s.sers
    ∧ (s.setCmp k x).qds = s.qds ∧ (s.setCmp k x).mxs = s.mxs ∧ (s.setCmp k x).mtrs = s.mtrs ∧ (s.setCmp k x).audio = s.audio
    ∧ (s.setCmp k x).tally = s.tally ∧ (s.setCmp k x).sense = s.sense ∧ (s.setCmp k x).stormLimit = s.stormLimit
    ∧ (s.setCmp k x).clerkRestarts = s.clerkRestarts ∧ (s.setCmp k x).clerkUp = s.clerkUp ∧ (s.setCmp k x).bootTb = s.bootTb
    ∧ (s.setCmp k x).slot = s.slot ∧ (s.setCmp k x).serviceAsk = s.serviceAsk ∧ (s.setCmp k x).unverified = s.unverified
    ∧ (s.setCmp k x).warm = s.warm ∧ (s.setCmp k x).ran = s.ran ∧ (s.setCmp k x).badCores = s.badCores
    ∧ (s.setCmp k x).badHeads = s.badHeads ∧ (s.setCmp k x).badBanks = s.badBanks ∧ (s.setCmp k x).badLanes = s.badLanes
    ∧ (s.setCmp k x).ordered = s.ordered ∧ (s.setCmp k x).openFills = s.openFills ∧ (s.setCmp k x).straps = s.straps
    ∧ (s.setCmp k x).bootLog = s.bootLog ∧ (s.setCmp k x).settings = s.settings ∧ (s.setCmp k x).closing = s.closing
    ∧ (s.setCmp k x).closingNo = s.closingNo ∧ (s.setCmp k x).closeStep = s.closeStep ∧ (s.setCmp k x).dozeAsk = s.dozeAsk
    ∧ (s.setCmp k x).dozeHeads = s.dozeHeads ∧ (s.setCmp k x).dozePaused = s.dozePaused ∧ (s.setCmp k x).wakeAsk = s.wakeAsk
    ∧ (s.setCmp k x).after = s.after ∧ (s.setCmp k x).testBy = s.testBy ∧ (s.setCmp k x).port = s.port ∧ (s.setCmp k x).sent = s.sent
    ∧ (s.setCmp k x).free = s.free := by
  and_intros <;> rfl

@[simp] theorem State.setCmp_tables (s : State) (k : Nat) (x : Cmp) :
    (∀ i, (s.setCmp k x).rd i = s.rd i) ∧ (∀ i, (s.setCmp k x).byte i = s.byte i) ∧ (∀ i, (s.setCmp k x).core i = s.core i)
    ∧ (∀ i, (s.setCmp k x).head i = s.head i) ∧ (∀ i, (s.setCmp k x).journal i = s.journal i) ∧ (∀ i, (s.setCmp k x).link i = s.link i)
    ∧ (∀ i, (s.setCmp k x).fn i = s.fn i) ∧ (∀ i, (s.setCmp k x).blk i = s.blk i) ∧ (∀ i, (s.setCmp k x).chan i = s.chan i)
    ∧ (∀ i, (s.setCmp k x).march i = s.march i) ∧ (∀ i, (s.setCmp k x).cap i = s.cap i) ∧ (∀ i, (s.setCmp k x).bell i = s.bell i)
    ∧ (∀ i, (s.setCmp k x).src i = s.src i) ∧ (∀ i, (s.setCmp k x).pin i = s.pin i) ∧ (∀ i, (s.setCmp k x).ser i = s.ser i)
    ∧ (∀ i, (s.setCmp k x).qd i = s.qd i) ∧ (∀ i, (s.setCmp k x).mx i = s.mx i) ∧ (∀ i, (s.setCmp k x).mtr i = s.mtr i)
    ∧ (∀ i, (s.setCmp k x).cached i = s.cached i) ∧ (∀ i, (s.setCmp k x).voice i = s.voice i) ∧ (∀ i, (s.setCmp k x).turn i = s.turn i) := by
  and_intros <;> exact fun _ => rfl

@[simp] theorem State.setCap_fields (s : State) (k : Nat) (x : List (Nat × Bool)) :
    (s.setCap k x).pending = s.pending ∧ (s.setCap k x).regs = s.regs ∧ (s.setCap k x).mem = s.mem ∧ (s.setCap k x).marks = s.marks
    ∧ (s.setCap k x).flaws = s.flaws ∧ (s.setCap k x).flash = s.flash ∧ (s.setCap k x).cards = s.cards ∧ (s.setCap k x).sram = s.sram
    ∧ (s.setCap k x).mode = s.mode ∧ (s.setCap k x).plan = s.plan ∧ (s.setCap k x).staged = s.staged ∧ (s.setCap k x).links = s.links
    ∧ (s.setCap k x).fns = s.fns ∧ (s.setCap k x).perst = s.perst ∧ (s.setCap k x).armed = s.armed ∧ (s.setCap k x).railsIn = s.railsIn
    ∧ (s.setCap k x).wakePin = s.wakePin ∧ (s.setCap k x).cores = s.cores ∧ (s.setCap k x).heads = s.heads
    ∧ (s.setCap k x).journals = s.journals ∧ (s.setCap k x).jm = s.jm ∧ (s.setCap k x).badEngines = s.badEngines
    ∧ (s.setCap k x).badUnits = s.badUnits ∧ (s.setCap k x).ringCache = s.ringCache ∧ (s.setCap k x).ringNow = s.ringNow
    ∧ (s.setCap k x).turns = s.turns ∧ (s.setCap k x).blks = s.blks ∧ (s.setCap k x).chans = s.chans
    ∧ (s.setCap k x).marches = s.marches ∧ (s.setCap k x).rot = s.rot ∧ (s.setCap k x).scrubPos = s.scrubPos
    ∧ (s.setCap k x).watches = s.watches ∧ (s.setCap k x).retired = s.retired ∧ (s.setCap k x).retiring = s.retiring
    ∧ (s.setCap k x).ueSeen = s.ueSeen ∧ (s.setCap k x).tb = s.tb ∧ (s.setCap k x).tbLf = s.tbLf ∧ (s.setCap k x).tbStepNo = s.tbStepNo
    ∧ (s.setCap k x).snaps = s.snaps ∧ (s.setCap k x).cmps = s.cmps ∧ (s.setCap k x).bells = s.bells ∧ (s.setCap k x).routes = s.routes
    ∧ (s.setCap k x).fired = s.fired ∧ (s.setCap k x).srcs = s.srcs ∧ (s.setCap k x).pins = s.pins ∧ (s.setCap k x).sers = s.sers
    ∧ (s.setCap k x).qds = s.qds ∧ (s.setCap k x).mxs = s.mxs ∧ (s.setCap k x).mtrs = s.mtrs ∧ (s.setCap k x).audio = s.audio
    ∧ (s.setCap k x).tally = s.tally ∧ (s.setCap k x).sense = s.sense ∧ (s.setCap k x).stormLimit = s.stormLimit
    ∧ (s.setCap k x).clerkRestarts = s.clerkRestarts ∧ (s.setCap k x).clerkUp = s.clerkUp ∧ (s.setCap k x).bootTb = s.bootTb
    ∧ (s.setCap k x).slot = s.slot ∧ (s.setCap k x).serviceAsk = s.serviceAsk ∧ (s.setCap k x).unverified = s.unverified
    ∧ (s.setCap k x).warm = s.warm ∧ (s.setCap k x).ran = s.ran ∧ (s.setCap k x).badCores = s.badCores
    ∧ (s.setCap k x).badHeads = s.badHeads ∧ (s.setCap k x).badBanks = s.badBanks ∧ (s.setCap k x).badLanes = s.badLanes
    ∧ (s.setCap k x).ordered = s.ordered ∧ (s.setCap k x).openFills = s.openFills ∧ (s.setCap k x).straps = s.straps
    ∧ (s.setCap k x).bootLog = s.bootLog ∧ (s.setCap k x).settings = s.settings ∧ (s.setCap k x).closing = s.closing
    ∧ (s.setCap k x).closingNo = s.closingNo ∧ (s.setCap k x).closeStep = s.closeStep ∧ (s.setCap k x).dozeAsk = s.dozeAsk
    ∧ (s.setCap k x).dozeHeads = s.dozeHeads ∧ (s.setCap k x).dozePaused = s.dozePaused ∧ (s.setCap k x).wakeAsk = s.wakeAsk
    ∧ (s.setCap k x).after = s.after ∧ (s.setCap k x).testBy = s.testBy ∧ (s.setCap k x).port = s.port ∧ (s.setCap k x).sent = s.sent
    ∧ (s.setCap k x).free = s.free := by
  and_intros <;> rfl

@[simp] theorem State.setCap_tables (s : State) (k : Nat) (x : List (Nat × Bool)) :
    (∀ i, (s.setCap k x).rd i = s.rd i) ∧ (∀ i, (s.setCap k x).byte i = s.byte i) ∧ (∀ i, (s.setCap k x).core i = s.core i)
    ∧ (∀ i, (s.setCap k x).head i = s.head i) ∧ (∀ i, (s.setCap k x).journal i = s.journal i) ∧ (∀ i, (s.setCap k x).link i = s.link i)
    ∧ (∀ i, (s.setCap k x).fn i = s.fn i) ∧ (∀ i, (s.setCap k x).blk i = s.blk i) ∧ (∀ i, (s.setCap k x).chan i = s.chan i)
    ∧ (∀ i, (s.setCap k x).march i = s.march i) ∧ (∀ i, (s.setCap k x).cmp i = s.cmp i) ∧ (∀ i, (s.setCap k x).bell i = s.bell i)
    ∧ (∀ i, (s.setCap k x).src i = s.src i) ∧ (∀ i, (s.setCap k x).pin i = s.pin i) ∧ (∀ i, (s.setCap k x).ser i = s.ser i)
    ∧ (∀ i, (s.setCap k x).qd i = s.qd i) ∧ (∀ i, (s.setCap k x).mx i = s.mx i) ∧ (∀ i, (s.setCap k x).mtr i = s.mtr i)
    ∧ (∀ i, (s.setCap k x).cached i = s.cached i) ∧ (∀ i, (s.setCap k x).voice i = s.voice i) ∧ (∀ i, (s.setCap k x).turn i = s.turn i) := by
  and_intros <;> exact fun _ => rfl

@[simp] theorem State.setBell_fields (s : State) (k : Nat) (x : Bell) :
    (s.setBell k x).pending = s.pending ∧ (s.setBell k x).regs = s.regs ∧ (s.setBell k x).mem = s.mem ∧ (s.setBell k x).marks = s.marks
    ∧ (s.setBell k x).flaws = s.flaws ∧ (s.setBell k x).flash = s.flash ∧ (s.setBell k x).cards = s.cards
    ∧ (s.setBell k x).sram = s.sram ∧ (s.setBell k x).mode = s.mode ∧ (s.setBell k x).plan = s.plan ∧ (s.setBell k x).staged = s.staged
    ∧ (s.setBell k x).links = s.links ∧ (s.setBell k x).fns = s.fns ∧ (s.setBell k x).perst = s.perst ∧ (s.setBell k x).armed = s.armed
    ∧ (s.setBell k x).railsIn = s.railsIn ∧ (s.setBell k x).wakePin = s.wakePin ∧ (s.setBell k x).cores = s.cores
    ∧ (s.setBell k x).heads = s.heads ∧ (s.setBell k x).journals = s.journals ∧ (s.setBell k x).jm = s.jm
    ∧ (s.setBell k x).badEngines = s.badEngines ∧ (s.setBell k x).badUnits = s.badUnits ∧ (s.setBell k x).ringCache = s.ringCache
    ∧ (s.setBell k x).ringNow = s.ringNow ∧ (s.setBell k x).turns = s.turns ∧ (s.setBell k x).blks = s.blks
    ∧ (s.setBell k x).chans = s.chans ∧ (s.setBell k x).marches = s.marches ∧ (s.setBell k x).rot = s.rot
    ∧ (s.setBell k x).scrubPos = s.scrubPos ∧ (s.setBell k x).watches = s.watches ∧ (s.setBell k x).retired = s.retired
    ∧ (s.setBell k x).retiring = s.retiring ∧ (s.setBell k x).ueSeen = s.ueSeen ∧ (s.setBell k x).tb = s.tb
    ∧ (s.setBell k x).tbLf = s.tbLf ∧ (s.setBell k x).tbStepNo = s.tbStepNo ∧ (s.setBell k x).snaps = s.snaps
    ∧ (s.setBell k x).cmps = s.cmps ∧ (s.setBell k x).caps = s.caps ∧ (s.setBell k x).routes = s.routes
    ∧ (s.setBell k x).fired = s.fired ∧ (s.setBell k x).srcs = s.srcs ∧ (s.setBell k x).pins = s.pins ∧ (s.setBell k x).sers = s.sers
    ∧ (s.setBell k x).qds = s.qds ∧ (s.setBell k x).mxs = s.mxs ∧ (s.setBell k x).mtrs = s.mtrs ∧ (s.setBell k x).audio = s.audio
    ∧ (s.setBell k x).tally = s.tally ∧ (s.setBell k x).sense = s.sense ∧ (s.setBell k x).stormLimit = s.stormLimit
    ∧ (s.setBell k x).clerkRestarts = s.clerkRestarts ∧ (s.setBell k x).clerkUp = s.clerkUp ∧ (s.setBell k x).bootTb = s.bootTb
    ∧ (s.setBell k x).slot = s.slot ∧ (s.setBell k x).serviceAsk = s.serviceAsk ∧ (s.setBell k x).unverified = s.unverified
    ∧ (s.setBell k x).warm = s.warm ∧ (s.setBell k x).ran = s.ran ∧ (s.setBell k x).badCores = s.badCores
    ∧ (s.setBell k x).badHeads = s.badHeads ∧ (s.setBell k x).badBanks = s.badBanks ∧ (s.setBell k x).badLanes = s.badLanes
    ∧ (s.setBell k x).ordered = s.ordered ∧ (s.setBell k x).openFills = s.openFills ∧ (s.setBell k x).straps = s.straps
    ∧ (s.setBell k x).bootLog = s.bootLog ∧ (s.setBell k x).settings = s.settings ∧ (s.setBell k x).closing = s.closing
    ∧ (s.setBell k x).closingNo = s.closingNo ∧ (s.setBell k x).closeStep = s.closeStep ∧ (s.setBell k x).dozeAsk = s.dozeAsk
    ∧ (s.setBell k x).dozeHeads = s.dozeHeads ∧ (s.setBell k x).dozePaused = s.dozePaused ∧ (s.setBell k x).wakeAsk = s.wakeAsk
    ∧ (s.setBell k x).after = s.after ∧ (s.setBell k x).testBy = s.testBy ∧ (s.setBell k x).port = s.port
    ∧ (s.setBell k x).sent = s.sent ∧ (s.setBell k x).free = s.free := by
  and_intros <;> rfl

@[simp] theorem State.setBell_tables (s : State) (k : Nat) (x : Bell) :
    (∀ i, (s.setBell k x).rd i = s.rd i) ∧ (∀ i, (s.setBell k x).byte i = s.byte i) ∧ (∀ i, (s.setBell k x).core i = s.core i)
    ∧ (∀ i, (s.setBell k x).head i = s.head i) ∧ (∀ i, (s.setBell k x).journal i = s.journal i)
    ∧ (∀ i, (s.setBell k x).link i = s.link i) ∧ (∀ i, (s.setBell k x).fn i = s.fn i) ∧ (∀ i, (s.setBell k x).blk i = s.blk i)
    ∧ (∀ i, (s.setBell k x).chan i = s.chan i) ∧ (∀ i, (s.setBell k x).march i = s.march i) ∧ (∀ i, (s.setBell k x).cmp i = s.cmp i)
    ∧ (∀ i, (s.setBell k x).cap i = s.cap i) ∧ (∀ i, (s.setBell k x).src i = s.src i) ∧ (∀ i, (s.setBell k x).pin i = s.pin i)
    ∧ (∀ i, (s.setBell k x).ser i = s.ser i) ∧ (∀ i, (s.setBell k x).qd i = s.qd i) ∧ (∀ i, (s.setBell k x).mx i = s.mx i)
    ∧ (∀ i, (s.setBell k x).mtr i = s.mtr i) ∧ (∀ i, (s.setBell k x).cached i = s.cached i)
    ∧ (∀ i, (s.setBell k x).voice i = s.voice i) ∧ (∀ i, (s.setBell k x).turn i = s.turn i) := by
  and_intros <;> exact fun _ => rfl

@[simp] theorem State.setSrc_fields (s : State) (k : Nat) (x : Source) :
    (s.setSrc k x).pending = s.pending ∧ (s.setSrc k x).regs = s.regs ∧ (s.setSrc k x).mem = s.mem ∧ (s.setSrc k x).marks = s.marks
    ∧ (s.setSrc k x).flaws = s.flaws ∧ (s.setSrc k x).flash = s.flash ∧ (s.setSrc k x).cards = s.cards ∧ (s.setSrc k x).sram = s.sram
    ∧ (s.setSrc k x).mode = s.mode ∧ (s.setSrc k x).plan = s.plan ∧ (s.setSrc k x).staged = s.staged ∧ (s.setSrc k x).links = s.links
    ∧ (s.setSrc k x).fns = s.fns ∧ (s.setSrc k x).perst = s.perst ∧ (s.setSrc k x).armed = s.armed ∧ (s.setSrc k x).railsIn = s.railsIn
    ∧ (s.setSrc k x).wakePin = s.wakePin ∧ (s.setSrc k x).cores = s.cores ∧ (s.setSrc k x).heads = s.heads
    ∧ (s.setSrc k x).journals = s.journals ∧ (s.setSrc k x).jm = s.jm ∧ (s.setSrc k x).badEngines = s.badEngines
    ∧ (s.setSrc k x).badUnits = s.badUnits ∧ (s.setSrc k x).ringCache = s.ringCache ∧ (s.setSrc k x).ringNow = s.ringNow
    ∧ (s.setSrc k x).turns = s.turns ∧ (s.setSrc k x).blks = s.blks ∧ (s.setSrc k x).chans = s.chans
    ∧ (s.setSrc k x).marches = s.marches ∧ (s.setSrc k x).rot = s.rot ∧ (s.setSrc k x).scrubPos = s.scrubPos
    ∧ (s.setSrc k x).watches = s.watches ∧ (s.setSrc k x).retired = s.retired ∧ (s.setSrc k x).retiring = s.retiring
    ∧ (s.setSrc k x).ueSeen = s.ueSeen ∧ (s.setSrc k x).tb = s.tb ∧ (s.setSrc k x).tbLf = s.tbLf ∧ (s.setSrc k x).tbStepNo = s.tbStepNo
    ∧ (s.setSrc k x).snaps = s.snaps ∧ (s.setSrc k x).cmps = s.cmps ∧ (s.setSrc k x).caps = s.caps ∧ (s.setSrc k x).bells = s.bells
    ∧ (s.setSrc k x).routes = s.routes ∧ (s.setSrc k x).fired = s.fired ∧ (s.setSrc k x).pins = s.pins ∧ (s.setSrc k x).sers = s.sers
    ∧ (s.setSrc k x).qds = s.qds ∧ (s.setSrc k x).mxs = s.mxs ∧ (s.setSrc k x).mtrs = s.mtrs ∧ (s.setSrc k x).audio = s.audio
    ∧ (s.setSrc k x).tally = s.tally ∧ (s.setSrc k x).sense = s.sense ∧ (s.setSrc k x).stormLimit = s.stormLimit
    ∧ (s.setSrc k x).clerkRestarts = s.clerkRestarts ∧ (s.setSrc k x).clerkUp = s.clerkUp ∧ (s.setSrc k x).bootTb = s.bootTb
    ∧ (s.setSrc k x).slot = s.slot ∧ (s.setSrc k x).serviceAsk = s.serviceAsk ∧ (s.setSrc k x).unverified = s.unverified
    ∧ (s.setSrc k x).warm = s.warm ∧ (s.setSrc k x).ran = s.ran ∧ (s.setSrc k x).badCores = s.badCores
    ∧ (s.setSrc k x).badHeads = s.badHeads ∧ (s.setSrc k x).badBanks = s.badBanks ∧ (s.setSrc k x).badLanes = s.badLanes
    ∧ (s.setSrc k x).ordered = s.ordered ∧ (s.setSrc k x).openFills = s.openFills ∧ (s.setSrc k x).straps = s.straps
    ∧ (s.setSrc k x).bootLog = s.bootLog ∧ (s.setSrc k x).settings = s.settings ∧ (s.setSrc k x).closing = s.closing
    ∧ (s.setSrc k x).closingNo = s.closingNo ∧ (s.setSrc k x).closeStep = s.closeStep ∧ (s.setSrc k x).dozeAsk = s.dozeAsk
    ∧ (s.setSrc k x).dozeHeads = s.dozeHeads ∧ (s.setSrc k x).dozePaused = s.dozePaused ∧ (s.setSrc k x).wakeAsk = s.wakeAsk
    ∧ (s.setSrc k x).after = s.after ∧ (s.setSrc k x).testBy = s.testBy ∧ (s.setSrc k x).port = s.port ∧ (s.setSrc k x).sent = s.sent
    ∧ (s.setSrc k x).free = s.free := by
  and_intros <;> rfl

@[simp] theorem State.setSrc_tables (s : State) (k : Nat) (x : Source) :
    (∀ i, (s.setSrc k x).rd i = s.rd i) ∧ (∀ i, (s.setSrc k x).byte i = s.byte i) ∧ (∀ i, (s.setSrc k x).core i = s.core i)
    ∧ (∀ i, (s.setSrc k x).head i = s.head i) ∧ (∀ i, (s.setSrc k x).journal i = s.journal i) ∧ (∀ i, (s.setSrc k x).link i = s.link i)
    ∧ (∀ i, (s.setSrc k x).fn i = s.fn i) ∧ (∀ i, (s.setSrc k x).blk i = s.blk i) ∧ (∀ i, (s.setSrc k x).chan i = s.chan i)
    ∧ (∀ i, (s.setSrc k x).march i = s.march i) ∧ (∀ i, (s.setSrc k x).cmp i = s.cmp i) ∧ (∀ i, (s.setSrc k x).cap i = s.cap i)
    ∧ (∀ i, (s.setSrc k x).bell i = s.bell i) ∧ (∀ i, (s.setSrc k x).pin i = s.pin i) ∧ (∀ i, (s.setSrc k x).ser i = s.ser i)
    ∧ (∀ i, (s.setSrc k x).qd i = s.qd i) ∧ (∀ i, (s.setSrc k x).mx i = s.mx i) ∧ (∀ i, (s.setSrc k x).mtr i = s.mtr i)
    ∧ (∀ i, (s.setSrc k x).cached i = s.cached i) ∧ (∀ i, (s.setSrc k x).voice i = s.voice i) ∧ (∀ i, (s.setSrc k x).turn i = s.turn i) := by
  and_intros <;> exact fun _ => rfl

@[simp] theorem State.setPin_fields (s : State) (k : Nat) (x : Pin) :
    (s.setPin k x).pending = s.pending ∧ (s.setPin k x).regs = s.regs ∧ (s.setPin k x).mem = s.mem ∧ (s.setPin k x).marks = s.marks
    ∧ (s.setPin k x).flaws = s.flaws ∧ (s.setPin k x).flash = s.flash ∧ (s.setPin k x).cards = s.cards ∧ (s.setPin k x).sram = s.sram
    ∧ (s.setPin k x).mode = s.mode ∧ (s.setPin k x).plan = s.plan ∧ (s.setPin k x).staged = s.staged ∧ (s.setPin k x).links = s.links
    ∧ (s.setPin k x).fns = s.fns ∧ (s.setPin k x).perst = s.perst ∧ (s.setPin k x).armed = s.armed ∧ (s.setPin k x).railsIn = s.railsIn
    ∧ (s.setPin k x).wakePin = s.wakePin ∧ (s.setPin k x).cores = s.cores ∧ (s.setPin k x).heads = s.heads
    ∧ (s.setPin k x).journals = s.journals ∧ (s.setPin k x).jm = s.jm ∧ (s.setPin k x).badEngines = s.badEngines
    ∧ (s.setPin k x).badUnits = s.badUnits ∧ (s.setPin k x).ringCache = s.ringCache ∧ (s.setPin k x).ringNow = s.ringNow
    ∧ (s.setPin k x).turns = s.turns ∧ (s.setPin k x).blks = s.blks ∧ (s.setPin k x).chans = s.chans
    ∧ (s.setPin k x).marches = s.marches ∧ (s.setPin k x).rot = s.rot ∧ (s.setPin k x).scrubPos = s.scrubPos
    ∧ (s.setPin k x).watches = s.watches ∧ (s.setPin k x).retired = s.retired ∧ (s.setPin k x).retiring = s.retiring
    ∧ (s.setPin k x).ueSeen = s.ueSeen ∧ (s.setPin k x).tb = s.tb ∧ (s.setPin k x).tbLf = s.tbLf ∧ (s.setPin k x).tbStepNo = s.tbStepNo
    ∧ (s.setPin k x).snaps = s.snaps ∧ (s.setPin k x).cmps = s.cmps ∧ (s.setPin k x).caps = s.caps ∧ (s.setPin k x).bells = s.bells
    ∧ (s.setPin k x).routes = s.routes ∧ (s.setPin k x).fired = s.fired ∧ (s.setPin k x).srcs = s.srcs ∧ (s.setPin k x).sers = s.sers
    ∧ (s.setPin k x).qds = s.qds ∧ (s.setPin k x).mxs = s.mxs ∧ (s.setPin k x).mtrs = s.mtrs ∧ (s.setPin k x).audio = s.audio
    ∧ (s.setPin k x).tally = s.tally ∧ (s.setPin k x).sense = s.sense ∧ (s.setPin k x).stormLimit = s.stormLimit
    ∧ (s.setPin k x).clerkRestarts = s.clerkRestarts ∧ (s.setPin k x).clerkUp = s.clerkUp ∧ (s.setPin k x).bootTb = s.bootTb
    ∧ (s.setPin k x).slot = s.slot ∧ (s.setPin k x).serviceAsk = s.serviceAsk ∧ (s.setPin k x).unverified = s.unverified
    ∧ (s.setPin k x).warm = s.warm ∧ (s.setPin k x).ran = s.ran ∧ (s.setPin k x).badCores = s.badCores
    ∧ (s.setPin k x).badHeads = s.badHeads ∧ (s.setPin k x).badBanks = s.badBanks ∧ (s.setPin k x).badLanes = s.badLanes
    ∧ (s.setPin k x).ordered = s.ordered ∧ (s.setPin k x).openFills = s.openFills ∧ (s.setPin k x).straps = s.straps
    ∧ (s.setPin k x).bootLog = s.bootLog ∧ (s.setPin k x).settings = s.settings ∧ (s.setPin k x).closing = s.closing
    ∧ (s.setPin k x).closingNo = s.closingNo ∧ (s.setPin k x).closeStep = s.closeStep ∧ (s.setPin k x).dozeAsk = s.dozeAsk
    ∧ (s.setPin k x).dozeHeads = s.dozeHeads ∧ (s.setPin k x).dozePaused = s.dozePaused ∧ (s.setPin k x).wakeAsk = s.wakeAsk
    ∧ (s.setPin k x).after = s.after ∧ (s.setPin k x).testBy = s.testBy ∧ (s.setPin k x).port = s.port ∧ (s.setPin k x).sent = s.sent
    ∧ (s.setPin k x).free = s.free := by
  and_intros <;> rfl

@[simp] theorem State.setPin_tables (s : State) (k : Nat) (x : Pin) :
    (∀ i, (s.setPin k x).rd i = s.rd i) ∧ (∀ i, (s.setPin k x).byte i = s.byte i) ∧ (∀ i, (s.setPin k x).core i = s.core i)
    ∧ (∀ i, (s.setPin k x).head i = s.head i) ∧ (∀ i, (s.setPin k x).journal i = s.journal i) ∧ (∀ i, (s.setPin k x).link i = s.link i)
    ∧ (∀ i, (s.setPin k x).fn i = s.fn i) ∧ (∀ i, (s.setPin k x).blk i = s.blk i) ∧ (∀ i, (s.setPin k x).chan i = s.chan i)
    ∧ (∀ i, (s.setPin k x).march i = s.march i) ∧ (∀ i, (s.setPin k x).cmp i = s.cmp i) ∧ (∀ i, (s.setPin k x).cap i = s.cap i)
    ∧ (∀ i, (s.setPin k x).bell i = s.bell i) ∧ (∀ i, (s.setPin k x).src i = s.src i) ∧ (∀ i, (s.setPin k x).ser i = s.ser i)
    ∧ (∀ i, (s.setPin k x).qd i = s.qd i) ∧ (∀ i, (s.setPin k x).mx i = s.mx i) ∧ (∀ i, (s.setPin k x).mtr i = s.mtr i)
    ∧ (∀ i, (s.setPin k x).cached i = s.cached i) ∧ (∀ i, (s.setPin k x).voice i = s.voice i) ∧ (∀ i, (s.setPin k x).turn i = s.turn i) := by
  and_intros <;> exact fun _ => rfl

@[simp] theorem State.setSer_fields (s : State) (k : Nat) (x : Ser) :
    (s.setSer k x).pending = s.pending ∧ (s.setSer k x).regs = s.regs ∧ (s.setSer k x).mem = s.mem ∧ (s.setSer k x).marks = s.marks
    ∧ (s.setSer k x).flaws = s.flaws ∧ (s.setSer k x).flash = s.flash ∧ (s.setSer k x).cards = s.cards ∧ (s.setSer k x).sram = s.sram
    ∧ (s.setSer k x).mode = s.mode ∧ (s.setSer k x).plan = s.plan ∧ (s.setSer k x).staged = s.staged ∧ (s.setSer k x).links = s.links
    ∧ (s.setSer k x).fns = s.fns ∧ (s.setSer k x).perst = s.perst ∧ (s.setSer k x).armed = s.armed ∧ (s.setSer k x).railsIn = s.railsIn
    ∧ (s.setSer k x).wakePin = s.wakePin ∧ (s.setSer k x).cores = s.cores ∧ (s.setSer k x).heads = s.heads
    ∧ (s.setSer k x).journals = s.journals ∧ (s.setSer k x).jm = s.jm ∧ (s.setSer k x).badEngines = s.badEngines
    ∧ (s.setSer k x).badUnits = s.badUnits ∧ (s.setSer k x).ringCache = s.ringCache ∧ (s.setSer k x).ringNow = s.ringNow
    ∧ (s.setSer k x).turns = s.turns ∧ (s.setSer k x).blks = s.blks ∧ (s.setSer k x).chans = s.chans
    ∧ (s.setSer k x).marches = s.marches ∧ (s.setSer k x).rot = s.rot ∧ (s.setSer k x).scrubPos = s.scrubPos
    ∧ (s.setSer k x).watches = s.watches ∧ (s.setSer k x).retired = s.retired ∧ (s.setSer k x).retiring = s.retiring
    ∧ (s.setSer k x).ueSeen = s.ueSeen ∧ (s.setSer k x).tb = s.tb ∧ (s.setSer k x).tbLf = s.tbLf ∧ (s.setSer k x).tbStepNo = s.tbStepNo
    ∧ (s.setSer k x).snaps = s.snaps ∧ (s.setSer k x).cmps = s.cmps ∧ (s.setSer k x).caps = s.caps ∧ (s.setSer k x).bells = s.bells
    ∧ (s.setSer k x).routes = s.routes ∧ (s.setSer k x).fired = s.fired ∧ (s.setSer k x).srcs = s.srcs ∧ (s.setSer k x).pins = s.pins
    ∧ (s.setSer k x).qds = s.qds ∧ (s.setSer k x).mxs = s.mxs ∧ (s.setSer k x).mtrs = s.mtrs ∧ (s.setSer k x).audio = s.audio
    ∧ (s.setSer k x).tally = s.tally ∧ (s.setSer k x).sense = s.sense ∧ (s.setSer k x).stormLimit = s.stormLimit
    ∧ (s.setSer k x).clerkRestarts = s.clerkRestarts ∧ (s.setSer k x).clerkUp = s.clerkUp ∧ (s.setSer k x).bootTb = s.bootTb
    ∧ (s.setSer k x).slot = s.slot ∧ (s.setSer k x).serviceAsk = s.serviceAsk ∧ (s.setSer k x).unverified = s.unverified
    ∧ (s.setSer k x).warm = s.warm ∧ (s.setSer k x).ran = s.ran ∧ (s.setSer k x).badCores = s.badCores
    ∧ (s.setSer k x).badHeads = s.badHeads ∧ (s.setSer k x).badBanks = s.badBanks ∧ (s.setSer k x).badLanes = s.badLanes
    ∧ (s.setSer k x).ordered = s.ordered ∧ (s.setSer k x).openFills = s.openFills ∧ (s.setSer k x).straps = s.straps
    ∧ (s.setSer k x).bootLog = s.bootLog ∧ (s.setSer k x).settings = s.settings ∧ (s.setSer k x).closing = s.closing
    ∧ (s.setSer k x).closingNo = s.closingNo ∧ (s.setSer k x).closeStep = s.closeStep ∧ (s.setSer k x).dozeAsk = s.dozeAsk
    ∧ (s.setSer k x).dozeHeads = s.dozeHeads ∧ (s.setSer k x).dozePaused = s.dozePaused ∧ (s.setSer k x).wakeAsk = s.wakeAsk
    ∧ (s.setSer k x).after = s.after ∧ (s.setSer k x).testBy = s.testBy ∧ (s.setSer k x).port = s.port ∧ (s.setSer k x).sent = s.sent
    ∧ (s.setSer k x).free = s.free := by
  and_intros <;> rfl

@[simp] theorem State.setSer_tables (s : State) (k : Nat) (x : Ser) :
    (∀ i, (s.setSer k x).rd i = s.rd i) ∧ (∀ i, (s.setSer k x).byte i = s.byte i) ∧ (∀ i, (s.setSer k x).core i = s.core i)
    ∧ (∀ i, (s.setSer k x).head i = s.head i) ∧ (∀ i, (s.setSer k x).journal i = s.journal i) ∧ (∀ i, (s.setSer k x).link i = s.link i)
    ∧ (∀ i, (s.setSer k x).fn i = s.fn i) ∧ (∀ i, (s.setSer k x).blk i = s.blk i) ∧ (∀ i, (s.setSer k x).chan i = s.chan i)
    ∧ (∀ i, (s.setSer k x).march i = s.march i) ∧ (∀ i, (s.setSer k x).cmp i = s.cmp i) ∧ (∀ i, (s.setSer k x).cap i = s.cap i)
    ∧ (∀ i, (s.setSer k x).bell i = s.bell i) ∧ (∀ i, (s.setSer k x).src i = s.src i) ∧ (∀ i, (s.setSer k x).pin i = s.pin i)
    ∧ (∀ i, (s.setSer k x).qd i = s.qd i) ∧ (∀ i, (s.setSer k x).mx i = s.mx i) ∧ (∀ i, (s.setSer k x).mtr i = s.mtr i)
    ∧ (∀ i, (s.setSer k x).cached i = s.cached i) ∧ (∀ i, (s.setSer k x).voice i = s.voice i) ∧ (∀ i, (s.setSer k x).turn i = s.turn i) := by
  and_intros <;> exact fun _ => rfl

@[simp] theorem State.setQd_fields (s : State) (k : Nat) (x : CioUnit) :
    (s.setQd k x).pending = s.pending ∧ (s.setQd k x).regs = s.regs ∧ (s.setQd k x).mem = s.mem ∧ (s.setQd k x).marks = s.marks
    ∧ (s.setQd k x).flaws = s.flaws ∧ (s.setQd k x).flash = s.flash ∧ (s.setQd k x).cards = s.cards ∧ (s.setQd k x).sram = s.sram
    ∧ (s.setQd k x).mode = s.mode ∧ (s.setQd k x).plan = s.plan ∧ (s.setQd k x).staged = s.staged ∧ (s.setQd k x).links = s.links
    ∧ (s.setQd k x).fns = s.fns ∧ (s.setQd k x).perst = s.perst ∧ (s.setQd k x).armed = s.armed ∧ (s.setQd k x).railsIn = s.railsIn
    ∧ (s.setQd k x).wakePin = s.wakePin ∧ (s.setQd k x).cores = s.cores ∧ (s.setQd k x).heads = s.heads
    ∧ (s.setQd k x).journals = s.journals ∧ (s.setQd k x).jm = s.jm ∧ (s.setQd k x).badEngines = s.badEngines
    ∧ (s.setQd k x).badUnits = s.badUnits ∧ (s.setQd k x).ringCache = s.ringCache ∧ (s.setQd k x).ringNow = s.ringNow
    ∧ (s.setQd k x).turns = s.turns ∧ (s.setQd k x).blks = s.blks ∧ (s.setQd k x).chans = s.chans ∧ (s.setQd k x).marches = s.marches
    ∧ (s.setQd k x).rot = s.rot ∧ (s.setQd k x).scrubPos = s.scrubPos ∧ (s.setQd k x).watches = s.watches
    ∧ (s.setQd k x).retired = s.retired ∧ (s.setQd k x).retiring = s.retiring ∧ (s.setQd k x).ueSeen = s.ueSeen
    ∧ (s.setQd k x).tb = s.tb ∧ (s.setQd k x).tbLf = s.tbLf ∧ (s.setQd k x).tbStepNo = s.tbStepNo ∧ (s.setQd k x).snaps = s.snaps
    ∧ (s.setQd k x).cmps = s.cmps ∧ (s.setQd k x).caps = s.caps ∧ (s.setQd k x).bells = s.bells ∧ (s.setQd k x).routes = s.routes
    ∧ (s.setQd k x).fired = s.fired ∧ (s.setQd k x).srcs = s.srcs ∧ (s.setQd k x).pins = s.pins ∧ (s.setQd k x).sers = s.sers
    ∧ (s.setQd k x).mxs = s.mxs ∧ (s.setQd k x).mtrs = s.mtrs ∧ (s.setQd k x).audio = s.audio ∧ (s.setQd k x).tally = s.tally
    ∧ (s.setQd k x).sense = s.sense ∧ (s.setQd k x).stormLimit = s.stormLimit ∧ (s.setQd k x).clerkRestarts = s.clerkRestarts
    ∧ (s.setQd k x).clerkUp = s.clerkUp ∧ (s.setQd k x).bootTb = s.bootTb ∧ (s.setQd k x).slot = s.slot
    ∧ (s.setQd k x).serviceAsk = s.serviceAsk ∧ (s.setQd k x).unverified = s.unverified ∧ (s.setQd k x).warm = s.warm
    ∧ (s.setQd k x).ran = s.ran ∧ (s.setQd k x).badCores = s.badCores ∧ (s.setQd k x).badHeads = s.badHeads
    ∧ (s.setQd k x).badBanks = s.badBanks ∧ (s.setQd k x).badLanes = s.badLanes ∧ (s.setQd k x).ordered = s.ordered
    ∧ (s.setQd k x).openFills = s.openFills ∧ (s.setQd k x).straps = s.straps ∧ (s.setQd k x).bootLog = s.bootLog
    ∧ (s.setQd k x).settings = s.settings ∧ (s.setQd k x).closing = s.closing ∧ (s.setQd k x).closingNo = s.closingNo
    ∧ (s.setQd k x).closeStep = s.closeStep ∧ (s.setQd k x).dozeAsk = s.dozeAsk ∧ (s.setQd k x).dozeHeads = s.dozeHeads
    ∧ (s.setQd k x).dozePaused = s.dozePaused ∧ (s.setQd k x).wakeAsk = s.wakeAsk ∧ (s.setQd k x).after = s.after
    ∧ (s.setQd k x).testBy = s.testBy ∧ (s.setQd k x).port = s.port ∧ (s.setQd k x).sent = s.sent ∧ (s.setQd k x).free = s.free := by
  and_intros <;> rfl

@[simp] theorem State.setQd_tables (s : State) (k : Nat) (x : CioUnit) :
    (∀ i, (s.setQd k x).rd i = s.rd i) ∧ (∀ i, (s.setQd k x).byte i = s.byte i) ∧ (∀ i, (s.setQd k x).core i = s.core i)
    ∧ (∀ i, (s.setQd k x).head i = s.head i) ∧ (∀ i, (s.setQd k x).journal i = s.journal i) ∧ (∀ i, (s.setQd k x).link i = s.link i)
    ∧ (∀ i, (s.setQd k x).fn i = s.fn i) ∧ (∀ i, (s.setQd k x).blk i = s.blk i) ∧ (∀ i, (s.setQd k x).chan i = s.chan i)
    ∧ (∀ i, (s.setQd k x).march i = s.march i) ∧ (∀ i, (s.setQd k x).cmp i = s.cmp i) ∧ (∀ i, (s.setQd k x).cap i = s.cap i)
    ∧ (∀ i, (s.setQd k x).bell i = s.bell i) ∧ (∀ i, (s.setQd k x).src i = s.src i) ∧ (∀ i, (s.setQd k x).pin i = s.pin i)
    ∧ (∀ i, (s.setQd k x).ser i = s.ser i) ∧ (∀ i, (s.setQd k x).mx i = s.mx i) ∧ (∀ i, (s.setQd k x).mtr i = s.mtr i)
    ∧ (∀ i, (s.setQd k x).cached i = s.cached i) ∧ (∀ i, (s.setQd k x).voice i = s.voice i) ∧ (∀ i, (s.setQd k x).turn i = s.turn i) := by
  and_intros <;> exact fun _ => rfl

@[simp] theorem State.setMx_fields (s : State) (k : Nat) (x : CioUnit) :
    (s.setMx k x).pending = s.pending ∧ (s.setMx k x).regs = s.regs ∧ (s.setMx k x).mem = s.mem ∧ (s.setMx k x).marks = s.marks
    ∧ (s.setMx k x).flaws = s.flaws ∧ (s.setMx k x).flash = s.flash ∧ (s.setMx k x).cards = s.cards ∧ (s.setMx k x).sram = s.sram
    ∧ (s.setMx k x).mode = s.mode ∧ (s.setMx k x).plan = s.plan ∧ (s.setMx k x).staged = s.staged ∧ (s.setMx k x).links = s.links
    ∧ (s.setMx k x).fns = s.fns ∧ (s.setMx k x).perst = s.perst ∧ (s.setMx k x).armed = s.armed ∧ (s.setMx k x).railsIn = s.railsIn
    ∧ (s.setMx k x).wakePin = s.wakePin ∧ (s.setMx k x).cores = s.cores ∧ (s.setMx k x).heads = s.heads
    ∧ (s.setMx k x).journals = s.journals ∧ (s.setMx k x).jm = s.jm ∧ (s.setMx k x).badEngines = s.badEngines
    ∧ (s.setMx k x).badUnits = s.badUnits ∧ (s.setMx k x).ringCache = s.ringCache ∧ (s.setMx k x).ringNow = s.ringNow
    ∧ (s.setMx k x).turns = s.turns ∧ (s.setMx k x).blks = s.blks ∧ (s.setMx k x).chans = s.chans ∧ (s.setMx k x).marches = s.marches
    ∧ (s.setMx k x).rot = s.rot ∧ (s.setMx k x).scrubPos = s.scrubPos ∧ (s.setMx k x).watches = s.watches
    ∧ (s.setMx k x).retired = s.retired ∧ (s.setMx k x).retiring = s.retiring ∧ (s.setMx k x).ueSeen = s.ueSeen
    ∧ (s.setMx k x).tb = s.tb ∧ (s.setMx k x).tbLf = s.tbLf ∧ (s.setMx k x).tbStepNo = s.tbStepNo ∧ (s.setMx k x).snaps = s.snaps
    ∧ (s.setMx k x).cmps = s.cmps ∧ (s.setMx k x).caps = s.caps ∧ (s.setMx k x).bells = s.bells ∧ (s.setMx k x).routes = s.routes
    ∧ (s.setMx k x).fired = s.fired ∧ (s.setMx k x).srcs = s.srcs ∧ (s.setMx k x).pins = s.pins ∧ (s.setMx k x).sers = s.sers
    ∧ (s.setMx k x).qds = s.qds ∧ (s.setMx k x).mtrs = s.mtrs ∧ (s.setMx k x).audio = s.audio ∧ (s.setMx k x).tally = s.tally
    ∧ (s.setMx k x).sense = s.sense ∧ (s.setMx k x).stormLimit = s.stormLimit ∧ (s.setMx k x).clerkRestarts = s.clerkRestarts
    ∧ (s.setMx k x).clerkUp = s.clerkUp ∧ (s.setMx k x).bootTb = s.bootTb ∧ (s.setMx k x).slot = s.slot
    ∧ (s.setMx k x).serviceAsk = s.serviceAsk ∧ (s.setMx k x).unverified = s.unverified ∧ (s.setMx k x).warm = s.warm
    ∧ (s.setMx k x).ran = s.ran ∧ (s.setMx k x).badCores = s.badCores ∧ (s.setMx k x).badHeads = s.badHeads
    ∧ (s.setMx k x).badBanks = s.badBanks ∧ (s.setMx k x).badLanes = s.badLanes ∧ (s.setMx k x).ordered = s.ordered
    ∧ (s.setMx k x).openFills = s.openFills ∧ (s.setMx k x).straps = s.straps ∧ (s.setMx k x).bootLog = s.bootLog
    ∧ (s.setMx k x).settings = s.settings ∧ (s.setMx k x).closing = s.closing ∧ (s.setMx k x).closingNo = s.closingNo
    ∧ (s.setMx k x).closeStep = s.closeStep ∧ (s.setMx k x).dozeAsk = s.dozeAsk ∧ (s.setMx k x).dozeHeads = s.dozeHeads
    ∧ (s.setMx k x).dozePaused = s.dozePaused ∧ (s.setMx k x).wakeAsk = s.wakeAsk ∧ (s.setMx k x).after = s.after
    ∧ (s.setMx k x).testBy = s.testBy ∧ (s.setMx k x).port = s.port ∧ (s.setMx k x).sent = s.sent ∧ (s.setMx k x).free = s.free := by
  and_intros <;> rfl

@[simp] theorem State.setMx_tables (s : State) (k : Nat) (x : CioUnit) :
    (∀ i, (s.setMx k x).rd i = s.rd i) ∧ (∀ i, (s.setMx k x).byte i = s.byte i) ∧ (∀ i, (s.setMx k x).core i = s.core i)
    ∧ (∀ i, (s.setMx k x).head i = s.head i) ∧ (∀ i, (s.setMx k x).journal i = s.journal i) ∧ (∀ i, (s.setMx k x).link i = s.link i)
    ∧ (∀ i, (s.setMx k x).fn i = s.fn i) ∧ (∀ i, (s.setMx k x).blk i = s.blk i) ∧ (∀ i, (s.setMx k x).chan i = s.chan i)
    ∧ (∀ i, (s.setMx k x).march i = s.march i) ∧ (∀ i, (s.setMx k x).cmp i = s.cmp i) ∧ (∀ i, (s.setMx k x).cap i = s.cap i)
    ∧ (∀ i, (s.setMx k x).bell i = s.bell i) ∧ (∀ i, (s.setMx k x).src i = s.src i) ∧ (∀ i, (s.setMx k x).pin i = s.pin i)
    ∧ (∀ i, (s.setMx k x).ser i = s.ser i) ∧ (∀ i, (s.setMx k x).qd i = s.qd i) ∧ (∀ i, (s.setMx k x).mtr i = s.mtr i)
    ∧ (∀ i, (s.setMx k x).cached i = s.cached i) ∧ (∀ i, (s.setMx k x).voice i = s.voice i) ∧ (∀ i, (s.setMx k x).turn i = s.turn i) := by
  and_intros <;> exact fun _ => rfl

@[simp] theorem State.setMtr_fields (s : State) (k : Nat) (x : Meter) :
    (s.setMtr k x).pending = s.pending ∧ (s.setMtr k x).regs = s.regs ∧ (s.setMtr k x).mem = s.mem ∧ (s.setMtr k x).marks = s.marks
    ∧ (s.setMtr k x).flaws = s.flaws ∧ (s.setMtr k x).flash = s.flash ∧ (s.setMtr k x).cards = s.cards ∧ (s.setMtr k x).sram = s.sram
    ∧ (s.setMtr k x).mode = s.mode ∧ (s.setMtr k x).plan = s.plan ∧ (s.setMtr k x).staged = s.staged ∧ (s.setMtr k x).links = s.links
    ∧ (s.setMtr k x).fns = s.fns ∧ (s.setMtr k x).perst = s.perst ∧ (s.setMtr k x).armed = s.armed ∧ (s.setMtr k x).railsIn = s.railsIn
    ∧ (s.setMtr k x).wakePin = s.wakePin ∧ (s.setMtr k x).cores = s.cores ∧ (s.setMtr k x).heads = s.heads
    ∧ (s.setMtr k x).journals = s.journals ∧ (s.setMtr k x).jm = s.jm ∧ (s.setMtr k x).badEngines = s.badEngines
    ∧ (s.setMtr k x).badUnits = s.badUnits ∧ (s.setMtr k x).ringCache = s.ringCache ∧ (s.setMtr k x).ringNow = s.ringNow
    ∧ (s.setMtr k x).turns = s.turns ∧ (s.setMtr k x).blks = s.blks ∧ (s.setMtr k x).chans = s.chans
    ∧ (s.setMtr k x).marches = s.marches ∧ (s.setMtr k x).rot = s.rot ∧ (s.setMtr k x).scrubPos = s.scrubPos
    ∧ (s.setMtr k x).watches = s.watches ∧ (s.setMtr k x).retired = s.retired ∧ (s.setMtr k x).retiring = s.retiring
    ∧ (s.setMtr k x).ueSeen = s.ueSeen ∧ (s.setMtr k x).tb = s.tb ∧ (s.setMtr k x).tbLf = s.tbLf ∧ (s.setMtr k x).tbStepNo = s.tbStepNo
    ∧ (s.setMtr k x).snaps = s.snaps ∧ (s.setMtr k x).cmps = s.cmps ∧ (s.setMtr k x).caps = s.caps ∧ (s.setMtr k x).bells = s.bells
    ∧ (s.setMtr k x).routes = s.routes ∧ (s.setMtr k x).fired = s.fired ∧ (s.setMtr k x).srcs = s.srcs ∧ (s.setMtr k x).pins = s.pins
    ∧ (s.setMtr k x).sers = s.sers ∧ (s.setMtr k x).qds = s.qds ∧ (s.setMtr k x).mxs = s.mxs ∧ (s.setMtr k x).audio = s.audio
    ∧ (s.setMtr k x).tally = s.tally ∧ (s.setMtr k x).sense = s.sense ∧ (s.setMtr k x).stormLimit = s.stormLimit
    ∧ (s.setMtr k x).clerkRestarts = s.clerkRestarts ∧ (s.setMtr k x).clerkUp = s.clerkUp ∧ (s.setMtr k x).bootTb = s.bootTb
    ∧ (s.setMtr k x).slot = s.slot ∧ (s.setMtr k x).serviceAsk = s.serviceAsk ∧ (s.setMtr k x).unverified = s.unverified
    ∧ (s.setMtr k x).warm = s.warm ∧ (s.setMtr k x).ran = s.ran ∧ (s.setMtr k x).badCores = s.badCores
    ∧ (s.setMtr k x).badHeads = s.badHeads ∧ (s.setMtr k x).badBanks = s.badBanks ∧ (s.setMtr k x).badLanes = s.badLanes
    ∧ (s.setMtr k x).ordered = s.ordered ∧ (s.setMtr k x).openFills = s.openFills ∧ (s.setMtr k x).straps = s.straps
    ∧ (s.setMtr k x).bootLog = s.bootLog ∧ (s.setMtr k x).settings = s.settings ∧ (s.setMtr k x).closing = s.closing
    ∧ (s.setMtr k x).closingNo = s.closingNo ∧ (s.setMtr k x).closeStep = s.closeStep ∧ (s.setMtr k x).dozeAsk = s.dozeAsk
    ∧ (s.setMtr k x).dozeHeads = s.dozeHeads ∧ (s.setMtr k x).dozePaused = s.dozePaused ∧ (s.setMtr k x).wakeAsk = s.wakeAsk
    ∧ (s.setMtr k x).after = s.after ∧ (s.setMtr k x).testBy = s.testBy ∧ (s.setMtr k x).port = s.port ∧ (s.setMtr k x).sent = s.sent
    ∧ (s.setMtr k x).free = s.free := by
  and_intros <;> rfl

@[simp] theorem State.setMtr_tables (s : State) (k : Nat) (x : Meter) :
    (∀ i, (s.setMtr k x).rd i = s.rd i) ∧ (∀ i, (s.setMtr k x).byte i = s.byte i) ∧ (∀ i, (s.setMtr k x).core i = s.core i)
    ∧ (∀ i, (s.setMtr k x).head i = s.head i) ∧ (∀ i, (s.setMtr k x).journal i = s.journal i) ∧ (∀ i, (s.setMtr k x).link i = s.link i)
    ∧ (∀ i, (s.setMtr k x).fn i = s.fn i) ∧ (∀ i, (s.setMtr k x).blk i = s.blk i) ∧ (∀ i, (s.setMtr k x).chan i = s.chan i)
    ∧ (∀ i, (s.setMtr k x).march i = s.march i) ∧ (∀ i, (s.setMtr k x).cmp i = s.cmp i) ∧ (∀ i, (s.setMtr k x).cap i = s.cap i)
    ∧ (∀ i, (s.setMtr k x).bell i = s.bell i) ∧ (∀ i, (s.setMtr k x).src i = s.src i) ∧ (∀ i, (s.setMtr k x).pin i = s.pin i)
    ∧ (∀ i, (s.setMtr k x).ser i = s.ser i) ∧ (∀ i, (s.setMtr k x).qd i = s.qd i) ∧ (∀ i, (s.setMtr k x).mx i = s.mx i)
    ∧ (∀ i, (s.setMtr k x).cached i = s.cached i) ∧ (∀ i, (s.setMtr k x).voice i = s.voice i) ∧ (∀ i, (s.setMtr k x).turn i = s.turn i) := by
  and_intros <;> exact fun _ => rfl

@[simp] theorem State.setCached_fields (s : State) (k : Nat) (x : List (List Byte)) :
    (s.setCached k x).pending = s.pending ∧ (s.setCached k x).regs = s.regs ∧ (s.setCached k x).mem = s.mem
    ∧ (s.setCached k x).marks = s.marks ∧ (s.setCached k x).flaws = s.flaws ∧ (s.setCached k x).flash = s.flash
    ∧ (s.setCached k x).cards = s.cards ∧ (s.setCached k x).sram = s.sram ∧ (s.setCached k x).mode = s.mode
    ∧ (s.setCached k x).plan = s.plan ∧ (s.setCached k x).staged = s.staged ∧ (s.setCached k x).links = s.links
    ∧ (s.setCached k x).fns = s.fns ∧ (s.setCached k x).perst = s.perst ∧ (s.setCached k x).armed = s.armed
    ∧ (s.setCached k x).railsIn = s.railsIn ∧ (s.setCached k x).wakePin = s.wakePin ∧ (s.setCached k x).cores = s.cores
    ∧ (s.setCached k x).heads = s.heads ∧ (s.setCached k x).journals = s.journals ∧ (s.setCached k x).jm = s.jm
    ∧ (s.setCached k x).badEngines = s.badEngines ∧ (s.setCached k x).badUnits = s.badUnits ∧ (s.setCached k x).ringNow = s.ringNow
    ∧ (s.setCached k x).turns = s.turns ∧ (s.setCached k x).blks = s.blks ∧ (s.setCached k x).chans = s.chans
    ∧ (s.setCached k x).marches = s.marches ∧ (s.setCached k x).rot = s.rot ∧ (s.setCached k x).scrubPos = s.scrubPos
    ∧ (s.setCached k x).watches = s.watches ∧ (s.setCached k x).retired = s.retired ∧ (s.setCached k x).retiring = s.retiring
    ∧ (s.setCached k x).ueSeen = s.ueSeen ∧ (s.setCached k x).tb = s.tb ∧ (s.setCached k x).tbLf = s.tbLf
    ∧ (s.setCached k x).tbStepNo = s.tbStepNo ∧ (s.setCached k x).snaps = s.snaps ∧ (s.setCached k x).cmps = s.cmps
    ∧ (s.setCached k x).caps = s.caps ∧ (s.setCached k x).bells = s.bells ∧ (s.setCached k x).routes = s.routes
    ∧ (s.setCached k x).fired = s.fired ∧ (s.setCached k x).srcs = s.srcs ∧ (s.setCached k x).pins = s.pins
    ∧ (s.setCached k x).sers = s.sers ∧ (s.setCached k x).qds = s.qds ∧ (s.setCached k x).mxs = s.mxs ∧ (s.setCached k x).mtrs = s.mtrs
    ∧ (s.setCached k x).audio = s.audio ∧ (s.setCached k x).tally = s.tally ∧ (s.setCached k x).sense = s.sense
    ∧ (s.setCached k x).stormLimit = s.stormLimit ∧ (s.setCached k x).clerkRestarts = s.clerkRestarts
    ∧ (s.setCached k x).clerkUp = s.clerkUp ∧ (s.setCached k x).bootTb = s.bootTb ∧ (s.setCached k x).slot = s.slot
    ∧ (s.setCached k x).serviceAsk = s.serviceAsk ∧ (s.setCached k x).unverified = s.unverified ∧ (s.setCached k x).warm = s.warm
    ∧ (s.setCached k x).ran = s.ran ∧ (s.setCached k x).badCores = s.badCores ∧ (s.setCached k x).badHeads = s.badHeads
    ∧ (s.setCached k x).badBanks = s.badBanks ∧ (s.setCached k x).badLanes = s.badLanes ∧ (s.setCached k x).ordered = s.ordered
    ∧ (s.setCached k x).openFills = s.openFills ∧ (s.setCached k x).straps = s.straps ∧ (s.setCached k x).bootLog = s.bootLog
    ∧ (s.setCached k x).settings = s.settings ∧ (s.setCached k x).closing = s.closing ∧ (s.setCached k x).closingNo = s.closingNo
    ∧ (s.setCached k x).closeStep = s.closeStep ∧ (s.setCached k x).dozeAsk = s.dozeAsk ∧ (s.setCached k x).dozeHeads = s.dozeHeads
    ∧ (s.setCached k x).dozePaused = s.dozePaused ∧ (s.setCached k x).wakeAsk = s.wakeAsk ∧ (s.setCached k x).after = s.after
    ∧ (s.setCached k x).testBy = s.testBy ∧ (s.setCached k x).port = s.port ∧ (s.setCached k x).sent = s.sent
    ∧ (s.setCached k x).free = s.free := by
  and_intros <;> rfl

@[simp] theorem State.setCached_tables (s : State) (k : Nat) (x : List (List Byte)) :
    (∀ i, (s.setCached k x).rd i = s.rd i) ∧ (∀ i, (s.setCached k x).byte i = s.byte i) ∧ (∀ i, (s.setCached k x).core i = s.core i)
    ∧ (∀ i, (s.setCached k x).head i = s.head i) ∧ (∀ i, (s.setCached k x).journal i = s.journal i)
    ∧ (∀ i, (s.setCached k x).link i = s.link i) ∧ (∀ i, (s.setCached k x).fn i = s.fn i) ∧ (∀ i, (s.setCached k x).blk i = s.blk i)
    ∧ (∀ i, (s.setCached k x).chan i = s.chan i) ∧ (∀ i, (s.setCached k x).march i = s.march i)
    ∧ (∀ i, (s.setCached k x).cmp i = s.cmp i) ∧ (∀ i, (s.setCached k x).cap i = s.cap i) ∧ (∀ i, (s.setCached k x).bell i = s.bell i)
    ∧ (∀ i, (s.setCached k x).src i = s.src i) ∧ (∀ i, (s.setCached k x).pin i = s.pin i) ∧ (∀ i, (s.setCached k x).ser i = s.ser i)
    ∧ (∀ i, (s.setCached k x).qd i = s.qd i) ∧ (∀ i, (s.setCached k x).mx i = s.mx i) ∧ (∀ i, (s.setCached k x).mtr i = s.mtr i)
    ∧ (∀ i, (s.setCached k x).voice i = s.voice i) ∧ (∀ i, (s.setCached k x).turn i = s.turn i) := by
  and_intros <;> exact fun _ => rfl

@[simp] theorem State.setVoice_fields (s : State) (k : Nat) (x : Voice) :
    (s.setVoice k x).pending = s.pending ∧ (s.setVoice k x).regs = s.regs ∧ (s.setVoice k x).mem = s.mem
    ∧ (s.setVoice k x).marks = s.marks ∧ (s.setVoice k x).flaws = s.flaws ∧ (s.setVoice k x).flash = s.flash
    ∧ (s.setVoice k x).cards = s.cards ∧ (s.setVoice k x).sram = s.sram ∧ (s.setVoice k x).mode = s.mode
    ∧ (s.setVoice k x).plan = s.plan ∧ (s.setVoice k x).staged = s.staged ∧ (s.setVoice k x).links = s.links
    ∧ (s.setVoice k x).fns = s.fns ∧ (s.setVoice k x).perst = s.perst ∧ (s.setVoice k x).armed = s.armed
    ∧ (s.setVoice k x).railsIn = s.railsIn ∧ (s.setVoice k x).wakePin = s.wakePin ∧ (s.setVoice k x).cores = s.cores
    ∧ (s.setVoice k x).heads = s.heads ∧ (s.setVoice k x).journals = s.journals ∧ (s.setVoice k x).jm = s.jm
    ∧ (s.setVoice k x).badEngines = s.badEngines ∧ (s.setVoice k x).badUnits = s.badUnits ∧ (s.setVoice k x).ringCache = s.ringCache
    ∧ (s.setVoice k x).ringNow = s.ringNow ∧ (s.setVoice k x).turns = s.turns ∧ (s.setVoice k x).blks = s.blks
    ∧ (s.setVoice k x).chans = s.chans ∧ (s.setVoice k x).marches = s.marches ∧ (s.setVoice k x).rot = s.rot
    ∧ (s.setVoice k x).scrubPos = s.scrubPos ∧ (s.setVoice k x).watches = s.watches ∧ (s.setVoice k x).retired = s.retired
    ∧ (s.setVoice k x).retiring = s.retiring ∧ (s.setVoice k x).ueSeen = s.ueSeen ∧ (s.setVoice k x).tb = s.tb
    ∧ (s.setVoice k x).tbLf = s.tbLf ∧ (s.setVoice k x).tbStepNo = s.tbStepNo ∧ (s.setVoice k x).snaps = s.snaps
    ∧ (s.setVoice k x).cmps = s.cmps ∧ (s.setVoice k x).caps = s.caps ∧ (s.setVoice k x).bells = s.bells
    ∧ (s.setVoice k x).routes = s.routes ∧ (s.setVoice k x).fired = s.fired ∧ (s.setVoice k x).srcs = s.srcs
    ∧ (s.setVoice k x).pins = s.pins ∧ (s.setVoice k x).sers = s.sers ∧ (s.setVoice k x).qds = s.qds ∧ (s.setVoice k x).mxs = s.mxs
    ∧ (s.setVoice k x).mtrs = s.mtrs ∧ (s.setVoice k x).tally = s.tally ∧ (s.setVoice k x).sense = s.sense
    ∧ (s.setVoice k x).stormLimit = s.stormLimit ∧ (s.setVoice k x).clerkRestarts = s.clerkRestarts
    ∧ (s.setVoice k x).clerkUp = s.clerkUp ∧ (s.setVoice k x).bootTb = s.bootTb ∧ (s.setVoice k x).slot = s.slot
    ∧ (s.setVoice k x).serviceAsk = s.serviceAsk ∧ (s.setVoice k x).unverified = s.unverified ∧ (s.setVoice k x).warm = s.warm
    ∧ (s.setVoice k x).ran = s.ran ∧ (s.setVoice k x).badCores = s.badCores ∧ (s.setVoice k x).badHeads = s.badHeads
    ∧ (s.setVoice k x).badBanks = s.badBanks ∧ (s.setVoice k x).badLanes = s.badLanes ∧ (s.setVoice k x).ordered = s.ordered
    ∧ (s.setVoice k x).openFills = s.openFills ∧ (s.setVoice k x).straps = s.straps ∧ (s.setVoice k x).bootLog = s.bootLog
    ∧ (s.setVoice k x).settings = s.settings ∧ (s.setVoice k x).closing = s.closing ∧ (s.setVoice k x).closingNo = s.closingNo
    ∧ (s.setVoice k x).closeStep = s.closeStep ∧ (s.setVoice k x).dozeAsk = s.dozeAsk ∧ (s.setVoice k x).dozeHeads = s.dozeHeads
    ∧ (s.setVoice k x).dozePaused = s.dozePaused ∧ (s.setVoice k x).wakeAsk = s.wakeAsk ∧ (s.setVoice k x).after = s.after
    ∧ (s.setVoice k x).testBy = s.testBy ∧ (s.setVoice k x).port = s.port ∧ (s.setVoice k x).sent = s.sent
    ∧ (s.setVoice k x).free = s.free := by
  and_intros <;> rfl

@[simp] theorem State.setVoice_tables (s : State) (k : Nat) (x : Voice) :
    (∀ i, (s.setVoice k x).rd i = s.rd i) ∧ (∀ i, (s.setVoice k x).byte i = s.byte i) ∧ (∀ i, (s.setVoice k x).core i = s.core i)
    ∧ (∀ i, (s.setVoice k x).head i = s.head i) ∧ (∀ i, (s.setVoice k x).journal i = s.journal i)
    ∧ (∀ i, (s.setVoice k x).link i = s.link i) ∧ (∀ i, (s.setVoice k x).fn i = s.fn i) ∧ (∀ i, (s.setVoice k x).blk i = s.blk i)
    ∧ (∀ i, (s.setVoice k x).chan i = s.chan i) ∧ (∀ i, (s.setVoice k x).march i = s.march i) ∧ (∀ i, (s.setVoice k x).cmp i = s.cmp i)
    ∧ (∀ i, (s.setVoice k x).cap i = s.cap i) ∧ (∀ i, (s.setVoice k x).bell i = s.bell i) ∧ (∀ i, (s.setVoice k x).src i = s.src i)
    ∧ (∀ i, (s.setVoice k x).pin i = s.pin i) ∧ (∀ i, (s.setVoice k x).ser i = s.ser i) ∧ (∀ i, (s.setVoice k x).qd i = s.qd i)
    ∧ (∀ i, (s.setVoice k x).mx i = s.mx i) ∧ (∀ i, (s.setVoice k x).mtr i = s.mtr i) ∧ (∀ i, (s.setVoice k x).cached i = s.cached i)
    ∧ (∀ i, (s.setVoice k x).turn i = s.turn i) := by
  and_intros <;> exact fun _ => rfl

@[simp] theorem State.setTurn_fields (s : State) (k : Nat) (x : Nat) :
    (s.setTurn k x).pending = s.pending ∧ (s.setTurn k x).regs = s.regs ∧ (s.setTurn k x).mem = s.mem ∧ (s.setTurn k x).marks = s.marks
    ∧ (s.setTurn k x).flaws = s.flaws ∧ (s.setTurn k x).flash = s.flash ∧ (s.setTurn k x).cards = s.cards
    ∧ (s.setTurn k x).sram = s.sram ∧ (s.setTurn k x).mode = s.mode ∧ (s.setTurn k x).plan = s.plan ∧ (s.setTurn k x).staged = s.staged
    ∧ (s.setTurn k x).links = s.links ∧ (s.setTurn k x).fns = s.fns ∧ (s.setTurn k x).perst = s.perst ∧ (s.setTurn k x).armed = s.armed
    ∧ (s.setTurn k x).railsIn = s.railsIn ∧ (s.setTurn k x).wakePin = s.wakePin ∧ (s.setTurn k x).cores = s.cores
    ∧ (s.setTurn k x).heads = s.heads ∧ (s.setTurn k x).journals = s.journals ∧ (s.setTurn k x).jm = s.jm
    ∧ (s.setTurn k x).badEngines = s.badEngines ∧ (s.setTurn k x).badUnits = s.badUnits ∧ (s.setTurn k x).ringCache = s.ringCache
    ∧ (s.setTurn k x).ringNow = s.ringNow ∧ (s.setTurn k x).blks = s.blks ∧ (s.setTurn k x).chans = s.chans
    ∧ (s.setTurn k x).marches = s.marches ∧ (s.setTurn k x).rot = s.rot ∧ (s.setTurn k x).scrubPos = s.scrubPos
    ∧ (s.setTurn k x).watches = s.watches ∧ (s.setTurn k x).retired = s.retired ∧ (s.setTurn k x).retiring = s.retiring
    ∧ (s.setTurn k x).ueSeen = s.ueSeen ∧ (s.setTurn k x).tb = s.tb ∧ (s.setTurn k x).tbLf = s.tbLf
    ∧ (s.setTurn k x).tbStepNo = s.tbStepNo ∧ (s.setTurn k x).snaps = s.snaps ∧ (s.setTurn k x).cmps = s.cmps
    ∧ (s.setTurn k x).caps = s.caps ∧ (s.setTurn k x).bells = s.bells ∧ (s.setTurn k x).routes = s.routes
    ∧ (s.setTurn k x).fired = s.fired ∧ (s.setTurn k x).srcs = s.srcs ∧ (s.setTurn k x).pins = s.pins ∧ (s.setTurn k x).sers = s.sers
    ∧ (s.setTurn k x).qds = s.qds ∧ (s.setTurn k x).mxs = s.mxs ∧ (s.setTurn k x).mtrs = s.mtrs ∧ (s.setTurn k x).audio = s.audio
    ∧ (s.setTurn k x).tally = s.tally ∧ (s.setTurn k x).sense = s.sense ∧ (s.setTurn k x).stormLimit = s.stormLimit
    ∧ (s.setTurn k x).clerkRestarts = s.clerkRestarts ∧ (s.setTurn k x).clerkUp = s.clerkUp ∧ (s.setTurn k x).bootTb = s.bootTb
    ∧ (s.setTurn k x).slot = s.slot ∧ (s.setTurn k x).serviceAsk = s.serviceAsk ∧ (s.setTurn k x).unverified = s.unverified
    ∧ (s.setTurn k x).warm = s.warm ∧ (s.setTurn k x).ran = s.ran ∧ (s.setTurn k x).badCores = s.badCores
    ∧ (s.setTurn k x).badHeads = s.badHeads ∧ (s.setTurn k x).badBanks = s.badBanks ∧ (s.setTurn k x).badLanes = s.badLanes
    ∧ (s.setTurn k x).ordered = s.ordered ∧ (s.setTurn k x).openFills = s.openFills ∧ (s.setTurn k x).straps = s.straps
    ∧ (s.setTurn k x).bootLog = s.bootLog ∧ (s.setTurn k x).settings = s.settings ∧ (s.setTurn k x).closing = s.closing
    ∧ (s.setTurn k x).closingNo = s.closingNo ∧ (s.setTurn k x).closeStep = s.closeStep ∧ (s.setTurn k x).dozeAsk = s.dozeAsk
    ∧ (s.setTurn k x).dozeHeads = s.dozeHeads ∧ (s.setTurn k x).dozePaused = s.dozePaused ∧ (s.setTurn k x).wakeAsk = s.wakeAsk
    ∧ (s.setTurn k x).after = s.after ∧ (s.setTurn k x).testBy = s.testBy ∧ (s.setTurn k x).port = s.port
    ∧ (s.setTurn k x).sent = s.sent ∧ (s.setTurn k x).free = s.free := by
  and_intros <;> rfl

@[simp] theorem State.setTurn_tables (s : State) (k : Nat) (x : Nat) :
    (∀ i, (s.setTurn k x).rd i = s.rd i) ∧ (∀ i, (s.setTurn k x).byte i = s.byte i) ∧ (∀ i, (s.setTurn k x).core i = s.core i)
    ∧ (∀ i, (s.setTurn k x).head i = s.head i) ∧ (∀ i, (s.setTurn k x).journal i = s.journal i)
    ∧ (∀ i, (s.setTurn k x).link i = s.link i) ∧ (∀ i, (s.setTurn k x).fn i = s.fn i) ∧ (∀ i, (s.setTurn k x).blk i = s.blk i)
    ∧ (∀ i, (s.setTurn k x).chan i = s.chan i) ∧ (∀ i, (s.setTurn k x).march i = s.march i) ∧ (∀ i, (s.setTurn k x).cmp i = s.cmp i)
    ∧ (∀ i, (s.setTurn k x).cap i = s.cap i) ∧ (∀ i, (s.setTurn k x).bell i = s.bell i) ∧ (∀ i, (s.setTurn k x).src i = s.src i)
    ∧ (∀ i, (s.setTurn k x).pin i = s.pin i) ∧ (∀ i, (s.setTurn k x).ser i = s.ser i) ∧ (∀ i, (s.setTurn k x).qd i = s.qd i)
    ∧ (∀ i, (s.setTurn k x).mx i = s.mx i) ∧ (∀ i, (s.setTurn k x).mtr i = s.mtr i) ∧ (∀ i, (s.setTurn k x).cached i = s.cached i)
    ∧ (∀ i, (s.setTurn k x).voice i = s.voice i) := by
  and_intros <;> exact fun _ => rfl

@[simp] theorem State.emit_fields (s : State) (x : Sent) :
    (s.emit x).pending = s.pending ∧ (s.emit x).regs = s.regs ∧ (s.emit x).mem = s.mem ∧ (s.emit x).marks = s.marks
    ∧ (s.emit x).flaws = s.flaws ∧ (s.emit x).flash = s.flash ∧ (s.emit x).cards = s.cards ∧ (s.emit x).sram = s.sram
    ∧ (s.emit x).mode = s.mode ∧ (s.emit x).plan = s.plan ∧ (s.emit x).staged = s.staged ∧ (s.emit x).links = s.links
    ∧ (s.emit x).fns = s.fns ∧ (s.emit x).perst = s.perst ∧ (s.emit x).armed = s.armed ∧ (s.emit x).railsIn = s.railsIn
    ∧ (s.emit x).wakePin = s.wakePin ∧ (s.emit x).cores = s.cores ∧ (s.emit x).heads = s.heads ∧ (s.emit x).journals = s.journals
    ∧ (s.emit x).jm = s.jm ∧ (s.emit x).badEngines = s.badEngines ∧ (s.emit x).badUnits = s.badUnits
    ∧ (s.emit x).ringCache = s.ringCache ∧ (s.emit x).ringNow = s.ringNow ∧ (s.emit x).turns = s.turns ∧ (s.emit x).blks = s.blks
    ∧ (s.emit x).chans = s.chans ∧ (s.emit x).marches = s.marches ∧ (s.emit x).rot = s.rot ∧ (s.emit x).scrubPos = s.scrubPos
    ∧ (s.emit x).watches = s.watches ∧ (s.emit x).retired = s.retired ∧ (s.emit x).retiring = s.retiring ∧ (s.emit x).ueSeen = s.ueSeen
    ∧ (s.emit x).tb = s.tb ∧ (s.emit x).tbLf = s.tbLf ∧ (s.emit x).tbStepNo = s.tbStepNo ∧ (s.emit x).snaps = s.snaps
    ∧ (s.emit x).cmps = s.cmps ∧ (s.emit x).caps = s.caps ∧ (s.emit x).bells = s.bells ∧ (s.emit x).routes = s.routes
    ∧ (s.emit x).fired = s.fired ∧ (s.emit x).srcs = s.srcs ∧ (s.emit x).pins = s.pins ∧ (s.emit x).sers = s.sers
    ∧ (s.emit x).qds = s.qds ∧ (s.emit x).mxs = s.mxs ∧ (s.emit x).mtrs = s.mtrs ∧ (s.emit x).audio = s.audio
    ∧ (s.emit x).tally = s.tally ∧ (s.emit x).sense = s.sense ∧ (s.emit x).stormLimit = s.stormLimit
    ∧ (s.emit x).clerkRestarts = s.clerkRestarts ∧ (s.emit x).clerkUp = s.clerkUp ∧ (s.emit x).bootTb = s.bootTb
    ∧ (s.emit x).slot = s.slot ∧ (s.emit x).serviceAsk = s.serviceAsk ∧ (s.emit x).unverified = s.unverified ∧ (s.emit x).warm = s.warm
    ∧ (s.emit x).ran = s.ran ∧ (s.emit x).badCores = s.badCores ∧ (s.emit x).badHeads = s.badHeads ∧ (s.emit x).badBanks = s.badBanks
    ∧ (s.emit x).badLanes = s.badLanes ∧ (s.emit x).ordered = s.ordered ∧ (s.emit x).openFills = s.openFills
    ∧ (s.emit x).straps = s.straps ∧ (s.emit x).bootLog = s.bootLog ∧ (s.emit x).settings = s.settings ∧ (s.emit x).closing = s.closing
    ∧ (s.emit x).closingNo = s.closingNo ∧ (s.emit x).closeStep = s.closeStep ∧ (s.emit x).dozeAsk = s.dozeAsk
    ∧ (s.emit x).dozeHeads = s.dozeHeads ∧ (s.emit x).dozePaused = s.dozePaused ∧ (s.emit x).wakeAsk = s.wakeAsk
    ∧ (s.emit x).after = s.after ∧ (s.emit x).testBy = s.testBy ∧ (s.emit x).port = s.port ∧ (s.emit x).free = s.free := by
  and_intros <;> rfl

@[simp] theorem State.emit_tables (s : State) (x : Sent) :
    (∀ i, (s.emit x).rd i = s.rd i) ∧ (∀ i, (s.emit x).byte i = s.byte i) ∧ (∀ i, (s.emit x).core i = s.core i)
    ∧ (∀ i, (s.emit x).head i = s.head i) ∧ (∀ i, (s.emit x).journal i = s.journal i) ∧ (∀ i, (s.emit x).link i = s.link i)
    ∧ (∀ i, (s.emit x).fn i = s.fn i) ∧ (∀ i, (s.emit x).blk i = s.blk i) ∧ (∀ i, (s.emit x).chan i = s.chan i)
    ∧ (∀ i, (s.emit x).march i = s.march i) ∧ (∀ i, (s.emit x).cmp i = s.cmp i) ∧ (∀ i, (s.emit x).cap i = s.cap i)
    ∧ (∀ i, (s.emit x).bell i = s.bell i) ∧ (∀ i, (s.emit x).src i = s.src i) ∧ (∀ i, (s.emit x).pin i = s.pin i)
    ∧ (∀ i, (s.emit x).ser i = s.ser i) ∧ (∀ i, (s.emit x).qd i = s.qd i) ∧ (∀ i, (s.emit x).mx i = s.mx i)
    ∧ (∀ i, (s.emit x).mtr i = s.mtr i) ∧ (∀ i, (s.emit x).cached i = s.cached i) ∧ (∀ i, (s.emit x).voice i = s.voice i)
    ∧ (∀ i, (s.emit x).turn i = s.turn i) := by
  and_intros <;> exact fun _ => rfl

@[simp] theorem State.report_fields (s : State) (cls source scope syn : Nat) :
    (s.report cls source scope syn).pending = s.pending ∧ (s.report cls source scope syn).regs = s.regs
    ∧ (s.report cls source scope syn).mem = s.mem ∧ (s.report cls source scope syn).marks = s.marks
    ∧ (s.report cls source scope syn).flaws = s.flaws ∧ (s.report cls source scope syn).flash = s.flash
    ∧ (s.report cls source scope syn).cards = s.cards ∧ (s.report cls source scope syn).sram = s.sram
    ∧ (s.report cls source scope syn).mode = s.mode ∧ (s.report cls source scope syn).plan = s.plan
    ∧ (s.report cls source scope syn).staged = s.staged ∧ (s.report cls source scope syn).links = s.links
    ∧ (s.report cls source scope syn).fns = s.fns ∧ (s.report cls source scope syn).perst = s.perst
    ∧ (s.report cls source scope syn).armed = s.armed ∧ (s.report cls source scope syn).railsIn = s.railsIn
    ∧ (s.report cls source scope syn).wakePin = s.wakePin ∧ (s.report cls source scope syn).cores = s.cores
    ∧ (s.report cls source scope syn).heads = s.heads ∧ (s.report cls source scope syn).journals = s.journals
    ∧ (s.report cls source scope syn).jm = s.jm ∧ (s.report cls source scope syn).badEngines = s.badEngines
    ∧ (s.report cls source scope syn).badUnits = s.badUnits ∧ (s.report cls source scope syn).ringCache = s.ringCache
    ∧ (s.report cls source scope syn).ringNow = s.ringNow ∧ (s.report cls source scope syn).turns = s.turns
    ∧ (s.report cls source scope syn).blks = s.blks ∧ (s.report cls source scope syn).chans = s.chans
    ∧ (s.report cls source scope syn).marches = s.marches ∧ (s.report cls source scope syn).rot = s.rot
    ∧ (s.report cls source scope syn).scrubPos = s.scrubPos ∧ (s.report cls source scope syn).watches = s.watches
    ∧ (s.report cls source scope syn).retired = s.retired ∧ (s.report cls source scope syn).retiring = s.retiring
    ∧ (s.report cls source scope syn).ueSeen = s.ueSeen ∧ (s.report cls source scope syn).tb = s.tb
    ∧ (s.report cls source scope syn).tbLf = s.tbLf ∧ (s.report cls source scope syn).tbStepNo = s.tbStepNo
    ∧ (s.report cls source scope syn).snaps = s.snaps ∧ (s.report cls source scope syn).cmps = s.cmps
    ∧ (s.report cls source scope syn).caps = s.caps ∧ (s.report cls source scope syn).bells = s.bells
    ∧ (s.report cls source scope syn).routes = s.routes ∧ (s.report cls source scope syn).fired = s.fired
    ∧ (s.report cls source scope syn).srcs = s.srcs ∧ (s.report cls source scope syn).pins = s.pins
    ∧ (s.report cls source scope syn).sers = s.sers ∧ (s.report cls source scope syn).qds = s.qds
    ∧ (s.report cls source scope syn).mxs = s.mxs ∧ (s.report cls source scope syn).mtrs = s.mtrs
    ∧ (s.report cls source scope syn).audio = s.audio ∧ (s.report cls source scope syn).sense = s.sense
    ∧ (s.report cls source scope syn).stormLimit = s.stormLimit ∧ (s.report cls source scope syn).clerkRestarts = s.clerkRestarts
    ∧ (s.report cls source scope syn).clerkUp = s.clerkUp ∧ (s.report cls source scope syn).bootTb = s.bootTb
    ∧ (s.report cls source scope syn).slot = s.slot ∧ (s.report cls source scope syn).serviceAsk = s.serviceAsk
    ∧ (s.report cls source scope syn).unverified = s.unverified ∧ (s.report cls source scope syn).warm = s.warm
    ∧ (s.report cls source scope syn).ran = s.ran ∧ (s.report cls source scope syn).badCores = s.badCores
    ∧ (s.report cls source scope syn).badHeads = s.badHeads ∧ (s.report cls source scope syn).badBanks = s.badBanks
    ∧ (s.report cls source scope syn).badLanes = s.badLanes ∧ (s.report cls source scope syn).ordered = s.ordered
    ∧ (s.report cls source scope syn).openFills = s.openFills ∧ (s.report cls source scope syn).straps = s.straps
    ∧ (s.report cls source scope syn).bootLog = s.bootLog ∧ (s.report cls source scope syn).settings = s.settings
    ∧ (s.report cls source scope syn).closing = s.closing ∧ (s.report cls source scope syn).closingNo = s.closingNo
    ∧ (s.report cls source scope syn).closeStep = s.closeStep ∧ (s.report cls source scope syn).dozeAsk = s.dozeAsk
    ∧ (s.report cls source scope syn).dozeHeads = s.dozeHeads ∧ (s.report cls source scope syn).dozePaused = s.dozePaused
    ∧ (s.report cls source scope syn).wakeAsk = s.wakeAsk ∧ (s.report cls source scope syn).after = s.after
    ∧ (s.report cls source scope syn).testBy = s.testBy ∧ (s.report cls source scope syn).port = s.port
    ∧ (s.report cls source scope syn).sent = s.sent ∧ (s.report cls source scope syn).free = s.free := by
  and_intros <;> rfl

@[simp] theorem State.report_tables (s : State) (cls source scope syn : Nat) :
    (∀ i, (s.report cls source scope syn).rd i = s.rd i) ∧ (∀ i, (s.report cls source scope syn).byte i = s.byte i)
    ∧ (∀ i, (s.report cls source scope syn).core i = s.core i) ∧ (∀ i, (s.report cls source scope syn).head i = s.head i)
    ∧ (∀ i, (s.report cls source scope syn).journal i = s.journal i) ∧ (∀ i, (s.report cls source scope syn).link i = s.link i)
    ∧ (∀ i, (s.report cls source scope syn).fn i = s.fn i) ∧ (∀ i, (s.report cls source scope syn).blk i = s.blk i)
    ∧ (∀ i, (s.report cls source scope syn).chan i = s.chan i) ∧ (∀ i, (s.report cls source scope syn).march i = s.march i)
    ∧ (∀ i, (s.report cls source scope syn).cmp i = s.cmp i) ∧ (∀ i, (s.report cls source scope syn).cap i = s.cap i)
    ∧ (∀ i, (s.report cls source scope syn).bell i = s.bell i) ∧ (∀ i, (s.report cls source scope syn).src i = s.src i)
    ∧ (∀ i, (s.report cls source scope syn).pin i = s.pin i) ∧ (∀ i, (s.report cls source scope syn).ser i = s.ser i)
    ∧ (∀ i, (s.report cls source scope syn).qd i = s.qd i) ∧ (∀ i, (s.report cls source scope syn).mx i = s.mx i)
    ∧ (∀ i, (s.report cls source scope syn).mtr i = s.mtr i) ∧ (∀ i, (s.report cls source scope syn).cached i = s.cached i)
    ∧ (∀ i, (s.report cls source scope syn).voice i = s.voice i) ∧ (∀ i, (s.report cls source scope syn).turn i = s.turn i) := by
  and_intros <;> exact fun _ => rfl

@[simp] theorem State.poke_fields (s : State) (a : Nat) (bs : List Byte) :
    (s.poke a bs).pending = s.pending ∧ (s.poke a bs).regs = s.regs ∧ (s.poke a bs).flash = s.flash ∧ (s.poke a bs).cards = s.cards
    ∧ (s.poke a bs).sram = s.sram ∧ (s.poke a bs).mode = s.mode ∧ (s.poke a bs).plan = s.plan ∧ (s.poke a bs).staged = s.staged
    ∧ (s.poke a bs).links = s.links ∧ (s.poke a bs).fns = s.fns ∧ (s.poke a bs).perst = s.perst ∧ (s.poke a bs).armed = s.armed
    ∧ (s.poke a bs).railsIn = s.railsIn ∧ (s.poke a bs).wakePin = s.wakePin ∧ (s.poke a bs).cores = s.cores
    ∧ (s.poke a bs).heads = s.heads ∧ (s.poke a bs).journals = s.journals ∧ (s.poke a bs).jm = s.jm
    ∧ (s.poke a bs).badEngines = s.badEngines ∧ (s.poke a bs).badUnits = s.badUnits ∧ (s.poke a bs).ringCache = s.ringCache
    ∧ (s.poke a bs).ringNow = s.ringNow ∧ (s.poke a bs).turns = s.turns ∧ (s.poke a bs).blks = s.blks ∧ (s.poke a bs).chans = s.chans
    ∧ (s.poke a bs).marches = s.marches ∧ (s.poke a bs).rot = s.rot ∧ (s.poke a bs).scrubPos = s.scrubPos
    ∧ (s.poke a bs).watches = s.watches ∧ (s.poke a bs).retired = s.retired ∧ (s.poke a bs).retiring = s.retiring
    ∧ (s.poke a bs).ueSeen = s.ueSeen ∧ (s.poke a bs).tb = s.tb ∧ (s.poke a bs).tbLf = s.tbLf ∧ (s.poke a bs).tbStepNo = s.tbStepNo
    ∧ (s.poke a bs).snaps = s.snaps ∧ (s.poke a bs).cmps = s.cmps ∧ (s.poke a bs).caps = s.caps ∧ (s.poke a bs).bells = s.bells
    ∧ (s.poke a bs).routes = s.routes ∧ (s.poke a bs).fired = s.fired ∧ (s.poke a bs).srcs = s.srcs ∧ (s.poke a bs).pins = s.pins
    ∧ (s.poke a bs).sers = s.sers ∧ (s.poke a bs).qds = s.qds ∧ (s.poke a bs).mxs = s.mxs ∧ (s.poke a bs).mtrs = s.mtrs
    ∧ (s.poke a bs).audio = s.audio ∧ (s.poke a bs).tally = s.tally ∧ (s.poke a bs).sense = s.sense
    ∧ (s.poke a bs).stormLimit = s.stormLimit ∧ (s.poke a bs).clerkRestarts = s.clerkRestarts ∧ (s.poke a bs).clerkUp = s.clerkUp
    ∧ (s.poke a bs).bootTb = s.bootTb ∧ (s.poke a bs).slot = s.slot ∧ (s.poke a bs).serviceAsk = s.serviceAsk
    ∧ (s.poke a bs).unverified = s.unverified ∧ (s.poke a bs).warm = s.warm ∧ (s.poke a bs).ran = s.ran
    ∧ (s.poke a bs).badCores = s.badCores ∧ (s.poke a bs).badHeads = s.badHeads ∧ (s.poke a bs).badBanks = s.badBanks
    ∧ (s.poke a bs).badLanes = s.badLanes ∧ (s.poke a bs).ordered = s.ordered ∧ (s.poke a bs).openFills = s.openFills
    ∧ (s.poke a bs).straps = s.straps ∧ (s.poke a bs).bootLog = s.bootLog ∧ (s.poke a bs).settings = s.settings
    ∧ (s.poke a bs).closing = s.closing ∧ (s.poke a bs).closingNo = s.closingNo ∧ (s.poke a bs).closeStep = s.closeStep
    ∧ (s.poke a bs).dozeAsk = s.dozeAsk ∧ (s.poke a bs).dozeHeads = s.dozeHeads ∧ (s.poke a bs).dozePaused = s.dozePaused
    ∧ (s.poke a bs).wakeAsk = s.wakeAsk ∧ (s.poke a bs).after = s.after ∧ (s.poke a bs).testBy = s.testBy ∧ (s.poke a bs).port = s.port
    ∧ (s.poke a bs).sent = s.sent ∧ (s.poke a bs).free = s.free := by
  and_intros <;> rfl

@[simp] theorem State.poke_tables (s : State) (a : Nat) (bs : List Byte) :
    (∀ i, (s.poke a bs).rd i = s.rd i) ∧ (∀ i, (s.poke a bs).core i = s.core i) ∧ (∀ i, (s.poke a bs).head i = s.head i)
    ∧ (∀ i, (s.poke a bs).journal i = s.journal i) ∧ (∀ i, (s.poke a bs).link i = s.link i) ∧ (∀ i, (s.poke a bs).fn i = s.fn i)
    ∧ (∀ i, (s.poke a bs).blk i = s.blk i) ∧ (∀ i, (s.poke a bs).chan i = s.chan i) ∧ (∀ i, (s.poke a bs).march i = s.march i)
    ∧ (∀ i, (s.poke a bs).cmp i = s.cmp i) ∧ (∀ i, (s.poke a bs).cap i = s.cap i) ∧ (∀ i, (s.poke a bs).bell i = s.bell i)
    ∧ (∀ i, (s.poke a bs).src i = s.src i) ∧ (∀ i, (s.poke a bs).pin i = s.pin i) ∧ (∀ i, (s.poke a bs).ser i = s.ser i)
    ∧ (∀ i, (s.poke a bs).qd i = s.qd i) ∧ (∀ i, (s.poke a bs).mx i = s.mx i) ∧ (∀ i, (s.poke a bs).mtr i = s.mtr i)
    ∧ (∀ i, (s.poke a bs).cached i = s.cached i) ∧ (∀ i, (s.poke a bs).voice i = s.voice i) ∧ (∀ i, (s.poke a bs).turn i = s.turn i) := by
  and_intros <;> exact fun _ => rfl

@[simp] theorem State.zeroFill_fields (s : State) (a n : Nat) :
    (s.zeroFill a n).pending = s.pending ∧ (s.zeroFill a n).regs = s.regs ∧ (s.zeroFill a n).flash = s.flash
    ∧ (s.zeroFill a n).cards = s.cards ∧ (s.zeroFill a n).sram = s.sram ∧ (s.zeroFill a n).mode = s.mode
    ∧ (s.zeroFill a n).plan = s.plan ∧ (s.zeroFill a n).staged = s.staged ∧ (s.zeroFill a n).links = s.links
    ∧ (s.zeroFill a n).fns = s.fns ∧ (s.zeroFill a n).perst = s.perst ∧ (s.zeroFill a n).armed = s.armed
    ∧ (s.zeroFill a n).railsIn = s.railsIn ∧ (s.zeroFill a n).wakePin = s.wakePin ∧ (s.zeroFill a n).cores = s.cores
    ∧ (s.zeroFill a n).heads = s.heads ∧ (s.zeroFill a n).journals = s.journals ∧ (s.zeroFill a n).jm = s.jm
    ∧ (s.zeroFill a n).badEngines = s.badEngines ∧ (s.zeroFill a n).badUnits = s.badUnits ∧ (s.zeroFill a n).ringCache = s.ringCache
    ∧ (s.zeroFill a n).ringNow = s.ringNow ∧ (s.zeroFill a n).turns = s.turns ∧ (s.zeroFill a n).blks = s.blks
    ∧ (s.zeroFill a n).chans = s.chans ∧ (s.zeroFill a n).marches = s.marches ∧ (s.zeroFill a n).rot = s.rot
    ∧ (s.zeroFill a n).scrubPos = s.scrubPos ∧ (s.zeroFill a n).watches = s.watches ∧ (s.zeroFill a n).retired = s.retired
    ∧ (s.zeroFill a n).retiring = s.retiring ∧ (s.zeroFill a n).ueSeen = s.ueSeen ∧ (s.zeroFill a n).tb = s.tb
    ∧ (s.zeroFill a n).tbLf = s.tbLf ∧ (s.zeroFill a n).tbStepNo = s.tbStepNo ∧ (s.zeroFill a n).snaps = s.snaps
    ∧ (s.zeroFill a n).cmps = s.cmps ∧ (s.zeroFill a n).caps = s.caps ∧ (s.zeroFill a n).bells = s.bells
    ∧ (s.zeroFill a n).routes = s.routes ∧ (s.zeroFill a n).fired = s.fired ∧ (s.zeroFill a n).srcs = s.srcs
    ∧ (s.zeroFill a n).pins = s.pins ∧ (s.zeroFill a n).sers = s.sers ∧ (s.zeroFill a n).qds = s.qds ∧ (s.zeroFill a n).mxs = s.mxs
    ∧ (s.zeroFill a n).mtrs = s.mtrs ∧ (s.zeroFill a n).audio = s.audio ∧ (s.zeroFill a n).tally = s.tally
    ∧ (s.zeroFill a n).sense = s.sense ∧ (s.zeroFill a n).stormLimit = s.stormLimit ∧ (s.zeroFill a n).clerkRestarts = s.clerkRestarts
    ∧ (s.zeroFill a n).clerkUp = s.clerkUp ∧ (s.zeroFill a n).bootTb = s.bootTb ∧ (s.zeroFill a n).slot = s.slot
    ∧ (s.zeroFill a n).serviceAsk = s.serviceAsk ∧ (s.zeroFill a n).unverified = s.unverified ∧ (s.zeroFill a n).warm = s.warm
    ∧ (s.zeroFill a n).ran = s.ran ∧ (s.zeroFill a n).badCores = s.badCores ∧ (s.zeroFill a n).badHeads = s.badHeads
    ∧ (s.zeroFill a n).badBanks = s.badBanks ∧ (s.zeroFill a n).badLanes = s.badLanes ∧ (s.zeroFill a n).ordered = s.ordered
    ∧ (s.zeroFill a n).openFills = s.openFills ∧ (s.zeroFill a n).straps = s.straps ∧ (s.zeroFill a n).bootLog = s.bootLog
    ∧ (s.zeroFill a n).settings = s.settings ∧ (s.zeroFill a n).closing = s.closing ∧ (s.zeroFill a n).closingNo = s.closingNo
    ∧ (s.zeroFill a n).closeStep = s.closeStep ∧ (s.zeroFill a n).dozeAsk = s.dozeAsk ∧ (s.zeroFill a n).dozeHeads = s.dozeHeads
    ∧ (s.zeroFill a n).dozePaused = s.dozePaused ∧ (s.zeroFill a n).wakeAsk = s.wakeAsk ∧ (s.zeroFill a n).after = s.after
    ∧ (s.zeroFill a n).testBy = s.testBy ∧ (s.zeroFill a n).port = s.port ∧ (s.zeroFill a n).sent = s.sent
    ∧ (s.zeroFill a n).free = s.free := by
  and_intros <;> rfl

@[simp] theorem State.zeroFill_tables (s : State) (a n : Nat) :
    (∀ i, (s.zeroFill a n).rd i = s.rd i) ∧ (∀ i, (s.zeroFill a n).core i = s.core i) ∧ (∀ i, (s.zeroFill a n).head i = s.head i)
    ∧ (∀ i, (s.zeroFill a n).journal i = s.journal i) ∧ (∀ i, (s.zeroFill a n).link i = s.link i)
    ∧ (∀ i, (s.zeroFill a n).fn i = s.fn i) ∧ (∀ i, (s.zeroFill a n).blk i = s.blk i) ∧ (∀ i, (s.zeroFill a n).chan i = s.chan i)
    ∧ (∀ i, (s.zeroFill a n).march i = s.march i) ∧ (∀ i, (s.zeroFill a n).cmp i = s.cmp i) ∧ (∀ i, (s.zeroFill a n).cap i = s.cap i)
    ∧ (∀ i, (s.zeroFill a n).bell i = s.bell i) ∧ (∀ i, (s.zeroFill a n).src i = s.src i) ∧ (∀ i, (s.zeroFill a n).pin i = s.pin i)
    ∧ (∀ i, (s.zeroFill a n).ser i = s.ser i) ∧ (∀ i, (s.zeroFill a n).qd i = s.qd i) ∧ (∀ i, (s.zeroFill a n).mx i = s.mx i)
    ∧ (∀ i, (s.zeroFill a n).mtr i = s.mtr i) ∧ (∀ i, (s.zeroFill a n).cached i = s.cached i)
    ∧ (∀ i, (s.zeroFill a n).voice i = s.voice i) ∧ (∀ i, (s.zeroFill a n).turn i = s.turn i) := by
  and_intros <;> exact fun _ => rfl

@[simp] theorem State.mark_fields (s : State) (a : Nat) :
    (s.mark a).pending = s.pending ∧ (s.mark a).regs = s.regs ∧ (s.mark a).mem = s.mem ∧ (s.mark a).flaws = s.flaws
    ∧ (s.mark a).flash = s.flash ∧ (s.mark a).cards = s.cards ∧ (s.mark a).sram = s.sram ∧ (s.mark a).mode = s.mode
    ∧ (s.mark a).plan = s.plan ∧ (s.mark a).staged = s.staged ∧ (s.mark a).links = s.links ∧ (s.mark a).fns = s.fns
    ∧ (s.mark a).perst = s.perst ∧ (s.mark a).armed = s.armed ∧ (s.mark a).railsIn = s.railsIn ∧ (s.mark a).wakePin = s.wakePin
    ∧ (s.mark a).cores = s.cores ∧ (s.mark a).heads = s.heads ∧ (s.mark a).journals = s.journals ∧ (s.mark a).jm = s.jm
    ∧ (s.mark a).badEngines = s.badEngines ∧ (s.mark a).badUnits = s.badUnits ∧ (s.mark a).ringCache = s.ringCache
    ∧ (s.mark a).ringNow = s.ringNow ∧ (s.mark a).turns = s.turns ∧ (s.mark a).blks = s.blks ∧ (s.mark a).chans = s.chans
    ∧ (s.mark a).marches = s.marches ∧ (s.mark a).rot = s.rot ∧ (s.mark a).scrubPos = s.scrubPos ∧ (s.mark a).watches = s.watches
    ∧ (s.mark a).retired = s.retired ∧ (s.mark a).retiring = s.retiring ∧ (s.mark a).ueSeen = s.ueSeen ∧ (s.mark a).tb = s.tb
    ∧ (s.mark a).tbLf = s.tbLf ∧ (s.mark a).tbStepNo = s.tbStepNo ∧ (s.mark a).snaps = s.snaps ∧ (s.mark a).cmps = s.cmps
    ∧ (s.mark a).caps = s.caps ∧ (s.mark a).bells = s.bells ∧ (s.mark a).routes = s.routes ∧ (s.mark a).fired = s.fired
    ∧ (s.mark a).srcs = s.srcs ∧ (s.mark a).pins = s.pins ∧ (s.mark a).sers = s.sers ∧ (s.mark a).qds = s.qds ∧ (s.mark a).mxs = s.mxs
    ∧ (s.mark a).mtrs = s.mtrs ∧ (s.mark a).audio = s.audio ∧ (s.mark a).tally = s.tally ∧ (s.mark a).sense = s.sense
    ∧ (s.mark a).stormLimit = s.stormLimit ∧ (s.mark a).clerkRestarts = s.clerkRestarts ∧ (s.mark a).clerkUp = s.clerkUp
    ∧ (s.mark a).bootTb = s.bootTb ∧ (s.mark a).slot = s.slot ∧ (s.mark a).serviceAsk = s.serviceAsk
    ∧ (s.mark a).unverified = s.unverified ∧ (s.mark a).warm = s.warm ∧ (s.mark a).ran = s.ran ∧ (s.mark a).badCores = s.badCores
    ∧ (s.mark a).badHeads = s.badHeads ∧ (s.mark a).badBanks = s.badBanks ∧ (s.mark a).badLanes = s.badLanes
    ∧ (s.mark a).ordered = s.ordered ∧ (s.mark a).openFills = s.openFills ∧ (s.mark a).straps = s.straps
    ∧ (s.mark a).bootLog = s.bootLog ∧ (s.mark a).settings = s.settings ∧ (s.mark a).closing = s.closing
    ∧ (s.mark a).closingNo = s.closingNo ∧ (s.mark a).closeStep = s.closeStep ∧ (s.mark a).dozeAsk = s.dozeAsk
    ∧ (s.mark a).dozeHeads = s.dozeHeads ∧ (s.mark a).dozePaused = s.dozePaused ∧ (s.mark a).wakeAsk = s.wakeAsk
    ∧ (s.mark a).after = s.after ∧ (s.mark a).testBy = s.testBy ∧ (s.mark a).port = s.port ∧ (s.mark a).sent = s.sent
    ∧ (s.mark a).free = s.free := by
  and_intros <;> rfl

@[simp] theorem State.mark_tables (s : State) (a : Nat) :
    (∀ i, (s.mark a).rd i = s.rd i) ∧ (∀ i, (s.mark a).byte i = s.byte i) ∧ (∀ i, (s.mark a).core i = s.core i)
    ∧ (∀ i, (s.mark a).head i = s.head i) ∧ (∀ i, (s.mark a).journal i = s.journal i) ∧ (∀ i, (s.mark a).link i = s.link i)
    ∧ (∀ i, (s.mark a).fn i = s.fn i) ∧ (∀ i, (s.mark a).blk i = s.blk i) ∧ (∀ i, (s.mark a).chan i = s.chan i)
    ∧ (∀ i, (s.mark a).march i = s.march i) ∧ (∀ i, (s.mark a).cmp i = s.cmp i) ∧ (∀ i, (s.mark a).cap i = s.cap i)
    ∧ (∀ i, (s.mark a).bell i = s.bell i) ∧ (∀ i, (s.mark a).src i = s.src i) ∧ (∀ i, (s.mark a).pin i = s.pin i)
    ∧ (∀ i, (s.mark a).ser i = s.ser i) ∧ (∀ i, (s.mark a).qd i = s.qd i) ∧ (∀ i, (s.mark a).mx i = s.mx i)
    ∧ (∀ i, (s.mark a).mtr i = s.mtr i) ∧ (∀ i, (s.mark a).cached i = s.cached i) ∧ (∀ i, (s.mark a).voice i = s.voice i)
    ∧ (∀ i, (s.mark a).turn i = s.turn i) := by
  and_intros <;> exact fun _ => rfl

@[simp] theorem State.hole_fields (s : State) (b : Nat) :
    (s.hole b).pending = s.pending ∧ (s.hole b).mem = s.mem ∧ (s.hole b).marks = s.marks ∧ (s.hole b).flaws = s.flaws
    ∧ (s.hole b).flash = s.flash ∧ (s.hole b).cards = s.cards ∧ (s.hole b).sram = s.sram ∧ (s.hole b).mode = s.mode
    ∧ (s.hole b).plan = s.plan ∧ (s.hole b).staged = s.staged ∧ (s.hole b).links = s.links ∧ (s.hole b).fns = s.fns
    ∧ (s.hole b).perst = s.perst ∧ (s.hole b).armed = s.armed ∧ (s.hole b).railsIn = s.railsIn ∧ (s.hole b).wakePin = s.wakePin
    ∧ (s.hole b).cores = s.cores ∧ (s.hole b).heads = s.heads ∧ (s.hole b).journals = s.journals ∧ (s.hole b).jm = s.jm
    ∧ (s.hole b).badEngines = s.badEngines ∧ (s.hole b).badUnits = s.badUnits ∧ (s.hole b).ringCache = s.ringCache
    ∧ (s.hole b).ringNow = s.ringNow ∧ (s.hole b).turns = s.turns ∧ (s.hole b).blks = s.blks ∧ (s.hole b).chans = s.chans
    ∧ (s.hole b).marches = s.marches ∧ (s.hole b).rot = s.rot ∧ (s.hole b).scrubPos = s.scrubPos ∧ (s.hole b).watches = s.watches
    ∧ (s.hole b).retired = s.retired ∧ (s.hole b).retiring = s.retiring ∧ (s.hole b).ueSeen = s.ueSeen ∧ (s.hole b).tb = s.tb
    ∧ (s.hole b).tbLf = s.tbLf ∧ (s.hole b).tbStepNo = s.tbStepNo ∧ (s.hole b).snaps = s.snaps ∧ (s.hole b).cmps = s.cmps
    ∧ (s.hole b).caps = s.caps ∧ (s.hole b).bells = s.bells ∧ (s.hole b).routes = s.routes ∧ (s.hole b).fired = s.fired
    ∧ (s.hole b).srcs = s.srcs ∧ (s.hole b).pins = s.pins ∧ (s.hole b).sers = s.sers ∧ (s.hole b).qds = s.qds ∧ (s.hole b).mxs = s.mxs
    ∧ (s.hole b).mtrs = s.mtrs ∧ (s.hole b).audio = s.audio ∧ (s.hole b).tally = s.tally ∧ (s.hole b).sense = s.sense
    ∧ (s.hole b).stormLimit = s.stormLimit ∧ (s.hole b).clerkRestarts = s.clerkRestarts ∧ (s.hole b).clerkUp = s.clerkUp
    ∧ (s.hole b).bootTb = s.bootTb ∧ (s.hole b).slot = s.slot ∧ (s.hole b).serviceAsk = s.serviceAsk
    ∧ (s.hole b).unverified = s.unverified ∧ (s.hole b).warm = s.warm ∧ (s.hole b).ran = s.ran ∧ (s.hole b).badCores = s.badCores
    ∧ (s.hole b).badHeads = s.badHeads ∧ (s.hole b).badBanks = s.badBanks ∧ (s.hole b).badLanes = s.badLanes
    ∧ (s.hole b).ordered = s.ordered ∧ (s.hole b).openFills = s.openFills ∧ (s.hole b).straps = s.straps
    ∧ (s.hole b).bootLog = s.bootLog ∧ (s.hole b).settings = s.settings ∧ (s.hole b).closing = s.closing
    ∧ (s.hole b).closingNo = s.closingNo ∧ (s.hole b).closeStep = s.closeStep ∧ (s.hole b).dozeAsk = s.dozeAsk
    ∧ (s.hole b).dozeHeads = s.dozeHeads ∧ (s.hole b).dozePaused = s.dozePaused ∧ (s.hole b).wakeAsk = s.wakeAsk
    ∧ (s.hole b).after = s.after ∧ (s.hole b).testBy = s.testBy ∧ (s.hole b).port = s.port ∧ (s.hole b).sent = s.sent
    ∧ (s.hole b).free = s.free := s.incSat_fields (kBench b 0x20) 31 0

@[simp] theorem State.hole_tables (s : State) (b : Nat) :
    (∀ i, (s.hole b).byte i = s.byte i) ∧ (∀ i, (s.hole b).core i = s.core i) ∧ (∀ i, (s.hole b).head i = s.head i)
    ∧ (∀ i, (s.hole b).journal i = s.journal i) ∧ (∀ i, (s.hole b).link i = s.link i) ∧ (∀ i, (s.hole b).fn i = s.fn i)
    ∧ (∀ i, (s.hole b).blk i = s.blk i) ∧ (∀ i, (s.hole b).chan i = s.chan i) ∧ (∀ i, (s.hole b).march i = s.march i)
    ∧ (∀ i, (s.hole b).cmp i = s.cmp i) ∧ (∀ i, (s.hole b).cap i = s.cap i) ∧ (∀ i, (s.hole b).bell i = s.bell i)
    ∧ (∀ i, (s.hole b).src i = s.src i) ∧ (∀ i, (s.hole b).pin i = s.pin i) ∧ (∀ i, (s.hole b).ser i = s.ser i)
    ∧ (∀ i, (s.hole b).qd i = s.qd i) ∧ (∀ i, (s.hole b).mx i = s.mx i) ∧ (∀ i, (s.hole b).mtr i = s.mtr i)
    ∧ (∀ i, (s.hole b).cached i = s.cached i) ∧ (∀ i, (s.hole b).voice i = s.voice i) ∧ (∀ i, (s.hole b).turn i = s.turn i) := s.incSat_tables (kBench b 0x20) 31 0

@[simp] theorem State.ignoredStart_fields (s : State) (b : Nat) :
    (s.ignoredStart b).pending = s.pending ∧ (s.ignoredStart b).mem = s.mem ∧ (s.ignoredStart b).marks = s.marks
    ∧ (s.ignoredStart b).flaws = s.flaws ∧ (s.ignoredStart b).flash = s.flash ∧ (s.ignoredStart b).cards = s.cards
    ∧ (s.ignoredStart b).sram = s.sram ∧ (s.ignoredStart b).mode = s.mode ∧ (s.ignoredStart b).plan = s.plan
    ∧ (s.ignoredStart b).staged = s.staged ∧ (s.ignoredStart b).links = s.links ∧ (s.ignoredStart b).fns = s.fns
    ∧ (s.ignoredStart b).perst = s.perst ∧ (s.ignoredStart b).armed = s.armed ∧ (s.ignoredStart b).railsIn = s.railsIn
    ∧ (s.ignoredStart b).wakePin = s.wakePin ∧ (s.ignoredStart b).cores = s.cores ∧ (s.ignoredStart b).heads = s.heads
    ∧ (s.ignoredStart b).journals = s.journals ∧ (s.ignoredStart b).jm = s.jm ∧ (s.ignoredStart b).badEngines = s.badEngines
    ∧ (s.ignoredStart b).badUnits = s.badUnits ∧ (s.ignoredStart b).ringCache = s.ringCache ∧ (s.ignoredStart b).ringNow = s.ringNow
    ∧ (s.ignoredStart b).turns = s.turns ∧ (s.ignoredStart b).blks = s.blks ∧ (s.ignoredStart b).chans = s.chans
    ∧ (s.ignoredStart b).marches = s.marches ∧ (s.ignoredStart b).rot = s.rot ∧ (s.ignoredStart b).scrubPos = s.scrubPos
    ∧ (s.ignoredStart b).watches = s.watches ∧ (s.ignoredStart b).retired = s.retired ∧ (s.ignoredStart b).retiring = s.retiring
    ∧ (s.ignoredStart b).ueSeen = s.ueSeen ∧ (s.ignoredStart b).tb = s.tb ∧ (s.ignoredStart b).tbLf = s.tbLf
    ∧ (s.ignoredStart b).tbStepNo = s.tbStepNo ∧ (s.ignoredStart b).snaps = s.snaps ∧ (s.ignoredStart b).cmps = s.cmps
    ∧ (s.ignoredStart b).caps = s.caps ∧ (s.ignoredStart b).bells = s.bells ∧ (s.ignoredStart b).routes = s.routes
    ∧ (s.ignoredStart b).fired = s.fired ∧ (s.ignoredStart b).srcs = s.srcs ∧ (s.ignoredStart b).pins = s.pins
    ∧ (s.ignoredStart b).sers = s.sers ∧ (s.ignoredStart b).qds = s.qds ∧ (s.ignoredStart b).mxs = s.mxs
    ∧ (s.ignoredStart b).mtrs = s.mtrs ∧ (s.ignoredStart b).audio = s.audio ∧ (s.ignoredStart b).tally = s.tally
    ∧ (s.ignoredStart b).sense = s.sense ∧ (s.ignoredStart b).stormLimit = s.stormLimit
    ∧ (s.ignoredStart b).clerkRestarts = s.clerkRestarts ∧ (s.ignoredStart b).clerkUp = s.clerkUp
    ∧ (s.ignoredStart b).bootTb = s.bootTb ∧ (s.ignoredStart b).slot = s.slot ∧ (s.ignoredStart b).serviceAsk = s.serviceAsk
    ∧ (s.ignoredStart b).unverified = s.unverified ∧ (s.ignoredStart b).warm = s.warm ∧ (s.ignoredStart b).ran = s.ran
    ∧ (s.ignoredStart b).badCores = s.badCores ∧ (s.ignoredStart b).badHeads = s.badHeads ∧ (s.ignoredStart b).badBanks = s.badBanks
    ∧ (s.ignoredStart b).badLanes = s.badLanes ∧ (s.ignoredStart b).ordered = s.ordered ∧ (s.ignoredStart b).openFills = s.openFills
    ∧ (s.ignoredStart b).straps = s.straps ∧ (s.ignoredStart b).bootLog = s.bootLog ∧ (s.ignoredStart b).settings = s.settings
    ∧ (s.ignoredStart b).closing = s.closing ∧ (s.ignoredStart b).closingNo = s.closingNo ∧ (s.ignoredStart b).closeStep = s.closeStep
    ∧ (s.ignoredStart b).dozeAsk = s.dozeAsk ∧ (s.ignoredStart b).dozeHeads = s.dozeHeads
    ∧ (s.ignoredStart b).dozePaused = s.dozePaused ∧ (s.ignoredStart b).wakeAsk = s.wakeAsk ∧ (s.ignoredStart b).after = s.after
    ∧ (s.ignoredStart b).testBy = s.testBy ∧ (s.ignoredStart b).port = s.port ∧ (s.ignoredStart b).sent = s.sent
    ∧ (s.ignoredStart b).free = s.free := s.incSat_fields (kStop b 0x24) 31 0

@[simp] theorem State.ignoredStart_tables (s : State) (b : Nat) :
    (∀ i, (s.ignoredStart b).byte i = s.byte i) ∧ (∀ i, (s.ignoredStart b).core i = s.core i)
    ∧ (∀ i, (s.ignoredStart b).head i = s.head i) ∧ (∀ i, (s.ignoredStart b).journal i = s.journal i)
    ∧ (∀ i, (s.ignoredStart b).link i = s.link i) ∧ (∀ i, (s.ignoredStart b).fn i = s.fn i) ∧ (∀ i, (s.ignoredStart b).blk i = s.blk i)
    ∧ (∀ i, (s.ignoredStart b).chan i = s.chan i) ∧ (∀ i, (s.ignoredStart b).march i = s.march i)
    ∧ (∀ i, (s.ignoredStart b).cmp i = s.cmp i) ∧ (∀ i, (s.ignoredStart b).cap i = s.cap i)
    ∧ (∀ i, (s.ignoredStart b).bell i = s.bell i) ∧ (∀ i, (s.ignoredStart b).src i = s.src i)
    ∧ (∀ i, (s.ignoredStart b).pin i = s.pin i) ∧ (∀ i, (s.ignoredStart b).ser i = s.ser i) ∧ (∀ i, (s.ignoredStart b).qd i = s.qd i)
    ∧ (∀ i, (s.ignoredStart b).mx i = s.mx i) ∧ (∀ i, (s.ignoredStart b).mtr i = s.mtr i)
    ∧ (∀ i, (s.ignoredStart b).cached i = s.cached i) ∧ (∀ i, (s.ignoredStart b).voice i = s.voice i)
    ∧ (∀ i, (s.ignoredStart b).turn i = s.turn i) := s.incSat_tables (kStop b 0x24) 31 0

@[simp] theorem State.ringLost_fields (s : State) (g : Nat) :
    (s.ringLost g).pending = s.pending ∧ (s.ringLost g).mem = s.mem ∧ (s.ringLost g).marks = s.marks ∧ (s.ringLost g).flaws = s.flaws
    ∧ (s.ringLost g).flash = s.flash ∧ (s.ringLost g).cards = s.cards ∧ (s.ringLost g).sram = s.sram ∧ (s.ringLost g).mode = s.mode
    ∧ (s.ringLost g).plan = s.plan ∧ (s.ringLost g).staged = s.staged ∧ (s.ringLost g).links = s.links ∧ (s.ringLost g).fns = s.fns
    ∧ (s.ringLost g).perst = s.perst ∧ (s.ringLost g).armed = s.armed ∧ (s.ringLost g).railsIn = s.railsIn
    ∧ (s.ringLost g).wakePin = s.wakePin ∧ (s.ringLost g).cores = s.cores ∧ (s.ringLost g).heads = s.heads
    ∧ (s.ringLost g).journals = s.journals ∧ (s.ringLost g).jm = s.jm ∧ (s.ringLost g).badEngines = s.badEngines
    ∧ (s.ringLost g).badUnits = s.badUnits ∧ (s.ringLost g).ringCache = s.ringCache ∧ (s.ringLost g).ringNow = s.ringNow
    ∧ (s.ringLost g).turns = s.turns ∧ (s.ringLost g).blks = s.blks ∧ (s.ringLost g).chans = s.chans
    ∧ (s.ringLost g).marches = s.marches ∧ (s.ringLost g).rot = s.rot ∧ (s.ringLost g).scrubPos = s.scrubPos
    ∧ (s.ringLost g).watches = s.watches ∧ (s.ringLost g).retired = s.retired ∧ (s.ringLost g).retiring = s.retiring
    ∧ (s.ringLost g).ueSeen = s.ueSeen ∧ (s.ringLost g).tb = s.tb ∧ (s.ringLost g).tbLf = s.tbLf ∧ (s.ringLost g).tbStepNo = s.tbStepNo
    ∧ (s.ringLost g).snaps = s.snaps ∧ (s.ringLost g).cmps = s.cmps ∧ (s.ringLost g).caps = s.caps ∧ (s.ringLost g).bells = s.bells
    ∧ (s.ringLost g).routes = s.routes ∧ (s.ringLost g).fired = s.fired ∧ (s.ringLost g).srcs = s.srcs ∧ (s.ringLost g).pins = s.pins
    ∧ (s.ringLost g).sers = s.sers ∧ (s.ringLost g).qds = s.qds ∧ (s.ringLost g).mxs = s.mxs ∧ (s.ringLost g).mtrs = s.mtrs
    ∧ (s.ringLost g).audio = s.audio ∧ (s.ringLost g).tally = s.tally ∧ (s.ringLost g).sense = s.sense
    ∧ (s.ringLost g).stormLimit = s.stormLimit ∧ (s.ringLost g).clerkRestarts = s.clerkRestarts ∧ (s.ringLost g).clerkUp = s.clerkUp
    ∧ (s.ringLost g).bootTb = s.bootTb ∧ (s.ringLost g).slot = s.slot ∧ (s.ringLost g).serviceAsk = s.serviceAsk
    ∧ (s.ringLost g).unverified = s.unverified ∧ (s.ringLost g).warm = s.warm ∧ (s.ringLost g).ran = s.ran
    ∧ (s.ringLost g).badCores = s.badCores ∧ (s.ringLost g).badHeads = s.badHeads ∧ (s.ringLost g).badBanks = s.badBanks
    ∧ (s.ringLost g).badLanes = s.badLanes ∧ (s.ringLost g).ordered = s.ordered ∧ (s.ringLost g).openFills = s.openFills
    ∧ (s.ringLost g).straps = s.straps ∧ (s.ringLost g).bootLog = s.bootLog ∧ (s.ringLost g).settings = s.settings
    ∧ (s.ringLost g).closing = s.closing ∧ (s.ringLost g).closingNo = s.closingNo ∧ (s.ringLost g).closeStep = s.closeStep
    ∧ (s.ringLost g).dozeAsk = s.dozeAsk ∧ (s.ringLost g).dozeHeads = s.dozeHeads ∧ (s.ringLost g).dozePaused = s.dozePaused
    ∧ (s.ringLost g).wakeAsk = s.wakeAsk ∧ (s.ringLost g).after = s.after ∧ (s.ringLost g).testBy = s.testBy
    ∧ (s.ringLost g).port = s.port ∧ (s.ringLost g).sent = s.sent ∧ (s.ringLost g).free = s.free := s.incSat_fields (kRing g 0x14) 15 0

@[simp] theorem State.ringLost_tables (s : State) (g : Nat) :
    (∀ i, (s.ringLost g).byte i = s.byte i) ∧ (∀ i, (s.ringLost g).core i = s.core i) ∧ (∀ i, (s.ringLost g).head i = s.head i)
    ∧ (∀ i, (s.ringLost g).journal i = s.journal i) ∧ (∀ i, (s.ringLost g).link i = s.link i) ∧ (∀ i, (s.ringLost g).fn i = s.fn i)
    ∧ (∀ i, (s.ringLost g).blk i = s.blk i) ∧ (∀ i, (s.ringLost g).chan i = s.chan i) ∧ (∀ i, (s.ringLost g).march i = s.march i)
    ∧ (∀ i, (s.ringLost g).cmp i = s.cmp i) ∧ (∀ i, (s.ringLost g).cap i = s.cap i) ∧ (∀ i, (s.ringLost g).bell i = s.bell i)
    ∧ (∀ i, (s.ringLost g).src i = s.src i) ∧ (∀ i, (s.ringLost g).pin i = s.pin i) ∧ (∀ i, (s.ringLost g).ser i = s.ser i)
    ∧ (∀ i, (s.ringLost g).qd i = s.qd i) ∧ (∀ i, (s.ringLost g).mx i = s.mx i) ∧ (∀ i, (s.ringLost g).mtr i = s.mtr i)
    ∧ (∀ i, (s.ringLost g).cached i = s.cached i) ∧ (∀ i, (s.ringLost g).voice i = s.voice i) ∧ (∀ i, (s.ringLost g).turn i = s.turn i) := s.incSat_tables (kRing g 0x14) 15 0

@[simp] theorem State.headEvt_fields (s : State) (h b : Nat) :
    (s.headEvt h b).pending = s.pending ∧ (s.headEvt h b).mem = s.mem ∧ (s.headEvt h b).marks = s.marks
    ∧ (s.headEvt h b).flaws = s.flaws ∧ (s.headEvt h b).flash = s.flash ∧ (s.headEvt h b).cards = s.cards
    ∧ (s.headEvt h b).sram = s.sram ∧ (s.headEvt h b).mode = s.mode ∧ (s.headEvt h b).plan = s.plan ∧ (s.headEvt h b).staged = s.staged
    ∧ (s.headEvt h b).links = s.links ∧ (s.headEvt h b).fns = s.fns ∧ (s.headEvt h b).perst = s.perst ∧ (s.headEvt h b).armed = s.armed
    ∧ (s.headEvt h b).railsIn = s.railsIn ∧ (s.headEvt h b).wakePin = s.wakePin ∧ (s.headEvt h b).cores = s.cores
    ∧ (s.headEvt h b).heads = s.heads ∧ (s.headEvt h b).journals = s.journals ∧ (s.headEvt h b).jm = s.jm
    ∧ (s.headEvt h b).badEngines = s.badEngines ∧ (s.headEvt h b).badUnits = s.badUnits ∧ (s.headEvt h b).ringCache = s.ringCache
    ∧ (s.headEvt h b).ringNow = s.ringNow ∧ (s.headEvt h b).turns = s.turns ∧ (s.headEvt h b).blks = s.blks
    ∧ (s.headEvt h b).chans = s.chans ∧ (s.headEvt h b).marches = s.marches ∧ (s.headEvt h b).rot = s.rot
    ∧ (s.headEvt h b).scrubPos = s.scrubPos ∧ (s.headEvt h b).watches = s.watches ∧ (s.headEvt h b).retired = s.retired
    ∧ (s.headEvt h b).retiring = s.retiring ∧ (s.headEvt h b).ueSeen = s.ueSeen ∧ (s.headEvt h b).tb = s.tb
    ∧ (s.headEvt h b).tbLf = s.tbLf ∧ (s.headEvt h b).tbStepNo = s.tbStepNo ∧ (s.headEvt h b).snaps = s.snaps
    ∧ (s.headEvt h b).cmps = s.cmps ∧ (s.headEvt h b).caps = s.caps ∧ (s.headEvt h b).bells = s.bells
    ∧ (s.headEvt h b).routes = s.routes ∧ (s.headEvt h b).fired = s.fired ∧ (s.headEvt h b).srcs = s.srcs
    ∧ (s.headEvt h b).pins = s.pins ∧ (s.headEvt h b).sers = s.sers ∧ (s.headEvt h b).qds = s.qds ∧ (s.headEvt h b).mxs = s.mxs
    ∧ (s.headEvt h b).mtrs = s.mtrs ∧ (s.headEvt h b).audio = s.audio ∧ (s.headEvt h b).tally = s.tally
    ∧ (s.headEvt h b).sense = s.sense ∧ (s.headEvt h b).stormLimit = s.stormLimit ∧ (s.headEvt h b).clerkRestarts = s.clerkRestarts
    ∧ (s.headEvt h b).clerkUp = s.clerkUp ∧ (s.headEvt h b).bootTb = s.bootTb ∧ (s.headEvt h b).slot = s.slot
    ∧ (s.headEvt h b).serviceAsk = s.serviceAsk ∧ (s.headEvt h b).unverified = s.unverified ∧ (s.headEvt h b).warm = s.warm
    ∧ (s.headEvt h b).ran = s.ran ∧ (s.headEvt h b).badCores = s.badCores ∧ (s.headEvt h b).badHeads = s.badHeads
    ∧ (s.headEvt h b).badBanks = s.badBanks ∧ (s.headEvt h b).badLanes = s.badLanes ∧ (s.headEvt h b).ordered = s.ordered
    ∧ (s.headEvt h b).openFills = s.openFills ∧ (s.headEvt h b).straps = s.straps ∧ (s.headEvt h b).bootLog = s.bootLog
    ∧ (s.headEvt h b).settings = s.settings ∧ (s.headEvt h b).closing = s.closing ∧ (s.headEvt h b).closingNo = s.closingNo
    ∧ (s.headEvt h b).closeStep = s.closeStep ∧ (s.headEvt h b).dozeAsk = s.dozeAsk ∧ (s.headEvt h b).dozeHeads = s.dozeHeads
    ∧ (s.headEvt h b).dozePaused = s.dozePaused ∧ (s.headEvt h b).wakeAsk = s.wakeAsk ∧ (s.headEvt h b).after = s.after
    ∧ (s.headEvt h b).testBy = s.testBy ∧ (s.headEvt h b).port = s.port ∧ (s.headEvt h b).sent = s.sent ∧ (s.headEvt h b).free = s.free := s.setB_fields (kHead h 0x1008) b true

@[simp] theorem State.headEvt_tables (s : State) (h b : Nat) :
    (∀ i, (s.headEvt h b).byte i = s.byte i) ∧ (∀ i, (s.headEvt h b).core i = s.core i) ∧ (∀ i, (s.headEvt h b).head i = s.head i)
    ∧ (∀ i, (s.headEvt h b).journal i = s.journal i) ∧ (∀ i, (s.headEvt h b).link i = s.link i) ∧ (∀ i, (s.headEvt h b).fn i = s.fn i)
    ∧ (∀ i, (s.headEvt h b).blk i = s.blk i) ∧ (∀ i, (s.headEvt h b).chan i = s.chan i) ∧ (∀ i, (s.headEvt h b).march i = s.march i)
    ∧ (∀ i, (s.headEvt h b).cmp i = s.cmp i) ∧ (∀ i, (s.headEvt h b).cap i = s.cap i) ∧ (∀ i, (s.headEvt h b).bell i = s.bell i)
    ∧ (∀ i, (s.headEvt h b).src i = s.src i) ∧ (∀ i, (s.headEvt h b).pin i = s.pin i) ∧ (∀ i, (s.headEvt h b).ser i = s.ser i)
    ∧ (∀ i, (s.headEvt h b).qd i = s.qd i) ∧ (∀ i, (s.headEvt h b).mx i = s.mx i) ∧ (∀ i, (s.headEvt h b).mtr i = s.mtr i)
    ∧ (∀ i, (s.headEvt h b).cached i = s.cached i) ∧ (∀ i, (s.headEvt h b).voice i = s.voice i)
    ∧ (∀ i, (s.headEvt h b).turn i = s.turn i) := s.setB_tables (kHead h 0x1008) b true

end Sys2Proof.Machine
end

