-- ==== Sys2Proof/Laws/Ops.lean ====
section
/-!
SUPPORT. Laws of the shared operations that go on from state to state: what a walk over a list of units keeps, and what finding
an uncorrectable error, an entry written to a ring, a journal record and a memory store leave.
-/
namespace Sys2Proof.Machine

/-- What every step of a walk keeps, the walk keeps. -/
theorem foldl_keeps {β γ : Type} (p : State → γ) (f : State → β → State) (h : ∀ t x, p (f t x) = p t) (l : List β) (s : State) :
    p (l.foldl f s) = p s := by
  induction l generalizing s with
  | nil => rfl
  | cons x t ih => rw [List.foldl_cons, ih, h]

/-! ### Errors in memory (R411, R413, R415, R428) -/

/-- What choosing a page for retirement changes: reports and the pages that wait; nothing else. -/
theorem State.retirePage_keeps {γ : Type} (p : State → γ) (hr : ∀ (t : State) c x y z, p (t.report c x y z) = p t)
    (hq : ∀ (t : State) l, p { t with retiring := l } = p t) (s : State) (page : Nat) : p (s.retirePage page) = p s := by
  unfold State.retirePage
  split
  · rfl
  · split
    · exact hr _ _ _ _ _
    · exact hq _ _

/-- What counting and noting an uncorrectable error changes: registers, reports and the pages known and waiting; nothing else. -/
theorem State.foundUe_keeps {γ : Type} (p : State → γ) (hw : ∀ (t : State) k v, p (t.wr k v) = p t)
    (hr : ∀ (t : State) c x y z, p (t.report c x y z) = p t) (hu : ∀ (t : State) l, p { t with ueSeen := l } = p t)
    (hq : ∀ (t : State) l, p { t with retiring := l } = p t) (s : State) (a : Nat) : p (s.foundUe a) = p s := by
  have hc : ∀ (t : State) b, p (t.countUe b a) = p t := by
    intro t b
    unfold State.countUe
    extract_lets u
    have e : p u = p t := hw _ _ _
    split
    · exact e
    · rw [State.wr64, State.wrN, State.wrN, hw, hw, e]
  have hp : ∀ t : State, p (t.pageUe a) = p t := by
    intro t
    unfold State.pageUe
    extract_lets page
    split
    · rfl
    · rw [State.retirePage_keeps p hr hq, hr, hu]
  unfold State.foundUe
  extract_lets u
  have e : p u = p s := by
    unfold u
    split
    · exact hc _ _
    · rfl
  split
  · exact e
  · rw [hp, e]

/-- The same for every uncorrectable word of a read. -/
theorem State.readUe_keeps {γ : Type} (p : State → γ) (hw : ∀ (t : State) k v, p (t.wr k v) = p t)
    (hr : ∀ (t : State) c x y z, p (t.report c x y z) = p t) (hu : ∀ (t : State) l, p { t with ueSeen := l } = p t)
    (hq : ∀ (t : State) l, p { t with retiring := l } = p t) (s : State) (a n : Nat) : p (s.readUe a n) = p s :=
  foldl_keeps p _ (fun t m => State.foundUe_keeps p hw hr hu hq t m) _ _

/-- What a corrected error changes: registers, reports, watches and the pages that wait; nothing else. -/
theorem State.correctedIn_keeps {γ : Type} (p : State → γ) (hw : ∀ (t : State) k v, p (t.wr k v) = p t)
    (hr : ∀ (t : State) c x y z, p (t.report c x y z) = p t) (hv : ∀ (t : State) l, p { t with watches := l } = p t)
    (hq : ∀ (t : State) l, p { t with retiring := l } = p t) (s : State) (a : Nat) : p (s.correctedIn a) = p s := by
  unfold State.correctedIn
  extract_lets page u
  have e : p u = p s := by
    unfold u
    split
    · exact hw _ _ _
    · rfl
  split
  · exact e
  · split
    · rw [State.retirePage_keeps p hr hq, e]
    · rw [hv, e]

/-- The same for every word that a read corrects. -/
theorem State.mends_keeps {γ : Type} (p : State → γ) (hw : ∀ (t : State) k v, p (t.wr k v) = p t)
    (hr : ∀ (t : State) c x y z, p (t.report c x y z) = p t) (hv : ∀ (t : State) l, p { t with watches := l } = p t)
    (hq : ∀ (t : State) l, p { t with retiring := l } = p t) (hf : ∀ (t : State) l, p { t with flaws := l } = p t)
    (s : State) (a n : Nat) : p (s.mends a n) = p s := by
  rw [State.mends, foldl_keeps p _ (fun t m => State.correctedIn_keeps p hw hr hv hq t m), hf]

/-- A read of memory where no word has an error that no read has met corrects nothing. -/
theorem State.mends_sound (s : State) (a n : Nat) (h : s.flaws = []) : s.mends a n = s := by
  cases s
  simp only [State.mends] at *
  subst h
  rfl
@[simp] theorem State.readUe_mem (s : State) (a n : Nat) : (s.readUe a n).mem = s.mem :=
  State.readUe_keeps State.mem (fun _ _ _ => rfl) (fun _ _ _ _ _ => rfl) (fun _ _ => rfl) (fun _ _ => rfl) s a n
@[simp] theorem State.mends_mem (s : State) (a n : Nat) : (s.mends a n).mem = s.mem :=
  State.mends_keeps State.mem (fun _ _ _ => rfl) (fun _ _ _ _ _ => rfl) (fun _ _ => rfl) (fun _ _ => rfl) (fun _ _ => rfl) s a n
@[simp] theorem State.meets_mem (s : State) (a n : Nat) : (s.meets a n).mem = s.mem := by simp [State.meets]
@[simp] theorem State.readUe_marks (s : State) (a n : Nat) : (s.readUe a n).marks = s.marks :=
  State.readUe_keeps State.marks (fun _ _ _ => rfl) (fun _ _ _ _ _ => rfl) (fun _ _ => rfl) (fun _ _ => rfl) s a n
@[simp] theorem State.mends_marks (s : State) (a n : Nat) : (s.mends a n).marks = s.marks :=
  State.mends_keeps State.marks (fun _ _ _ => rfl) (fun _ _ _ _ _ => rfl) (fun _ _ => rfl) (fun _ _ => rfl) (fun _ _ => rfl) s a n
@[simp] theorem State.meets_marks (s : State) (a n : Nat) : (s.meets a n).marks = s.marks := by simp [State.meets]
@[simp] theorem State.readUe_plan (s : State) (a n : Nat) : (s.readUe a n).plan = s.plan :=
  State.readUe_keeps State.plan (fun _ _ _ => rfl) (fun _ _ _ _ _ => rfl) (fun _ _ => rfl) (fun _ _ => rfl) s a n
@[simp] theorem State.mends_plan (s : State) (a n : Nat) : (s.mends a n).plan = s.plan :=
  State.mends_keeps State.plan (fun _ _ _ => rfl) (fun _ _ _ _ _ => rfl) (fun _ _ => rfl) (fun _ _ => rfl) (fun _ _ => rfl) s a n
@[simp] theorem State.meets_plan (s : State) (a n : Nat) : (s.meets a n).plan = s.plan := by simp [State.meets]
@[simp] theorem State.readUe_mode (s : State) (a n : Nat) : (s.readUe a n).mode = s.mode :=
  State.readUe_keeps State.mode (fun _ _ _ => rfl) (fun _ _ _ _ _ => rfl) (fun _ _ => rfl) (fun _ _ => rfl) s a n
@[simp] theorem State.mends_mode (s : State) (a n : Nat) : (s.mends a n).mode = s.mode :=
  State.mends_keeps State.mode (fun _ _ _ => rfl) (fun _ _ _ _ _ => rfl) (fun _ _ => rfl) (fun _ _ => rfl) (fun _ _ => rfl) s a n
@[simp] theorem State.meets_mode (s : State) (a n : Nat) : (s.meets a n).mode = s.mode := by simp [State.meets]
@[simp] theorem State.readUe_heads (s : State) (a n : Nat) : (s.readUe a n).heads = s.heads :=
  State.readUe_keeps State.heads (fun _ _ _ => rfl) (fun _ _ _ _ _ => rfl) (fun _ _ => rfl) (fun _ _ => rfl) s a n
@[simp] theorem State.mends_heads (s : State) (a n : Nat) : (s.mends a n).heads = s.heads :=
  State.mends_keeps State.heads (fun _ _ _ => rfl) (fun _ _ _ _ _ => rfl) (fun _ _ => rfl) (fun _ _ => rfl) (fun _ _ => rfl) s a n
@[simp] theorem State.meets_heads (s : State) (a n : Nat) : (s.meets a n).heads = s.heads := by simp [State.meets]
@[simp] theorem State.readUe_cores (s : State) (a n : Nat) : (s.readUe a n).cores = s.cores :=
  State.readUe_keeps State.cores (fun _ _ _ => rfl) (fun _ _ _ _ _ => rfl) (fun _ _ => rfl) (fun _ _ => rfl) s a n
@[simp] theorem State.mends_cores (s : State) (a n : Nat) : (s.mends a n).cores = s.cores :=
  State.mends_keeps State.cores (fun _ _ _ => rfl) (fun _ _ _ _ _ => rfl) (fun _ _ => rfl) (fun _ _ => rfl) (fun _ _ => rfl) s a n
@[simp] theorem State.meets_cores (s : State) (a n : Nat) : (s.meets a n).cores = s.cores := by simp [State.meets]

/-- A read of a range without marks finds nothing uncorrectable. -/
theorem State.readUe_clean (s : State) (a n : Nat) (h : s.marked a n = false) : s.readUe a n = s := by
  have e : (s.marks.filter fun m => decide (m < a + n) && decide (a < m + eccSize m)) = [] := by
    rw [List.filter_eq_nil_iff]
    intro m hm hp
    have := List.any_eq_false.mp h m hm
    exact this hp
  rw [State.readUe, e, List.foldl_nil]

/-- A read of a range without marks corrects what it meets. -/
theorem State.meets_clean (s : State) (a n : Nat) (h : s.marked a n = false) : s.meets a n = s.mends a n := by
  rw [State.meets, State.readUe_clean]
  simpa [State.marked] using h

end Sys2Proof.Machine
end

