-- ==== Sys2Proof/Laws/Pyriva.lean ====
section
/-!
SUPPORT. What the shared driver of the Pyriva instructions does, said once: an instruction that its core begins, whose operands
are addressed and whose writes are accepted runs to its end.
-/
namespace Sys2Proof.Machine

/-- An instruction that begins carries out what follows its decoding and its guard. -/
theorem State.meet_begins {s : State} {g : Guard} {parcels : List Bool} {slots : List Slot} {locs : List Loc} {u t : State}
    {run : State → Nat → Nat → Except Stop State} (h : Begins s g parcels slots locs u)
    (hr : run (s.begin_ (coreNum g.core)) (s.pc (coreNum g.core)) (s.nextPc g parcels) = .ok t) :
    s.meet g parcels run = t := by
  unfold State.meet
  unfold State.nextPc at hr
  simp only [h.runs, h.fetched, h.guarded, hr, Bool.not_true, Bool.false_eq_true, if_false]

/-- An instruction that begins and whose operation stops it is stopped. -/
theorem State.meet_stops {s : State} {g : Guard} {parcels : List Bool} {slots : List Slot} {locs : List Loc} {u : State} {e : Stop}
    {run : State → Nat → Nat → Except Stop State} (h : Begins s g parcels slots locs u)
    (hr : run (s.begin_ (coreNum g.core)) (s.pc (coreNum g.core)) (s.nextPc g parcels) = .error e) :
    s.meet g parcels run = (s.begin_ (coreNum g.core)).stopped g.core e := by
  unfold State.meet
  unfold State.nextPc at hr
  simp only [h.runs, h.fetched, h.guarded, hr, Bool.not_true, Bool.false_eq_true, if_false]

/-- What an operation of a computing instruction brings about, once its operands are read and its writes are accepted. -/
theorem State.operate_ok {u v w : State} {c : CoreId} {pc next : Nat} {slots : List Slot} {locs : List Loc} {vals : List Nat}
    {op : Ctx → Except Stop Out} {out : Out} (hr : u.readAll c slots locs = (vals, v))
    (ho : op { vals := vals, locs := locs, flags := v.rd (kWin (coreNum c) 0x20), pc := pc, next := next } = .ok out)
    (hj : out.jump = none)
    (hw : ((v.putFlags (coreNum c) out.flags).writeAll c slots locs out.writes).portStall (coreNum c) v = w)
    (he : ∀ j, (w.core (coreNum c)).jump = some j → j % 2 = 0) :
    u.operate c pc next slots locs op
      = .ok (w.spendAll (coreNum c) (out.base + (writesPc locs out.writes).toNat) slots locs) := by
  unfold State.operate
  simp only [hr, ho, hw, hj]
  split
  · rename_i j hj'
    rw [if_neg (by have := he j hj'; omega)]
  · rfl

/-- The same for an operation that jumps to an even address. -/
theorem State.operate_jump {u v w : State} {c : CoreId} {pc next j : Nat} {slots : List Slot} {locs : List Loc}
    {vals : List Nat} {op : Ctx → Except Stop Out} {out : Out} (hr : u.readAll c slots locs = (vals, v))
    (ho : op { vals := vals, locs := locs, flags := v.rd (kWin (coreNum c) 0x20), pc := pc, next := next } = .ok out)
    (hj : out.jump = some j) (he : j % 2 = 0)
    (hw : ((v.putFlags (coreNum c) out.flags).writeAll c slots locs out.writes).portStall (coreNum c) v = w) :
    u.operate c pc next slots locs op
      = .ok ((w.setCore (coreNum c) { w.core (coreNum c) with jump := some (j % 2 ^ 40) }).spendAll (coreNum c)
          (out.base + (writesPc locs out.writes).toNat) slots locs) := by
  have hget : ((w.setCore (coreNum c) { w.core (coreNum c) with jump := some (j % 2 ^ 40) }).core (coreNum c)).jump
      = some (j % 2 ^ 40) := by
    simp [State.core, State.setCore, Sparse.get_set]
  unfold State.operate
  simp only [hr, ho, hw, hj, hget]
  rw [if_neg (by omega)]

/-- A computing instruction that begins, whose writes are accepted, completes. -/
theorem State.compute_ok {s : State} {g : Guard} {parcels : List Bool} {slots : List Slot} {locs : List Loc} {u v w : State}
    {vals : List Nat} {op : Ctx → Except Stop Out} {out : Out} (h : Begins s g parcels slots locs u)
    (hr : u.readAll g.core slots locs = (vals, v))
    (ho : op { vals := vals, locs := locs, flags := v.rd (kWin (coreNum g.core) 0x20), pc := s.pc (coreNum g.core),
               next := s.nextPc g parcels } = .ok out)
    (hj : out.jump = none) (hw : Accepts v g slots locs out.flags out.writes w) :
    s.computeWith g parcels slots op
      = (w.spendAll (coreNum g.core) (out.base + (writesPc locs out.writes).toNat) slots locs).retire (coreNum g.core)
          (s.nextPc g parcels) := by
  unfold State.computeWith
  refine State.meet_begins h ?_
  simp only [h.placed, State.operate_ok hr ho hj hw.written hw.even]

/-- A computing instruction that jumps to an even address completes there. -/
theorem State.compute_jump {s : State} {g : Guard} {parcels : List Bool} {slots : List Slot} {locs : List Loc} {u v w : State}
    {vals : List Nat} {op : Ctx → Except Stop Out} {out : Out} {j : Nat} (h : Begins s g parcels slots locs u)
    (hr : u.readAll g.core slots locs = (vals, v))
    (ho : op { vals := vals, locs := locs, flags := v.rd (kWin (coreNum g.core) 0x20), pc := s.pc (coreNum g.core),
               next := s.nextPc g parcels } = .ok out)
    (hj : out.jump = some j) (he : j % 2 = 0)
    (hw : ((v.putFlags (coreNum g.core) out.flags).writeAll g.core slots locs out.writes).portStall (coreNum g.core) v = w) :
    s.computeWith g parcels slots op
      = ((w.setCore (coreNum g.core) { w.core (coreNum g.core) with jump := some (j % 2 ^ 40) }).spendAll (coreNum g.core)
          (out.base + (writesPc locs out.writes).toNat) slots locs).retire (coreNum g.core) (s.nextPc g parcels) := by
  unfold State.computeWith
  refine State.meet_begins h ?_
  simp only [h.placed, State.operate_jump hr ho hj he hw]

/-- A computing instruction whose operation traps takes that trap, and nothing of it stays. -/
theorem State.compute_trap {s : State} {g : Guard} {parcels : List Bool} {slots : List Slot} {locs : List Loc} {u v : State}
    {vals : List Nat} {op : Ctx → Except Stop Out} {e : Stop} (h : Begins s g parcels slots locs u)
    (hr : u.readAll g.core slots locs = (vals, v))
    (ho : op { vals := vals, locs := locs, flags := v.rd (kWin (coreNum g.core) 0x20), pc := s.pc (coreNum g.core),
               next := s.nextPc g parcels } = .error e) :
    s.computeWith g parcels slots op = (s.begin_ (coreNum g.core)).stopped g.core e := by
  unfold State.computeWith
  refine State.meet_stops h ?_
  simp only [h.placed, State.operate, hr, ho]

/-- An instruction that acts on its core in a way of its own, once its operands are read. -/
theorem State.act_ok {s : State} {g : Guard} {bad : Bool} {base : Nat} {slots : List Slot} {locs : List Loc} {u v t : State}
    {vals : List Nat} {run : State → Nat → Nat → List Nat → List Loc → Except Stop State} (h : Begins s g (parcelsOf g.core bad slots) slots locs u)
    (hr : u.readAll g.core slots locs = (vals, v))
    (ho : run (v.spendAll (coreNum g.core) base slots locs) (s.pc (coreNum g.core))
      (s.nextPc g (parcelsOf g.core bad slots)) vals locs = .ok t) :
    s.act_ g bad base slots run = t := by
  unfold State.act_ State.acts
  refine State.meet_begins h ?_
  simp only [h.placed, hr, ho]

/-- An instruction whose meaning is the driver over an operation that never jumps or traps computes what the operation gives. -/
theorem computes_of {i : Instr} {g : Guard} {parcels : List Bool} {slots : List Slot} {op : Ctx → Except Stop Out}
    {f : (Nat → Nat) → Flags → Result} (hi : ∀ s, exec i s = .next (s.computeWith g parcels slots op))
    (ho : ∀ x : Ctx, op x = .ok {
      writes := (f x.val (flagsRead x.flags.toNat)).writes
      flags := (f x.val (flagsRead x.flags.toNat)).flags
      jump := none
      base := (f x.val (flagsRead x.flags.toNat)).base }) : Computes i g parcels slots f := by
  intro s locs u vals v w h hr c r hw
  have ho' := ho { vals := vals, locs := locs, flags := v.rd (kWin (coreNum g.core) 0x20), pc := s.pc (coreNum g.core),
                   next := s.nextPc g parcels }
  rw [hi s, State.compute_ok h hr ho' rfl hw]
  rfl

/-- An instruction whose meaning acts on its core in a way of its own acts so. -/
theorem acts_of {i : Instr} {g : Guard} {bad : Bool} {base : Nat} {slots : List Slot}
    {run : State → Nat → Nat → List Nat → List Loc → Except Stop State} {f : (Nat → Nat) → State → Nat → State}
    (hi : ∀ s, exec i s = .next (s.act_ g bad base slots run))
    (ho : ∀ t pc next vals locs, run t pc next vals locs = .ok (f (fun k => vals.getD k 0) t next)) :
    Acts i g (parcelsOf g.core bad slots) slots base f := by
  intro s locs u vals v h hr
  rw [hi s, State.act_ok h hr (ho _ _ _ _ _)]

end Sys2Proof.Machine
end

