-- ==== Sys2Proof/Machine/Lamps.lean ====
section
/-!
DEFINITION. The bracket indicators (R587) and the outputs of the slot edge and of the cabinet header (R568, R577, R578): what
each shows or drives is a function of the state.
-/
namespace Sys2Proof.Machine

/-- What an indicator shows (R587): off, on, a blink with its period in milliseconds, or a single flash of 100 ms in each
4 s. -/
inductive Lamp where
  | off
  | on
  | blink (ms : Nat)
  | flash
deriving DecidableEq, Repr

/-- An indicator is lit at a time of TB (R587): a blink for half its period; which half, and where in each 4 s the flash
falls, the spec does not say. -/
def Lamp.lit (l : Lamp) (tb : Double) : Bool :=
  let ms := tb.toNat / 96000
  match l with
  | .off => false
  | .on => true
  | .blink p => decide (ms % p < p / 2) == Config.blinkFirst
  | .flash => decide ((ms + 4000 - Config.flashAt % 4000) % 4000 < 100)

/-- All three indicators light for 500 ms when the island starts (R587). -/
def State.lampTest (s : State) : Bool := s.mode != .noPower && decide ((s.tb - s.bootTb).toNat < 48000000)

/-- HOUSE, green (R587). -/
def State.lampHouse (s : State) : Lamp :=
  if s.mode == .noPower then .off
  else if s.lampTest then .on
  else if s.port.session.isSome then .blink 500
  else .on

/-- RUN, green (R587). -/
def State.lampRun (s : State) : Lamp :=
  if s.lampTest then .on
  else match s.mode with
    | .noPower | .standby | .service | .limp => .off
    | .opening => .blink 500
    | .run => .on
    | .doze => .blink 2000
    | .hold => .blink 250
    | .closing => .blink 1000

/-- FAULT, amber: the first state of R587's list that applies (R587, R588). -/
def State.lampFault (s : State) : Lamp :=
  if s.mode == .noPower then .off
  else if s.lampTest then .on
  else if s.mode == .limp then .blink 500
  else if s.sensorWord 0x32 == 2 || s.sensorWord 0x32 == 3 then .on
  else if s.sense.throttle != 0 then .blink 2000
  else if s.unverified then .flash
  else .off

/-! ### Outputs of the connectors -/

/-- VREF_3V3 is present while the main domains are on, and off in Standby and Service (R577). -/
def State.vref3v3 (s : State) : Bool := s.mode.mainOn

/-- CLKREQ# is asserted while any link of the plan is outside L1.2 (R568). -/
def State.clkreq (s : State) : Bool :=
  s.mode != .noPower && (List.range 4).any fun l =>
    linkWidth s.plan.linkCfg l != 0 && !((s.link l).up && (s.link l).l1 && (s.link l).sub == 2)

/-- TDMp_BCLK (0), TDMp_FSYNC (1) and TDMp_DOUT (2) of the header: the port's signals while it sends frames, low while it is
stopped (R578). -/
def State.tdmPin (s : State) (p signal : Nat) : PinOut :=
  if (s.tdmPort p).running then .wave (.tdm p signal) false false else .level false

end Sys2Proof.Machine
end

