-- ==== Sys2Proof/WellFormed.lean ====
section
/-!
DEFINITION. Which commands are well formed: what a row's operands must satisfy beyond their types to be a command the
row can carry (widths and offsets of accesses, lengths of what comes in, the parcels of an operand).
-/
namespace Sys2Proof

open Sys2Proof.Machine

/-- An access is 1, 2, 4 or 8 bytes wide (R29). -/
def sizeOk (size : Nat) : Bool := size == 1 || size == 2 || size == 4 || size == 8

/-- A width and alignment that BAR0 and BAR4 take (R49, R82). -/
def widthTaken (off size : Nat) : Bool := (size == 4 || size == 8) && off % size == 0

/-- How many bytes a host space holds at most (R47, R50): BAR2's size depends on the plan, and 124 granules need 128 GiB. -/
def HostSpace.bytes : HostSpace → Nat
  | .bar0 => 0x2000000
  | .bar2 => 2 ^ 37
  | .bar4 => 0x10000
  | .config => 0x1000

/-- A target of an access: within its space; a poisoned write is a memory request (R51); configuration space is read and
written within a word. -/
def AccessAt.wf (x : AccessAt) (size : Nat) : Bool :=
  match x with
  | .device _ a => a.toNat % size == 0
  | .host _ .config off => decide (off.toNat + size ≤ HostSpace.config.bytes) && decide (off.toNat % 4 + size ≤ 4)
  | .host _ space off => decide (off.toNat + size ≤ space.bytes)
  | .hostPoisoned _ space off => space != .config && decide (off.toNat + size ≤ space.bytes)

/-- The access is a poisoned write. -/
def AccessAt.isPoisoned : AccessAt → Bool
  | .hostPoisoned _ _ _ => true
  | _ => false

/-- What a read of host memory brings back is as long as what was asked for. -/
def HostRead.wf (x : HostRead) (n : Nat) : Bool :=
  match x with
  | .data bytes => bytes.length == n
  | _ => true

/-- An AUX reply carries at most 16 bytes (R298). -/
def AuxReply.wf : AuxReply → Bool
  | .ack bytes => decide (bytes.length ≤ 16)
  | _ => true

/-- A voice's fetch brings at most one unit: 64 bytes hold every sample one boundary needs. -/
def VoiceData.wf : VoiceData → Bool
  | .back data => decide (data.bytes.val ≤ 64)
  | .late => true

/-- An operand holds no extension parcel beyond those its mode can have (R101). -/
def Operand.wf (o : Operand) : Bool := decide (o.ext.toNat < 2 ^ (16 * extCount (modeOf o.spec) 8))

/-- A string instruction's operand is well formed. -/
def Prefixed.wf : Prefixed → Bool
  | .str (.sset a) => a.wf
  | .str (.sget d) => d.wf
  | .str (.sfind a) => a.wf
  | _ => true

/-- The repeat mode of a prefix parcel (R156). -/
def repMode (pre : Parcel) : Nat := nfld pre.toNat 3 0

/-- A frame's payload is at most 65,520 bytes (R546). -/
def payloadOk (payload : List Byte) : Bool := decide (payload.length ≤ 65520)

/-- Numbers without a repeat. -/
def distinct : List Nat → Bool
  | [] => true
  | a :: t => !t.contains a && distinct t

/-- A command is well formed. -/
def wellFormed (i : Instr) : Bool :=
  match i with
  | .registerWrite at_ size _ => at_.wf size && sizeOk size
  | .perstAssert => true
  | .perstDeassert => true
  | .functionLevelReset _ => true
  | .flrComplete _ => true
  | .scrubFillDone _ _ => true
  | .d3hotEntry _ => true
  | .d3hotToD0 _ => true
  | .hotReset _ => true
  | .linkUp _ width rate => decide (1 ≤ width.val) && decide (1 ≤ rate.val)
  | .linkTrainTimeout _ => true
  | .refclkLoss => true
  | .pcieErrorTlp _ _ => true
  | .bar0AccessBad _ off size _ _ => decide (off.toNat < 0x2000000) && !widthTaken off.toNat size && decide (1 ≤ size)
  | .bar2Read _ off data =>
    decide (1 ≤ data.size) && decide (data.size ≤ 4096) && decide (off.toNat + data.size ≤ HostSpace.bar2.bytes)
  | .bar2Write _ off bytes _ => decide (1 ≤ bytes.length) && decide (bytes.length ≤ 4096) && decide (off.toNat + bytes.length ≤ HostSpace.bar2.bytes)
  | .msixVectorUnmask _ _ => true
  | .ptmReq _ => true
  | .ptmPeriodTimer _ => true
  | .ptmMeasurementEnd _ _ _ _ => true
  | .ptmTimeout _ => true
  | .aspmL1Entry _ => true
  | .smbusReadWord _ _ => true
  | .smbusTimeout => true
  | .doorbellWrite _ off size _ => decide (off.toNat < 0x8000) && widthTaken off.toNat size
  | .bar4BadAccess _ off size _ _ => decide (off.toNat < 0x10000) && !widthTaken off.toNat size && decide (1 ≤ size)
  | .ringEnable _ _ _ => true
  | .ringDisable _ _ _ => true
  | .ringEntryFetched _ host => host.wf 64
  | .ringErrClear _ _ => true
  | .mboxDeliver _ => true
  | .mboxDone _ _ => true
  | .stopCarter _ _ _ => true
  | .stopCores _ _ => true
  | .stopUnits _ _ => true
  | .stopRelease _ _ => true
  | .stopHalted _ => true
  | .stopQuiet _ => true
  | .coreRun _ _ => true
  | .coreHalt _ _ => true
  | .coreStep _ _ => true
  | .coreHaltTaken _ => true
  | .coreWinWrite _ _ off size _ => sizeOk size && off.val % size == 0
  | .lcLoadData _ _ _ => true
  | .lcStart _ => true
  | .instructionFetchFill _ => true
  | .intTrap _ => true
  | .lateTrap _ => true
  | .undefinedOpcode _ first => !opcodeDefined (nfld first.toNat 11 4)
  | .nop _ => true
  | .rep _ pre op => repMode pre != 1 && repMode pre != 2 && op.wf
  | .repm _ pre op => repMode pre == 1 && op.wf
  | .repd _ pre op => repMode pre == 2 && op.wf
  | .repIteration _ => true
  | .halt _ => true
  | .trap _ n => n.wf
  | .rett _ => true
  | .wait _ => true
  | .waitComplete _ => true
  | .waitl _ n => n.wf
  | .waitlComplete _ => true
  | .waits _ n => n.wf
  | .waitsComplete _ => true
  | .waitn _ => true
  | .waitnComplete _ => true
  | .sync _ => true
  | .syncComplete _ => true
  | .cinv _ p n => p.wf && n.wf
  | .mov _ a d => a.wf && d.wf
  | .zxt _ a d => a.wf && d.wf
  | .sxt _ a d => a.wf && d.wf
  | .lea _ p d => p.wf && d.wf
  | .swap _ x y => x.wf && y.wf
  | .clr _ d => d.wf
  | .bswap _ a d => a.wf && d.wf
  | .cas _ e n p => e.wf && n.wf && p.wf
  | .add _ a b d => a.wf && b.wf && d.wf
  | .adc _ a b d => a.wf && b.wf && d.wf
  | .sub _ a b d => a.wf && b.wf && d.wf
  | .sbc _ a b d => a.wf && b.wf && d.wf
  | .neg _ a d => a.wf && d.wf
  | .cmp _ a b => a.wf && b.wf
  | .mul _ a b d => a.wf && b.wf && d.wf
  | .mulhs _ a b d => a.wf && b.wf && d.wf
  | .mulhu _ a b d => a.wf && b.wf && d.wf
  | .mac _ a b c => a.wf && b.wf && c.wf
  | .divs _ a b d => a.wf && b.wf && d.wf
  | .divu _ a b d => a.wf && b.wf && d.wf
  | .rems _ a b d => a.wf && b.wf && d.wf
  | .remu _ a b d => a.wf && b.wf && d.wf
  | .abs _ a d => a.wf && d.wf
  | .and _ a b d => a.wf && b.wf && d.wf
  | .or _ a b d => a.wf && b.wf && d.wf
  | .xor _ a b d => a.wf && b.wf && d.wf
  | .not _ a d => a.wf && d.wf
  | .andn _ a b d => a.wf && b.wf && d.wf
  | .tst _ a b => a.wf && b.wf
  | .shl _ a n d => a.wf && n.wf && d.wf
  | .shr _ a n d => a.wf && n.wf && d.wf
  | .sar _ a n d => a.wf && n.wf && d.wf
  | .rol _ a n d => a.wf && n.wf && d.wf
  | .ror _ a n d => a.wf && n.wf && d.wf
  | .clz _ a d => a.wf && d.wf
  | .popc _ a d => a.wf && d.wf
  | .bfx _ a f d => a.wf && f.wf && d.wf
  | .bfi _ a f d => a.wf && f.wf && d.wf
  | .qadd _ a b d => a.wf && b.wf && d.wf
  | .qaddu _ a b d => a.wf && b.wf && d.wf
  | .qsub _ a b d => a.wf && b.wf && d.wf
  | .qsubu _ a b d => a.wf && b.wf && d.wf
  | .mins _ a b d => a.wf && b.wf && d.wf
  | .maxs _ a b d => a.wf && b.wf && d.wf
  | .minu _ a b d => a.wf && b.wf && d.wf
  | .maxu _ a b d => a.wf && b.wf && d.wf
  | .pset _ k => k.wf
  | .set _ d => d.wf
  | .b _ disp => disp.wf
  | .jmp _ t => t.wf
  | .call _ t link => t.wf && link.wf
  | .callr _ disp link => disp.wf && link.wf
  | .dbnz _ c disp => c.wf && disp.wf
  | .smov _ => true
  | .sset _ a => a.wf
  | .sget _ d => d.wf
  | .scmp _ => true
  | .sfind _ a => a.wf
  | .renderLineBoundary _ _ => true
  | .spanBoundary _ => true
  | .sortDescriptorRead _ => true
  | .peFetchReturn _ _ _ data => decide (data.bytes.val ≤ 4096)
  | .bitmapFetchReturn _ _ _ _ => true
  | .surfaceReadReturn _ firstCol lastCol _ => decide (firstCol ≤ lastCol)
  | .stagedWrite _ addr size _ => sizeOk size && addr.toNat % size == 0
  | .paletteWrite _ addr size _ => sizeOk size && addr.toNat % size == 0
  | .shadowWrite _ addr size _ => sizeOk size && addr.toNat % size == 0
  | .commit _ _ _ => true
  | .scanLineBoundary _ => true
  | .fenceArm _ _ _ _ _ => true
  | .flatInval _ _ => true
  | .headStart _ _ => true
  | .beamsStart _ => true
  | .headStop _ _ => true
  | .headStopImmediate _ _ => true
  | .syncEdge _ _ => true
  | .presentGo _ _ => true
  | .scanLineActiveEnd _ => true
  | .hpdPlug _ => true
  | .hpdUnplug _ => true
  | .irqHpd _ _ => true
  | .hpdGlitch _ => true
  | .linkTrainingDone _ _ => true
  | .linkRetryTimer _ => true
  | .linkLost _ => true
  | .linkRetrain _ _ => true
  | .auxGo _ _ _ => true
  | .auxReply _ reply => reply.wf
  | .psrEnter _ _ => true
  | .psrExit _ _ => true
  | .psrSuGo _ _ => true
  | .mirrorCopyDone _ => true
  | .engineInternalCheckFail _ => true
  | .journalBlockSeal _ => true
  | .gapRecord _ => true
  | .ckptReq _ _ => true
  | .ckptEnd _ => true
  | .drainEnable _ _ _ => true
  | .drainDisable _ _ _ => true
  | .drainBlock _ => true
  | .sampleBoundary => true
  | .keyOn _ _ => true
  | .keyOff _ _ => true
  | .kill _ _ => true
  | .audSwap _ _ => true
  | .gainTimeout _ => true
  | .crossfadeEnd _ => true
  | .voiceFetchReturn _ _ data => data.wf
  | .audioCmdWrite => true
  | .audioCmdMark => true
  | .audioCmdUnknown => true
  | .tdmFrame _ slotsIn => distinct (slotsIn.map fun e => 16 * e.1.val + e.2.1.val)
  | .wclkEdge _ _ => true
  | .wclkLoss _ => true
  | .wclkReturn _ => true
  | .bridgeLock _ => true
  | .blkTake _ _ => true
  | .blkGive _ _ => true
  | .blkGo _ _ => true
  | .blkAbort _ _ => true
  | .blkPieceDone _ => true
  | .blkDeadTimeEnd _ => true
  | .carterStart _ _ => true
  | .carterPause _ _ => true
  | .carterResume _ _ => true
  | .carterDisable _ _ => true
  | .carterDescriptorFetched _ host => host.wf 32
  | .carterReadReturn _ _ => true
  | .carterWriteComplete _ => true
  | .carterBusError _ _ => true
  | .scrubStep found => distinct (found.map fun e => e.1.val)
  | .retireCopyDone => true
  | .marchGo _ _ => true
  | .marchAbort _ => true
  | .marchEnd _ _ => true
  | .marchZeroFillDone _ => true
  | .bankRotationCopyDone => true
  | .bankMarchDone _ => true
  | .tbTick => true
  | .tbStep => true
  | .tbLoRead _ => true
  | .cmpValLoWrite _ _ _ => true
  | .cmpValWrite _ _ _ _ => true
  | .capture _ _ => true
  | .capPop _ _ => true
  | .channelFire _ _ => true
  | .channelDeliver _ _ => true
  | .routeChangeApply _ _ => true
  | .stormWindow => true
  | .cutResume _ _ => true
  | .sourceLevelChange _ => true
  | .interruptOffer _ => true
  | .icClaim _ => true
  | .icComplete _ _ => true
  | .holdoffEnd _ => true
  | .icPendWrite _ _ _ => true
  | .watchWake _ => true
  | .cioHandover _ _ _ => true
  | .pinFilterPass _ _ => true
  | .serDataWrite _ _ _ => true
  | .serDataRead _ _ => true
  | .serByteDone _ _ => true
  | .serBusTimeout _ => true
  | .qdSample _ _ _ => true
  | .qdCountRead _ _ => true
  | .mxRowDwell _ _ => true
  | .mxKeysRead _ _ => true
  | .mtrAdd _ _ _ => true
  | .mtrPulseTimer _ => true
  | .sensorSample samples => distinct (samples.map fun e => e.1.val)
  | .throttleStep => true
  | .supplyComparatorTrip _ => true
  | .clockLoss => true
  | .lfXtal => true
  | .clerkWatchdog => true
  | .faultReport => true
  | .reportsLost => true
  | .logBlockSeal => true
  | .chmAck => true
  | .stagePlan => true
  | .testEngine => true
  | .testBank => true
  | .engineTestDone _ => true
  | .chmLogRead => true
  | .setStorm => true
  | .dozeOn => true
  | .dozeOff => true
  | .chmClose => true
  | .chmSettingsConfirm => true
  | .chmUnknownOp => true
  | .auxPowerUp => true
  | .firmwareRunning => true
  | .mainRailsInWindow => true
  | .openingStart => true
  | .openingCheckDone _ => true
  | .granuleZeroFillDone _ => true
  | .openingComplete => true
  | .warmOpeningComplete => true
  | .dozeEntryComplete => true
  | .dozeWake _ => true
  | .mainPowerRemoval => true
  | .closingHeadTimeout => true
  | .closingTestDone _ => true
  | .closingComplete => true
  | .usbAttach => true
  | .usbDetach => true
  | .usbBusReset => true
  | .sessionGapTimeout => true
  | .tapinFrameInvalid _ => true
  | .open_ _ => true
  | .shut _ => true
  | .ping _ => true
  | .info _ => true
  | .sensors _ => true
  | .history _ => true
  | .logRead _ _ _ => true
  | .ack _ _ => true
  | .journalRead _ _ _ _ => true
  | .patchBegin _ payload => payloadOk payload
  | .patchData _ payload => payloadOk payload
  | .patchEnd _ payload => payloadOk payload
  | .patchAbort _ => true
  | .planStage _ payload => payloadOk payload
  | .cardBegin _ payload => payloadOk payload
  | .cardData _ payload => payloadOk payload
  | .hold _ => true
  | .release _ => true
  | .close _ => true
  | .reboot _ payload => payloadOk payload
  | .test _ payload => payloadOk payload
  | .settingsConfirm _ => true
  | .readClear at_ size => at_.wf size && sizeOk size && !at_.isPoisoned
  | .functionReportsReady _ _ => true
  | .ringFetchTimeout _ => true
  | .auxPowerLoss => true

end Sys2Proof
end

