-- ==== Sys2Proof/Tests/Slice0.lean ====
section
/-!
SUPPORT. The model's own tests: ill-formed terms that the checks of WellFormed refuse, the values that the specification's own
tables give, and, for each statement with hypotheses, a concrete state and operands that meet the hypotheses of each of its
clauses.
-/
namespace Sys2Proof.Tests
open Sys2Proof Sys2Proof.Machine

-- One theorem at a time: each evaluates a state in the kernel, and many at once would need as many stacks.
set_option Elab.async false

/-! ### States -/

/-- Run with the shipped plan: bench 0 holds every unit, its link is up, its function is enabled and all that it holds has reported
ready. -/
def up : State :=
  { State.reset with
    mode := .run, perst := false, railsIn := true, clerkUp := true, slot := some 0, tbLf := false, armed := false
    links := [(0, { up := true, width := 4, rate := 5, l1 := false, sub := 0, l2 := false })]
    fns := [(0, { Fn.reset with memSpace := true, busMaster := true, ptmOn := true, msixOn := true, l1On := true })]
    regs := [(kBench 0 0x10, 0xFFFFFFFF), (kBench 0 0x14, 0xFFFF)] }

/-- A host's access in that state. -/
abbrev host : Requester := .host 0

/-- The same, with scene core 0 and line core 0 running at the start of their own memory. -/
def running : State :=
  (((up.wrN (kCore 0 4) 0).wrN (kCore 32 4) 0).wr64 (kWin 0 0) 0x2000000000).wr64 (kWin 32 0) 0x2001000000

/-- An access is served, as a check that evaluates. -/
def served (s : State) (b : BenchId) (a : Nat) : Bool :=
  (s.arrived (.host b)).hostGate b.val == .serve && !(s.arrived (.host b)).notReady b.val a
    && (match (s.arrived (.host b)).devAt b.val a with
      | .held => true
      | _ => false)

theorem served_holds {s : State} {b : BenchId} {a : Nat} (h : served s b a = true) : Served s (.host b) a := by
  simp only [served, Bool.and_eq_true, beq_iff_eq, Bool.not_eq_true'] at h
  obtain ⟨⟨h1, h2⟩, h3⟩ := h
  refine ⟨h1, h2, ?_⟩
  split at h3
  · assumption
  · exact absurd h3 (by decide)

/-- What a host's access finds in a state: it is served at an address, and more holds there. -/
structure Meets (s : State) (a : Nat) (p : Prop) : Prop where
  reach : Served s host a
  holds : p

theorem meets {s : State} {a : Nat} {p : Prop} (h : served s 0 a = true) (hp : p) : Meets s a p := ⟨served_holds h, hp⟩

/-- The same, with a plan that gives bench 0 sixteen rings. -/
def fewRings : State :=
  { up with plan := { shippedPlan with benches := [{ shippedPlan.bench 0 with rings := 16 }, absentBench, absentBench, absentBench] } }

/-- The state once the host's access has arrived. -/
def arr (s : State) : State := s.arrived host

/-! ### Queue, stores and accesses -/

theorem witness_CommandsLeaveTheQueue : ∃ t, exec (.tbTick) up = .next t := ⟨_, rfl⟩

theorem witness_StepsKeepTheStoresCanonical : State.reset.Canonical ∧ step State.reset = .next State.reset :=
  ⟨⟨by decide +kernel, by decide +kernel, by decide +kernel, by decide +kernel⟩, rfl⟩

theorem witness_OnlyTicksMoveTheTimeBase :
    Instr.hpdGlitch 0 ∉ [Instr.tbTick, .tbStep, .auxPowerUp, .auxPowerLoss] ∧ ∃ t, exec (.hpdGlitch 0) up = .next t :=
  ⟨by decide, _, rfl⟩

/-- A width of 3, and an address that is not aligned for 8 bytes. -/
theorem witness_EveryCommandCompletes :
    (¬((3 = 4 ∨ 3 = 8) ∧ 0 % 3 = 0) ∧ up.hostGate 0 = .serve)
    ∧ (¬((8 = 4 ∨ 8 = 8) ∧ (0x10004 : Addr).toNat % 8 = 0) ∧ { up with mode := .limp }.hostGate 0 = .limp)
    ∧ ((4 = 4 ∨ 4 = 8) ∧ (0x10004 : Addr).toNat % 4 = 0) := by
  and_intros <;> decide +kernel

/-- The first and the last byte of memory. -/
theorem witness_StoresReadBack :
    2 ^ 40 - 1 < 2 ^ 40 ∧ 0 < 2 ^ 40 ∧ ([0x11, 0x22] : List Byte).length ≤ 2 ^ 40
    ∧ (up.memStore (2 ^ 40 - 1) [0x11, 0x22]).byte 0 = 0x22 := by
  and_intros <;> decide +kernel

theorem witness_WritesFollowTheAccessCodes : 31 < 32 ∧ 0x0F0F0F0F &&& 0xF0 = 0 ∧ storeWord 0x00F0 0x00AF 15 0x0F 0xF0 = 0x5F := by
  and_intros <;> decide +kernel

theorem witness_ServedRegisterAccesses :
    Meets up (kCh 127 0) (0x3000000000 ≤ kCh 127 0 ∧ kCh 127 0 % 4 = 0)
    ∧ (running.halted 0 = false ∧ running.reach (.scene 0) (kHead 0 0x1004) 4 = .dev (kHead 0 0x1004)
      ∧ running.behindOwn (.scene 0) (kHead 0 0x1004) = none)
    ∧ ((arr up).hostGate 0 = .serve ∧ 0x10000 ≤ (0x100000 : Addr).toNat ∧ (0x100000 : Addr).toNat % 4 = 0
      ∧ bar0At 0 (0x100000 : Addr).toNat = some (0x3000000000 : Addr).toNat) := by
  and_intros <;> first | exact meets (by decide +kernel) (by decide +kernel) | decide +kernel

/-- The last byte of the 120 granules is inside, the next one is not; BAR2's 128 GiB end later. -/
theorem witness_Bar2ReachesTheGranules :
    ((arr (up.upset (some (0x1DFFFFFFFF, .corrected)))).hostGate 0 = .serve
      ∧ (arr (up.upset (some (0x1DFFFFFFFF, .corrected)))).notReady 0 0 = false ∧ (arr up).hostGate 0 = .serve ∧ (arr up).notReady 0 0 = false)
    ∧ (0x1DFFFFFFFF + (1 - 1) < (up.plan.bench 0).granules * 0x40000000 ∧ up.plan.granFirst 0 = 0
      ∧ up.assetHeld 0 0x1DFFFFFFFF = true ∧ 0x1DFFFFFFFF + 1 ≤ up.plan.bar2Size 0)
    ∧ (¬(0x1DFFFFFFFF + (2 - 1) < (up.plan.bench 0).granules * 0x40000000) ∧ 0x1DFFFFFFFF + 2 ≤ up.plan.bar2Size 0)
    ∧ ¬(0x1FFFFFFFFF + 2 ≤ up.plan.bar2Size 0) := by
  and_intros <;> decide +kernel

/-- Local ring 4,095 is the last one; with a bench that holds fewer, a doorbell past them has none. -/
theorem witness_DoorbellsSetTheRingIndex :
    ((arr up).hostGate 0 = .serve ∧ (arr up).notReady 0 0x3000000000 = false ∧ (arr up).ringOf 0 4095 = some 4095
      ∧ (0x7FF8 : Addr).toNat = 8 * 4095 ∧ (arr up).ringPort 4095 < 3)
    ∧ ((arr { up with ringNow := [(0, (0x300000, 0))] }).ringPort 0 = 3
      ∨ (arr { up with ringNow := [(0, (0x400000, 0))] }).ringPort 0 = 4)
    ∧ 5 ≤ (arr { up with ringNow := [(0, (0xFFFFFFFF, 0))] }).ringPort 0
    ∧ (arr fewRings).hostGate 0 = .serve ∧ (arr fewRings).notReady 0 0x3000000000 = false ∧ (arr fewRings).ringOf 0 16 = none
    ∧ ¬((2 = 4 ∨ 2 = 8) ∧ (0 : Addr).toNat % 2 = 0) := by
  and_intros <;> decide +kernel

/-! ### Links, rings, mailboxes, STOP and core control -/

/-- A bench reset is running, with a granule, a page and a workspace to fill. -/
def resetting : State :=
  { up with fns := [(0, { Fn.reset with resetting := true, fills := [.granule 0, .scratch 0, .workspace 31] })] }

theorem witness_BenchResets :
    up.configOpen 0 = true ∧ ({ up with fns := [(0, { Fn.reset with d3 := true })] }.fn 0).d3 = true ∧ (up.fn 0).d3 = false
    ∧ (up.plan.bench 0).present = true ∧ (resetting.fn 0).resetting = true ∧ (resetting.link (up.plan.bench 0).link).up = true
    ∧ FillUnit.granule 0 ∈ (resetting.fn 0).fills ∧ FillUnit.workspace 31 ∈ (resetting.fn 0).fills
    ∧ up.mode.mainOn = true ∧ (up.fn 0).resetting = false ∧ (up.plan.bench 0).rings ≠ 0 ∧ (up.plan.bench 0).carter ≠ 0
    ∧ (up.plan.bench 0).blockLend ≠ 0 ∧ nbit (up.plan.bench 0).sceneCores 31 = true ∧ up.coreWhole 31 = true
    ∧ up.fillHolds 0 (FillUnit.isWork 31) = false
    ∧ ({ resetting with openFills := [0] }.openingFill (.granule 0) = true ∧ resetting.openingFill (.granule 0) = false
      ∧ resetting.openingFill (.workspace 31) = false)
    ∧ (up.checking = false ∧ fnHeld (up.plan.bench 0) (.core 31) = true ∧ up.fnWhole 0 (.core 31) = true
      ∧ up.fnFilled 0 (.core 31) = true ∧ fnHeld (up.plan.bench 0) (.head 7) = true ∧ up.fnWhole 0 (.head 7) = true
      ∧ { up with ordered := [0] }.stepsDone 0 (fnStep (.head 7)) = true)
    ∧ { up with badHeads := [7] }.fnWhole 0 (.head 7) = false ∧ fnHeld absentBench .queue = false := by
  and_intros <;> decide +kernel

theorem witness_LinkEvents :
    ((up.link 0).up = true ∧ up.linkBenches 0 ≠ [] ∧ (∀ b ∈ up.linkBenches 0, (up.fn b).l1On = true)
      ∧ ∀ h, h < 8 → (up.head h).run = 0)
    ∧ { up with links := [] }.linksTrain = true ∧ { up with links := [] }.linkExists 0 = true
    ∧ ({ up with links := [] }.link 0).up = false ∧ (4 : Fin 5).val ≠ 0
    ∧ ({ up with links := [] }.trainedWidth 0 4 = some 4 ∧ { up with links := [], badLanes := 8 }.trainedWidth 0 4 = some 2
      ∧ { up with links := [], badLanes := 15 }.trainedWidth 0 4 = none)
    ∧ (up.fn 0).ecrcChk = false ∧ (¬∀ b ∈ up.linkBenches 0, (up.fn b).l12On = true) := by
  and_intros <;> decide +kernel

theorem witness_PtmAndMessages :
    ((arr up).hostGate 0 = .serve ∧ (arr up).bit (kBench 0 0x40) 0 = false ∧ ((arr up).fn 0).ptmOn = true ∧ (arr up).tbLf = false
      ∧ (arr up).rd (kBench 0 0x40) = up.rd (kBench 0 0x40))
    ∧ ((arr { up with tbLf := true }).hostGate 0 = .serve ∧ (arr { up with tbLf := true }).tbLf = true)
    ∧ ((up.setF (kBench 0 0x40) 31 16 100).fld (kBench 0 0x40) 31 16 ≠ 0
      ∧ (up.setF (kBench 0 0x40) 31 16 100).bit (kBench 0 0x40) 0 = false)
    ∧ ((up.setB (kBench 0 0x40) 0 true).bit (kBench 0 0x40) 0 = true ∧ ((up.setB (kBench 0 0x40) 0 true).fn 0).ptmOn = true)
    ∧ (up.configOpen 0 = true ∧ up.hostOpen 0 = true)
    ∧ (up.mode ≠ .noPower ∧ (BitVec.ofNat 7 up.plan.smbusAddr).toNat = up.plan.smbusAddr ∧ (0x3F : Byte).toNat < 0x40
      ∧ 0x40 ≤ (0x40 : Byte).toNat ∧ (BitVec.ofNat 7 (up.plan.smbusAddr + 1)).toNat ≠ up.plan.smbusAddr) := by
  and_intros <;> decide +kernel

theorem witness_RingControl :
    Meets up (kRing 4095 8) ((arr up).bit (kRing 4095 8) 31 = false ∧ (arr up).cached 4095 = [])
    ∧ Meets (up.setB (kRing 0 8) 31 true) (kRing 0 8) ((arr (up.setB (kRing 0 8) 31 true)).bit (kRing 0 8) 31 = true)
    ∧ Meets (up.setB (kRing 0 0x18) 3 true) (kRing 0 0x18)
      ((arr (up.setB (kRing 0 0x18) 3 true)).bit (kRing 0 0x18) 3 = true
        ∧ ((arr (up.setB (kRing 0 0x18) 3 true)).bit (kRing 0 8) 31 && (arr (up.setB (kRing 0 0x18) 3 true)).ringPortBad 0) = false) := by
  and_intros <;> first | exact meets (by decide +kernel) (by decide +kernel) | decide +kernel

/-- Ring 0 is enabled with an entry that waits, in the bench's own memory, or with bit 30 of the control word in host memory. -/
def ringFrom (control : Word) (base : Nat) : State :=
  { (up.wr (kRing 0 8) control).wrN (kRing 0 0xC) 1 with ringNow := [(0, (control, base))] }
def ringUp (control : Word) : State := ringFrom control 0x10000

theorem witness_RingFetches :
    (up.plan.ringBench 0 = some 0 ∧ (ringUp 0x80000000).ringFetching 0 = true ∧ (ringUp 0x80000000).ringRoom 0 0 = true
      ∧ (ringUp 0x80000000).ringHost 0 = false ∧ (ringUp 0x80000000).assetHeld 0 0x10000 = true
      ∧ (ringUp 0x80000000).marked 0x10000 64 = false ∧ ((ringUp 0x80000000).mark 0x10038).marked 0x10000 64 = true
      ∧ (((ringUp 0x80000000).ringNowOf 0).2 / 64 * 64 + 64 * ((ringUp 0x80000000).ringCons 0 % 2 ^ (ringUp 0x80000000).ringLog 0))
        % 2 ^ 40 = 0x10000)
    ∧ ((ringFrom 0x80000000 0x2000000000).ringFetching 0 = true
      ∧ 0x2000000000 ≤ (((ringFrom 0x80000000 0x2000000000).ringNowOf 0).2 / 64 * 64) % 2 ^ 40)
    ∧ ((ringUp 0xC0000000).ringFetching 0 = true ∧ (ringUp 0xC0000000).ringRoom 0 0 = true
      ∧ (ringUp 0xC0000000).ringHost 0 = true ∧ ((ringUp 0xC0000000).fn 0).busMaster = true)
    ∧ ({ ringUp 0xC0000000 with fns := [(0, { Fn.reset with memSpace := true })] }.fn 0).busMaster = false
    ∧ { ringUp 0xC0000000 with fns := [(0, { Fn.reset with memSpace := true })] }.ringFetching 0 = true := by
  and_intros <;> decide +kernel

/-- An entry for scene core 0 has been fetched, and the core runs; with FULL set, its MBOX_DONE asks for a completion. -/
def mailed : State :=
  { running.wr (kRing 0 8) 0x80000000 with ringNow := [(0, (0x80000000, 0))], ringCache := [(0, [List.replicate 64 0])] }
def mailFull (w : Word) : State := (running.setB (kWin 0 0x170) 31 true).wr (kWin 0 0x100) w

theorem witness_MailboxDeliveryAndDone :
    (mailed.halted 0 = false ∧ mailed.bit (kWin 0 0x170) 31 = false ∧ mailed.mode ≠ .hold ∧ mailed.mode.ringsRun = true
      ∧ mailed.plan.coreBench 0 = some 0 ∧ mailed.cached 0 = [List.replicate 64 0]
      ∧ mailed.pickRing (mailed.ringsWith fun g => mailed.ringPort g == 0 && mailed.ringTarget g == 0
          && mailed.plan.ringBench g == some 0) (mboxTurn 0) = some 0)
    ∧ ((mailFull 0).halted 0 = false ∧ (mailFull 0).bit (kWin 0 0x170) 31 = true ∧ (mailFull 0).bit (kWin 0 0x100) 8 = false)
    ∧ ((mailFull 0x100).bit (kWin 0 0x170) 31 = true ∧ (mailFull 0x100).bit (kWin 0 0x100) 8 = true
      ∧ (mailFull 0x100).halted 0 = false) := by
  and_intros <;> decide +kernel

theorem witness_StopCommandsStopAndLatch :
    (arr up).hostGate 0 = .serve ∧ (arr { up with mode := .limp }).hostGate 0 = .limp
    ∧ (0x7FFFFFFF : Word).getLsbD 31 = false ∧ (0x80000000 : Word).getLsbD 31 = true
    ∧ running.halted 0 = false ∧ ((up.setBlk 1 { Blk.reset with owner := some 0 }).blk 1).owner = some 0
    ∧ ((up.setBlk 1 { Blk.reset with owner := some 0 }).blk 1).dead = false := by
  and_intros <;> decide +kernel

theorem witness_StopReleaseAndCounts :
    ((arr up).hostGate 0 = .serve ∧ (1 : Word).getLsbD 0 = true ∧ (arr up).mode ≠ .limp ∧ (2 : Word).getLsbD 0 = false)
    ∧ (arr { up with mode := .limp }).hostGate 0 = .limp
    ∧ (up.setF (kStop 0 0x20) 23 16 255).fld (kStop 0 0x20) 23 16 ≠ (up.setF (kStop 0 0x20) 23 16 255).fld (kStop 0 0x20) 15 8
    ∧ (up.setF (kStop 0 0x20) 15 8 1).fld (kStop 0 0x20) 15 8 ≠ (up.setF (kStop 0 0x20) 15 8 1).fld (kStop 0 0x20) 7 0
    ∧ (∀ e, e < 2 → ((up.setF (kStop 0 0x20) 15 8 1).blk e).owner = some 0 →
      (up.setF (kStop 0 0x20) 15 8 1).bit (kBlk e 0x40) 28 = true → (up.setF (kStop 0 0x20) 15 8 1).blkBusy e = false) := by
  and_intros <;> decide +kernel

theorem witness_CoreControlCommands :
    Meets up (kCore 39 0) (coreNum (.line 7) < 40 ∧ (arr up).halted 39 = true ∧ (arr up).coreReady 39 = true
      ∧ (arr up).bit (kCore 39 4) 2 = false)
    ∧ Meets (up.setB (kCore 31 4) 2 true) (kCore 31 0) ((arr (up.setB (kCore 31 4) 2 true)).halted 31 = true
      ∧ (arr (up.setB (kCore 31 4) 2 true)).coreReady 31 = true ∧ (arr (up.setB (kCore 31 4) 2 true)).bit (kCore 31 4) 2 = true
      ∧ (arr (up.setB (kCore 31 4) 2 true)).coreNumBench 31 = some 0)
    ∧ Meets running (kCore 0 0) ((arr running).halted 0 = false) := by
  and_intros <;> first | exact meets (by decide +kernel) (by decide +kernel) | decide +kernel

/-- Line core 0 held for its beam, with a line boundary since it was started or none. -/
def held (frame moved : Bool) : State :=
  (running.setCore 32 { Core.reset with wait := .hold frame, moved := moved }).setHead 0 { Head.reset 0 with run := 2 }

/-- A halt with the highest code has been asked of scene core 0. -/
def haltAsked : State := running.setCore 0 { Core.reset with haltAsk := 255 }

theorem witness_HaltsLineStartsAndWindowWrites :
    (haltAsked.coreMode 0 = true ∧ haltAsked.halted 0 = false ∧ (haltAsked.core 0).haltAsk ≠ 0 ∧ (haltAsked.core 0).haltAsk < 256
      ∧ (haltAsked.core 0).wait.inside = false)
    ∧ ((held true true).coreMode 32 = true ∧ ((held true true).core 32).haltAsk = 0 ∧ ((held true true).core 32).wait = .hold true
      ∧ (held true true).halted 32 = false ∧ ((held true true).core 32).moved = true
      ∧ ((held false false).core 32).wait = .hold false ∧ ((held false false).core 32).moved = false)
    ∧ Meets up (kCore 0 (0x800 + 0x170)) (0x170 % 4 = 0 ∧ 0x170 < 0x174 ∧ (arr up).halted 0 = true)
    ∧ Meets up (kCore 39 (0x800 + 0xFC)) (0xFC < 0x100 ∧ (arr up).halted 39 = true)
    ∧ Meets running (kCore 0 0x800) ((arr running).halted 0 = false)
    ∧ Meets up (kCore (32 + 7) 0x24) True := by
  and_intros <;> first | exact meets (by decide +kernel) (by first | trivial | decide +kernel) | decide +kernel

/-! ### Pyriva instructions -/

/-- The guard of an instruction of scene core 0 that is always carried out, with a VAR. -/
def guard (v : BitVec 4) : Guard := { core := .scene 0, pred := 0, neg := false, var := v }
/-- A word-sized one. -/
def word : Guard := guard 2
/-- Register X0 to X7. -/
def xr (n : Nat) : Operand := { spec := BitVec.ofNat 16 (24 + n), ext := 0 }
/-- Where it lies. -/
def atX (n : Nat) : Loc := .place (0xFFFFFF0060 + 4 * n) (.window (0x60 + 4 * n))
/-- The core once it has begun. -/
def begun : State := running.begin_ 0

/-- In `s` an instruction with those operands begins, they are read, and whatever flags and results follow are accepted. -/
def Runs (s : State) (g : Guard) (parcels : List Bool) (order : List Slot) (writes : Nat → Nat → List (Option Nat)) : Prop :=
  ∃ locs u vals v, Begins s g parcels order locs u ∧ u.readAll g.core order locs = (vals, v)
    ∧ ∀ fl a b, ∃ w, Accepts v g order locs fl (writes a b) w

/-- Two sources and a destination, the second source being 0. -/
theorem runs_three (x : Slot) (hx : x ∈ [dstSlot 4 (xr 2), modSlot 4 (xr 2)]) :
    Runs running word (partsS word [srcSlot 4 (xr 0), srcSlot 4 (xr 1), x]) [srcSlot 4 (xr 0), srcSlot 4 (xr 1), x]
      fun a _ => [none, none, some a] := by
  simp only [List.mem_cons, List.not_mem_nil, or_false] at hx
  rcases hx with rfl | rfl <;>
  · refine ⟨[atX 0, atX 1, atX 2], begun, _, begun, ⟨by decide +kernel, by decide +kernel, by decide +kernel, rfl⟩, rfl, ?_⟩
    intro fl a b
    refine ⟨_, rfl, ?_⟩
    intro j hj
    cases fl <;> (change none = some j at hj; cases hj)

/-- A source and a destination. -/
theorem runs_two : Runs running word (partsS word [srcSlot 4 (xr 0), dstSlot 4 (xr 2)]) [srcSlot 4 (xr 0), dstSlot 4 (xr 2)]
    fun a _ => [none, some a] := by
  refine ⟨[atX 0, atX 2], begun, _, begun, ⟨by decide +kernel, by decide +kernel, by decide +kernel, rfl⟩, rfl, ?_⟩
  intro fl a b
  refine ⟨_, rfl, ?_⟩
  intro j hj
  cases fl <;> (change none = some j at hj; cases hj)

/-- Two sources and no destination. -/
theorem runs_test : Runs running word (partsS word [srcSlot 4 (xr 0), srcSlot 4 (xr 1)]) [srcSlot 4 (xr 0), srcSlot 4 (xr 1)]
    fun _ _ => [none, none] := by
  refine ⟨[atX 0, atX 1], begun, _, begun, ⟨by decide +kernel, by decide +kernel, by decide +kernel, rfl⟩, rfl, ?_⟩
  intro fl a b
  refine ⟨_, rfl, ?_⟩
  intro j hj
  cases fl <;> (change none = some j at hj; cases hj)

theorem witness_AddSubtractAndAccumulate :
    Runs running word (partsS word [srcSlot 4 (xr 0), srcSlot 4 (xr 1), dstSlot 4 (xr 2)])
      [srcSlot 4 (xr 0), srcSlot 4 (xr 1), dstSlot 4 (xr 2)] (fun a _ => [none, none, some a])
    ∧ Runs running word (partsS word [srcSlot 4 (xr 0), srcSlot 4 (xr 1), modSlot 4 (xr 2)])
      [srcSlot 4 (xr 0), srcSlot 4 (xr 1), modSlot 4 (xr 2)] (fun a _ => [none, none, some a])
    ∧ Runs running word (partsS word [srcSlot 4 (xr 0), dstSlot 4 (xr 2)]) [srcSlot 4 (xr 0), dstSlot 4 (xr 2)]
      (fun a _ => [none, some a])
    ∧ Runs running word (partsS word [srcSlot 4 (xr 0), srcSlot 4 (xr 1)]) [srcSlot 4 (xr 0), srcSlot 4 (xr 1)]
      fun _ _ => [none, none] :=
  ⟨runs_three _ (by simp), runs_three _ (by simp), runs_two, runs_test⟩

/-- X1 holds 1. -/
def oneX : State := running.wrN (kWin 0 0x64) 1

theorem witness_MultiplyDivideResults :
    Runs running word (partsS word [srcSlot 4 (xr 0), srcSlot 4 (xr 1), dstSlot 4 (xr 2)])
      [srcSlot 4 (xr 0), srcSlot 4 (xr 1), dstSlot 4 (xr 2)] (fun a _ => [none, none, some a])
    ∧ Runs running word (partsS word [srcSlot 4 (xr 0), dstSlot 4 (xr 2)]) [srcSlot 4 (xr 0), dstSlot 4 (xr 2)]
      (fun a _ => [none, some a])
    ∧ (∃ locs u vals v,
      let order := [srcSlot 4 (xr 0), srcSlot 4 (xr 1), dstSlot 4 (xr 2)]
      Begins oneX word (partsS word order) order locs u ∧ u.readAll word.core order locs = (vals, v) ∧ vals.getD 1 0 ≠ 0
        ∧ ∀ fl a, ∃ w, Accepts v word order locs fl [none, none, some a] w)
    ∧ (∃ locs u vals v,
      let order := [srcSlot 4 (xr 0), srcSlot 4 (xr 1), dstSlot 4 (xr 2)]
      Begins running word (partsS word order) order locs u ∧ u.readAll word.core order locs = (vals, v)
        ∧ vals.getD 1 0 = 0 ∧ running.bit (kWin 0 0xA0) 2 = false) := by
  refine ⟨runs_three _ (by simp), runs_two, ?_, ?_⟩
  · refine ⟨[atX 0, atX 1, atX 2], oneX.begin_ 0, _, oneX.begin_ 0,
      ⟨by decide +kernel, by decide +kernel, by decide +kernel, rfl⟩, rfl, by decide +kernel, ?_⟩
    intro fl a
    refine ⟨_, rfl, ?_⟩
    intro j hj
    cases fl <;> (change none = some j at hj; cases hj)
  · exact ⟨[atX 0, atX 1, atX 2], begun, _, begun, ⟨by decide +kernel, by decide +kernel, by decide +kernel, rfl⟩, rfl,
      by decide +kernel, by decide +kernel⟩

theorem witness_SaturatingAndLimitResults :
    Runs running word (partsS word [srcSlot 4 (xr 0), srcSlot 4 (xr 1), dstSlot 4 (xr 2)])
      [srcSlot 4 (xr 0), srcSlot 4 (xr 1), dstSlot 4 (xr 2)] (fun a _ => [none, none, some a]) :=
  runs_three _ (by simp)

/-- An absolute long address in the core's workspace. -/
def longAt : Operand := { spec := 0x4000, ext := 0x2000000100 }

/-- LEA, SWAP, CLR and ZXT from a byte to a word. -/
theorem witness_LogicAndMoveResults :
    Runs running word (partsS word [srcSlot 4 (xr 0), srcSlot 4 (xr 1), dstSlot 4 (xr 2)])
      [srcSlot 4 (xr 0), srcSlot 4 (xr 1), dstSlot 4 (xr 2)] (fun a _ => [none, none, some a])
    ∧ Runs running word (partsS word [srcSlot 4 (xr 0), dstSlot 4 (xr 2)]) [srcSlot 4 (xr 0), dstSlot 4 (xr 2)]
      (fun a _ => [none, some a])
    ∧ Runs running word (partsS word [srcSlot 4 (xr 0), srcSlot 4 (xr 1)]) [srcSlot 4 (xr 0), srcSlot 4 (xr 1)]
      (fun _ _ => [none, none])
    ∧ Runs running word (parcelsOf word.core (varBadS2 word.var) [srcSlot 1 (xr 0), dstSlot 4 (xr 2)])
      [srcSlot 1 (xr 0), dstSlot 4 (xr 2)] (fun a _ => [none, some a])
    ∧ Runs running (guard 0) (parcelsOf word.core (varBadN 0) [adrSlot 1 longAt, dstSlot 8 (xr 2)])
      [adrSlot 1 longAt, dstSlot 8 (xr 2)] (fun a _ => [none, some a])
    ∧ Runs running word (partsS word [modSlot 4 (xr 0), modSlot 4 (xr 2)]) [modSlot 4 (xr 0), modSlot 4 (xr 2)]
      (fun a b => [some a, some b])
    ∧ Runs running word (partsS word [dstSlot 4 (xr 2)]) [dstSlot 4 (xr 2)] (fun a _ => [some a])
    ∧ Runs running word (parcelsOf word.core false [dstSlot 4 (xr 2)]) [dstSlot 4 (xr 2)] (fun a _ => [some a]) := by
  refine ⟨runs_three _ (by simp), runs_two, runs_test, ?_, ?_, ?_, ?_, ?_⟩
  · refine ⟨[atX 0, atX 2], begun, _, begun, ⟨by decide +kernel, by decide +kernel, by decide +kernel, rfl⟩, rfl, ?_⟩
    intro fl a b
    refine ⟨_, rfl, ?_⟩
    intro j hj
    cases fl <;> (change none = some j at hj; cases hj)
  · refine ⟨[.addr 0x2000000100, atX 2], begun, _, begun, ⟨by decide +kernel, by decide +kernel, by decide +kernel, rfl⟩, rfl, ?_⟩
    intro fl a b
    refine ⟨_, rfl, ?_⟩
    intro j hj
    cases fl <;> (change none = some j at hj; cases hj)
  · refine ⟨[atX 0, atX 2], begun, _, begun, ⟨by decide +kernel, by decide +kernel, by decide +kernel, rfl⟩, rfl, ?_⟩
    intro fl a b
    refine ⟨_, rfl, ?_⟩
    intro j hj
    cases fl <;> (change none = some j at hj; cases hj)
  all_goals
    refine ⟨[atX 2], begun, _, begun, ⟨by decide +kernel, by decide +kernel, by decide +kernel, rfl⟩, rfl, ?_⟩
    intro fl a b
    refine ⟨_, rfl, ?_⟩
    intro j hj
    cases fl <;> (change none = some j at hj; cases hj)

theorem witness_ShiftAndRotateTable :
    Runs running word (partsS word [srcSlot 4 (xr 0), srcSlot 4 (xr 1), dstSlot 4 (xr 2)])
      [srcSlot 4 (xr 0), srcSlot 4 (xr 1), dstSlot 4 (xr 2)] (fun a _ => [none, none, some a]) :=
  runs_three _ (by simp)

theorem witness_BitFieldResults :
    Runs running word (partsS word [srcSlot 4 (xr 0), srcSlot 4 (xr 1), dstSlot 4 (xr 2)])
      [srcSlot 4 (xr 0), srcSlot 4 (xr 1), dstSlot 4 (xr 2)] (fun a _ => [none, none, some a])
    ∧ Runs running word (partsS word [srcSlot 4 (xr 0), srcSlot 4 (xr 1), modSlot 4 (xr 2)])
      [srcSlot 4 (xr 0), srcSlot 4 (xr 1), modSlot 4 (xr 2)] (fun a _ => [none, none, some a]) :=
  ⟨runs_three _ (by simp), runs_three _ (by simp)⟩

/-- CAS on the first word of the core's workspace. -/
theorem witness_CasPredicateAndCacheInstructions :
    (∃ locs u vals v,
      let three := [srcSlot 4 (xr 0), srcSlot 4 (xr 1), adrSlot 4 longAt]
      Begins running word (partsS word three) three locs u ∧ u.readAll word.core three locs = (vals, v) ∧ vals.getD 2 0 % 4 = 0
        ∧ (v.spendAll 0 4 three locs).coreTarget word.core (vals.getD 2 0) = .mem (vals.getD 2 0)
        ∧ 0x2000000000 ≤ vals.getD 2 0 ∧ vals.getD 2 0 < 0x2000400000
        ∧ (v.spendAll 0 4 three locs).marked (vals.getD 2 0) 4 = false)
    ∧ (∃ locs u vals v, Begins running word (parcelsOf word.core false [srcSlot 1 (xr 0)]) [srcSlot 1 (xr 0)] locs u
      ∧ u.readAll word.core [srcSlot 1 (xr 0)] locs = (vals, v))
    ∧ (∃ locs u vals v,
      let two := [adrSlot 1 longAt, srcSlot 4 (xr 0)]
      Begins running (guard 0) (parcelsOf word.core (varBadN 0) two) two locs u ∧ u.readAll word.core two locs = (vals, v))
    ∧ Runs running (guard 0) (parcelsOf word.core (varBadN 0) []) [] (fun _ _ => []) := by
  refine ⟨⟨[atX 0, atX 1, .addr 0x2000000100], begun, _, begun, ⟨by decide +kernel, by decide +kernel, by decide +kernel, rfl⟩,
      rfl, ?_⟩,
    ⟨[atX 0], begun, _, begun, ⟨by decide +kernel, by decide +kernel, by decide +kernel, rfl⟩, rfl⟩,
    ⟨[.addr 0x2000000100, atX 0], begun, _, begun, ⟨by decide +kernel, by decide +kernel, by decide +kernel, rfl⟩, rfl⟩,
    ⟨[], begun, _, begun, ⟨by decide +kernel, by decide +kernel, by decide +kernel, rfl⟩, rfl, ?_⟩⟩
  · and_intros <;> decide +kernel
  · intro fl a b
    refine ⟨_, rfl, ?_⟩
    intro j hj
    cases fl <;> (change none = some j at hj; cases hj)

/-- A branch that is always taken (7), one that never is with the flags 0 (0), a jump, a call, and DBNZ with a count of 1 and of
0. -/
theorem witness_FlowGoesWhereItSays :
    (∃ locs u vals v w, Begins running (guard 7) (parcelsOf word.core false [srcSlot 4 (xr 0)]) [srcSlot 4 (xr 0)] locs u
      ∧ u.readAll word.core [srcSlot 4 (xr 0)] locs = (vals, v) ∧ (v.writeAll word.core [srcSlot 4 (xr 0)] locs [none]).portStall 0 v = w
      ∧ condTrue 7 (v.rdN (kWin 0 0x20)) = true ∧ narrow 40 (Int.ofNat (running.pc 0) + sgn 32 (vals.getD 0 0)) % 2 = 0
      ∧ condTrue 0 (v.rdN (kWin 0 0x20)) = false)
    ∧ (∃ locs u vals v w,
      let two := [srcSlot 8 (xr 0), dstSlot 8 (xr 2)]
      Begins running (guard 0) (parcelsOf word.core (varBadN 0) two) two locs u ∧ u.readAll word.core two locs = (vals, v)
      ∧ (v.writeAll word.core two locs [none, some (running.nextPc (guard 0) (parcelsOf word.core (varBadN 0) two))]).portStall 0 v = w
      ∧ vals.getD 0 0 % 2 ^ 40 % 2 = 0)
    ∧ (∃ locs u vals v w,
      let two := [modSlot 4 (xr 1), srcSlot 4 (xr 0)]
      Begins oneX word (parcelsOf word.core (varBadS 2) two) two locs u ∧ u.readAll word.core two locs = (vals, v)
      ∧ (v.writeAll word.core two locs [some (narrow 32 (Int.ofNat (vals.getD 0 0) - 1)), none]).portStall 0 v = w
      ∧ narrow 32 (Int.ofNat (vals.getD 0 0) - 1) = 0)
    ∧ (∃ locs u vals v w,
      let two := [modSlot 4 (xr 1), srcSlot 4 (xr 0)]
      Begins running word (parcelsOf word.core (varBadS 2) two) two locs u ∧ u.readAll word.core two locs = (vals, v)
      ∧ (v.writeAll word.core two locs [some (narrow 32 (Int.ofNat (vals.getD 0 0) - 1)), none]).portStall 0 v = w
      ∧ narrow 32 (Int.ofNat (vals.getD 0 0) - 1) ≠ 0) := by
  refine ⟨⟨[atX 0], begun, _, begun, _, ⟨by decide +kernel, by decide +kernel, by decide +kernel, rfl⟩, rfl, rfl, ?_⟩,
    ⟨[atX 0, atX 2], begun, _, begun, _, ⟨by decide +kernel, by decide +kernel, by decide +kernel, rfl⟩, rfl, rfl, ?_⟩,
    ⟨[atX 1, atX 0], oneX.begin_ 0, _, oneX.begin_ 0, _, ⟨by decide +kernel, by decide +kernel, by decide +kernel, rfl⟩, rfl, rfl, ?_⟩,
    ⟨[atX 1, atX 0], begun, _, begun, _, ⟨by decide +kernel, by decide +kernel, by decide +kernel, rfl⟩, rfl, rfl, ?_⟩⟩
  all_goals (and_intros <;> decide +kernel)

/-- SRCP, DSTP and CNT name words of the core's workspace. -/
def streams (count : Nat) : State :=
  ((running.wr64 (kWin 0 8) 0x2000000200).wr64 (kWin 0 0x10) 0x2000000300).wrN (kWin 0 0x1C) count

/-- In `s` an instruction begins, its operands are read, and what it computes from them is accepted, as a check that evaluates. -/
def completes (s : State) (g : Guard) (parcels : List Bool) (order : List Slot) (f : (Nat → Nat) → Flags → Result) : Bool :=
  s.canRun g.core && ((s.begin_ (coreNum g.core)).fetchAll g.core (s.pc (coreNum g.core)) parcels 0).isNone
    && (s.begin_ (coreNum g.core)).guardTrue g
    && (match (s.begin_ (coreNum g.core)).operands g.core (s.pc (coreNum g.core)) order with
      | .error _ => false
      | .ok (locs, u) =>
        match u.readAll g.core order locs with
        | (vals, v) =>
          let r := f (fun k => vals.getD k 0) (flagsRead (v.rdN (kWin (coreNum g.core) 0x20)))
          ((((v.putFlags (coreNum g.core) r.flags).writeAll g.core order locs r.writes).portStall (coreNum g.core) v).core
            (coreNum g.core)).jump.all fun j => j % 2 == 0)

/-- What `Computes` asks of a state. -/
def Computable (s : State) (g : Guard) (parcels : List Bool) (order : List Slot) (f : (Nat → Nat) → Flags → Result) : Prop :=
  ∃ locs u vals v w, Begins s g parcels order locs u ∧ u.readAll g.core order locs = (vals, v)
    ∧ Accepts v g order locs (f (fun k => vals.getD k 0) (flagsRead (v.rdN (kWin (coreNum g.core) 0x20)))).flags
      (f (fun k => vals.getD k 0) (flagsRead (v.rdN (kWin (coreNum g.core) 0x20)))).writes w

theorem completes_holds {s : State} {g : Guard} {parcels : List Bool} {order : List Slot} {f : (Nat → Nat) → Flags → Result}
    (h : completes s g parcels order f = true) : Computable s g parcels order f := by
  simp only [completes, Bool.and_eq_true, Option.isNone_iff_eq_none] at h
  obtain ⟨⟨⟨h1, h2⟩, h3⟩, h4⟩ := h
  split at h4
  · cases h4
  · rename_i locs u heq
    refine ⟨locs, u, _, _, _, ⟨h1, h2, h3, heq⟩, rfl, rfl, ?_⟩
    intro j hj
    rw [hj] at h4
    simpa using h4

/-- A result that writes the first value read to the second operand; one that only compares. -/
def moves (x : Nat → Nat) (_ : Flags) : Result := { writes := [none, some (x 0)], flags := none, base := 1 }
def tests (_ : Nat → Nat) (f : Flags) : Result := { writes := [none, none], flags := some f, base := 1 }

theorem witness_StringInstructionResults :
    Computable (streams 1) word (partsS word []) [srcSlot 4 srcStream, dstSlot 4 dstStream] moves
    ∧ Computable (streams 1) word (partsS word [srcSlot 4 (xr 0)]) [srcSlot 4 (xr 0), dstSlot 4 dstStream] moves
    ∧ Computable (streams 1) word (partsS word [dstSlot 4 (xr 0)]) [srcSlot 4 srcStream, dstSlot 4 (xr 0)] moves
    ∧ Computable (streams 1) word (partsS word []) [srcSlot 4 srcStream, srcSlot 4 dstStream] tests
    ∧ Computable (streams 1) word (partsS word [srcSlot 4 (xr 0)]) [srcSlot 4 srcStream, srcSlot 4 (xr 0)] tests := by
  and_intros <;> exact completes_holds (by decide +kernel)

/-- An iteration completes, as a check that evaluates. -/
def iterates (s : State) (c : CoreId) (pc : Nat) (q : RepRec) : Bool :=
  match (s.setCore (coreNum c) { s.core (coreNum c) with cntHit := false }).operands c pc
      (stringOrder q.op (sizeOfVar q.var.toNat)) with
  | .error _ => false
  | .ok (locs, t) =>
    match t.operate c pc q.next (stringOrder q.op (sizeOfVar q.var.toNat)) locs (stringApply q.op (sizeOfVar q.var.toNat)) with
    | .error _ => false
    | .ok w => !(w.core (coreNum c)).cntHit

theorem iterates_holds {s : State} {c : CoreId} {pc : Nat} {q : RepRec} (h : iterates s c pc q = true) :
    ∃ w, Iterates s c pc q w := by
  unfold iterates at h
  split at h
  · cases h
  · rename_i locs t heq
    split at h
    · cases h
    · rename_i w hw
      exact ⟨w, locs, t, heq, hw, by simpa using h⟩

/-- The record of a repeated SCMP. -/
def repRec (mode : Nat) : RepRec := { op := .scmp, mode := mode, var := 2, next := 0x2000000004 }

/-- REP with CNT 0 and with CNT 1, and an iteration that stands between instructions. -/
theorem witness_RepeatRunsOneIteration :
    (nfld (0x0010 : Parcel).toNat 3 0 = 0 ∧ (0, Instr.rep word 0x10 (.str .smov))
      ∈ [(0, Instr.rep word 0x10 (.str .smov)), (1, .repm word 0x10 (.str .smov)), (2, .repd word 0x10 (.str .smov))])
    ∧ (∃ locs u, Begins (streams 0) word (repParcels word 0x10 (.str .smov)) [] locs u)
    ∧ ((((streams 0).begin_ 0).spend 0 1).setB (kWin 0 0x20) 4 false).rdN (kWin 0 0x1C) = 0
    ∧ (∃ locs u, Begins (streams 1) word (repParcels word 0x10 (.str .smov)) [] locs u)
    ∧ ((((streams 1).begin_ 0).spend 0 1).setB (kWin 0 0x20) 4 false).rdN (kWin 0 0x1C) ≠ 0
    ∧ (∃ w, Iterates ((((streams 1).begin_ 0).spend 0 1).setB (kWin 0 0x20) 4 false) word.core ((streams 1).pc 0)
      { op := .smov, mode := 0, var := 2, next := (streams 1).nextPc word (repParcels word 0x10 (.str .smov)) } w)
    ∧ (((streams 1).setCore 0 { Core.reset with rep := some (repRec 2) }).atBoundary word.core = true
      ∧ ∃ w, Iterates ((streams 1).setCore 0 { Core.reset with rep := some (repRec 2), late := false }) word.core
        ((streams 1).pc 0) (repRec 2) w) := by
  refine ⟨by and_intros <;> decide +kernel,
    ⟨[], _, ⟨by decide +kernel, by decide +kernel, by decide +kernel, rfl⟩⟩, by decide +kernel,
    ⟨[], _, ⟨by decide +kernel, by decide +kernel, by decide +kernel, rfl⟩⟩, by decide +kernel,
    iterates_holds (by decide +kernel), by decide +kernel, iterates_holds (by decide +kernel)⟩

/-- Source 5 is offered to scene core 0, which takes interrupts; line core 0 is late and traps; a double trap. -/
def interrupted : State := (running.setSrc 5 { Source.reset with st := .offered 0 }).setB (kWin 0 0xA0) 0 true
def lateLine : State := (running.setCore 32 { Core.reset with late := true }).setB (kCore 32 0x40) 0 true

theorem witness_TrapEntrySavesAndVectors :
    (∃ locs u vals v, Begins running (guard 0) (parcelsOf word.core (varBadN 0) [srcSlot 1 (xr 0)]) [srcSlot 1 (xr 0)] locs u
      ∧ u.readAll word.core [srcSlot 1 (xr 0)] locs = (vals, v)
      ∧ running.bit (kWin 0 0xA0) 2 = false)
    ∧ (interrupted.halted 0 = false ∧ interrupted.coreMode 0 = true ∧ (interrupted.core 0).haltAsk = 0
      ∧ (interrupted.core 0).wait = .none ∧ interrupted.intDue (.scene 0) = true)
    ∧ (lateLine.halted 32 = false ∧ lateLine.coreMode 32 = true ∧ (lateLine.core 32).haltAsk = 0
      ∧ (lateLine.core 32).wait = .none ∧ lateLine.lateDue 32 = true)
    ∧ (opcodeDefined (nfld (0x0FF0 : Parcel).toNat 11 4) = false ∧ running.canRun (.scene 0) = true
      ∧ (running.begin_ 0).fetchFault (.scene 0) (running.pc 0) (running.pc 0) = none ∧ running.bit (kWin 0 0xA0) 2 = false)
    ∧ (39 < 40 ∧ 8 ≠ 7 ∧ ((running.setB (kWin 39 0xA0) 2 true).core 39).wait ≠ .port
      ∧ (running.setB (kWin 39 0xA0) 2 true).bit (kWin 39 0xA0) 2 = true) := by
  refine ⟨⟨[atX 0], begun, _, begun, ⟨by decide +kernel, by decide +kernel, by decide +kernel, rfl⟩, rfl, by decide +kernel⟩, ?_⟩
  and_intros <;> decide +kernel

theorem witness_RettAndHaltLeave :
    (∃ locs u vals v, Begins running (guard 0) (parcelsOf word.core (varBadN 0) []) [] locs u
      ∧ u.readAll word.core [] locs = (vals, v)) ∧ running.rd64 (kWin 0 0x88) % 2 = 0 :=
  ⟨⟨[], begun, _, begun, ⟨by decide +kernel, by decide +kernel, by decide +kernel, rfl⟩, rfl⟩, by decide +kernel⟩

/-- The guard of an instruction of line core 0, and what waits may stand. -/
def lineGuard : Guard := { core := .line 0, pred := 0, neg := false, var := 0 }
def waits (c : Nat) (w : CoreWait) (moved : Bool := false) : State :=
  running.setCore c { Core.reset with wait := w, waitNext := 0x2001000002, moved := moved }

theorem witness_WaitsBeginAndComplete :
    (∃ locs u vals v, Begins running (guard 0) (parcelsOf word.core false []) [] locs u ∧ u.readAll word.core [] locs = (vals, v))
    ∧ (∃ locs u vals v, Begins running lineGuard (parcelsOf lineGuard.core (varBadN 0 || !isLine lineGuard.core) []) [] locs u
      ∧ u.readAll lineGuard.core [] locs = (vals, v))
    ∧ (∃ locs u vals v, Begins running lineGuard (parcelsOf lineGuard.core (varBadN 0 || !isLine lineGuard.core) [srcSlot 4 (xr 0)])
        [srcSlot 4 (xr 0)] locs u ∧ u.readAll lineGuard.core [srcSlot 4 (xr 0)] locs = (vals, v))
    ∧ ((interrupted.setCore 0 { Core.reset with wait := .wait }).waitFree 0 = true
      ∧ (interrupted.setCore 0 { Core.reset with wait := .wait }).wakeNow (.scene 0) = true)
    ∧ ((waits 0 .sync).waitFree 0 = true ∧ ((waits 0 .sync).core 0).wait = .sync ∧ (waits 0 .sync).writesDone (.scene 0) = true)
    ∧ ((waits 32 (.waitl 0)).waitFree 32 = true ∧ ((waits 32 (.waitl 0)).core 32).wait = .waitl ((waits 32 (.waitl 0)).head 0).line)
    ∧ (((waits 32 .waitn true).core 32).wait = .waitn ∧ ((waits 32 .waitn true).core 32).moved = true
      ∧ (waits 32 .waitn true).waitFree 32 = true)
    ∧ (((waits 32 (.waits 9 true) true).core 32).wait = .waits 9 true ∧ ((waits 32 (.waits 9 true) true).core 32).moved = true
      ∧ (waits 32 (.waits 9 true) true).waitFree 32 = true)
    ∧ (((waits 32 (.waits 0 true)).core 32).wait = .waits 0 true ∧ ((waits 32 (.waits 0 true)).core 32).moved = false
      ∧ 0 ≤ ((waits 32 (.waits 0 true)).head 0).span ∧ (waits 32 (.waits 0 true)).waitFree 32 = true)
    ∧ (((waits 0 (.fill 0)).core 0).wait = .fill 0 ∧ (waits 0 (.fill 0)).coreMode 0 = true
      ∧ (waits 0 (.fill 0)).marked 0 64 = false ∧ ((waits 0 (.fill 0)).mark 0x38).marked 0 64 = true) := by
  refine ⟨⟨[], begun, _, begun, ⟨by decide +kernel, by decide +kernel, by decide +kernel, rfl⟩, rfl⟩,
    ⟨[], running.begin_ 32, _, running.begin_ 32, ⟨by decide +kernel, by decide +kernel, by decide +kernel, rfl⟩, rfl⟩,
    ⟨[atX 0], running.begin_ 32, _, running.begin_ 32, ⟨by decide +kernel, by decide +kernel, by decide +kernel, rfl⟩, rfl⟩, ?_⟩
  and_intros <;> decide +kernel

/-! ### Time, Bellwire and interrupts -/

/-- Compare channel 63 is live and its C is the value that TB comes to next; capture channel 15 is enabled and holds `k` entries. -/
def timed (k : Nat) : State :=
  ((((({ up with tb := BitVec.ofNat 64 (2 ^ 64 - 1) }.setCmp 63 { Cmp.reset with live := true, heldLo := 7 }).wr64 (kCmp 63 0) 0).setB
    (kCap 15 0) 31 true).setCap 15 (List.replicate k (5, true))))

/-- Pin 95 is the input of capture channel 15, which takes the edges that `edge` says. -/
def capPin (edge : Nat) : State := ((up.setF (kPin 95) 31 28 2).setF (kPin 95) 3 0 15).setF (kCap 15 0) 29 28 edge

theorem witness_TimeCompareAndCapture :
    ((timed 0).tbLf = false ∧ (timed 0).mode ≠ .noPower ∧ ((timed 0).cmp 63).live = true ∧ ((timed 0).cmp 63).flight = []
      ∧ (timed 0).rd64 (kCmp 63 0) = ((timed 0).tb.toNat + 1) % 2 ^ 64)
    ∧ (State.reset.tbLf = true ∧ State.reset.mode ≠ .noPower ∧ State.reset.mode.lf = true)
    ∧ ({ up with tbLf := true }.mode.lf = false ∧ { up with tbLf := true }.mode ≠ .opening)
    ∧ (up.tbLf = false ∧ { up with mode := .hold }.mode.lf = true)
    ∧ Meets up 0x3003600000 True ∧ Meets up (kCmp 63 0) True ∧ Meets up (kCmp 63 4) True
    ∧ ((timed 3).plan.capBench 15).isSome = true ∧ (capPin 0).bit (kCap 15 0) 31 = false
    ∧ ((capPin 0).plan.cioBench 95 = (capPin 0).plan.capBench 15 ∧ (capPin 0).pinRole 95 = 2 ∧ (capPin 0).fld (kPin 95) 3 0 = 15
      ∧ (capPin 0).pinWorks 95 = true ∧ (capPin 0).bit (kCap 15 0) 30 = false ∧ (capPin 0).fld (kCap 15 0) 29 28 = 0)
    ∧ ((capPin 1).fld (kCap 15 0) 29 28 = 1 ∧ (capPin 2).fld (kCap 15 0) 29 28 = 2)
    ∧ (((capPin 2).setB (kCap 15 0) 31 true).bit (kCap 15 0) 31 = true ∧ (((capPin 2).setB (kCap 15 0) 31 true).cap 15).length < 4)
    ∧ ((timed 4).bit (kCap 15 0) 31 = true ∧ 4 ≤ ((timed 4).cap 15).length)
    ∧ (((timed 3).setB (kCap 15 0) 30 true).bit (kCap 15 0) 30 = true ∧ ((timed 3).cap 15).length < 4
      ∧ ∀ c, c < 128 → TaskInput.capture 15 ∉ (up.bell c).targets)
    ∧ TaskInput.capture 15 ∈ ((up.setBell 127 { Bell.reset with inFlight := true, targets := [.capture 15] }).bell 127).targets
    ∧ Meets (timed 4) (kCap 15 4) ((arr (timed 4)).cap 15 = (5, true) :: List.replicate 3 (5, true)
      ∧ (List.replicate 3 (5, true)).length < 4)
    ∧ Meets (timed 0) (kCap 15 4) ((arr (timed 0)).cap 15 = []) := by
  and_intros <;> first | exact meets (by decide +kernel) (by decide +kernel) | exact meets (by decide +kernel) trivial | decide +kernel

/-- Channel 127 is in flight towards an input, or at its end; one fire is held, or none. -/
def ringing (targets : List TaskInput) (held : Bool) : State :=
  (up.setB (kCap 15 0) 31 true).setBell 127 { Bell.reset with inFlight := true, targets := targets, held := held }

/-- The input of capture channel 15 waits to leave channel 127, which is busy. -/
def leaving : State := { ringing [.capture 15] false with routes := [((kCap 15 0, 0), some 127)] }

/-- Channel 127 is cut. -/
def cutOff : State := up.setB (kCh 127 4) 29 true

theorem witness_BellwireEvents :
    Meets up (kCh 127 0) (((arr up).plan.bellBench 127).isSome = true ∧ (arr up).plan.bellBench 127 = (arr up).benchOf host
      ∧ (arr up).bit (kCh 127 4) 29 = false ∧ ((arr up).bell 127).inFlight = false)
    ∧ Meets (ringing [] false) (kCh 127 0) ((arr (ringing [] false)).bit (kCh 127 4) 29 = false
      ∧ ((arr (ringing [] false)).bell 127).inFlight = true ∧ ((arr (ringing [] false)).bell 127).held = false)
    ∧ Meets (ringing [] true) (kCh 127 0) ((arr (ringing [] true)).bit (kCh 127 4) 29 = false
      ∧ ((arr (ringing [] true)).bell 127).inFlight = true ∧ ((arr (ringing [] true)).bell 127).held = true)
    ∧ Meets cutOff (kCh 127 0) ((arr cutOff).bit (kCh 127 4) 29 = true) ∧ Meets cutOff (kCh 127 4) True
    ∧ (((ringing [.capture 15] true).bell 127).inFlight = true ∧ ((ringing [.capture 15] true).bell 127).targets = .capture 15 :: []
      ∧ (ringing [.capture 15] true).inputReset (.capture 15) = false ∧ (ringing [.capture 15] true).bit (kCap 15 0) 31 = true
      ∧ ((ringing [.capture 15] true).cap 15).length < 4)
    ∧ (((ringing [] true).bell 127).inFlight = true ∧ ((ringing [] true).bell 127).targets = [])
    ∧ (((kCap 15 0, 0), some 127) ∈ leaving.routes ∧ 127 ∈ leaving.routeChans (kCap 15 0) 0 (some 127)
      ∧ 127 ∈ leaving.routeBusy ((kCap 15 0, 0), some 127)) := by
  and_intros <;> first | exact meets (by decide +kernel) (by decide +kernel) | exact meets (by decide +kernel) trivial | decide +kernel

/-- Source 244, GRANT of block engine 1 to bench 0, is enabled, in a state and with a level, and routed to the targets of a mask; scene
core 0 runs. -/
def asking (st : SrcState) (high : Bool) (low up_ : Nat) : State :=
  (((if high then running.setBlk 1 { Blk.reset with granted := 1 } else running).setSrc 244 { running.src 244 with st := st }).setB
    (kIc (0x2000 + 4 * 7)) 20 true).wrN (kIc (8 * 244)) low |>.wrN (kIc (8 * 244 + 4)) up_

/-- Scene core 0's access reaches the register there, as a check that evaluates. -/
def coreServed (s : State) (a : Nat) : Bool :=
  s.halted 0 == false && (match s.reach (.scene 0) a 4 with
    | .dev x => x == a
    | _ => false)

theorem core_served {s : State} {a : Nat} (h : coreServed s a = true) : Served s (.core (.scene 0)) a := by
  simp only [coreServed, Bool.and_eq_true, beq_iff_eq] at h
  refine ⟨h.1, ?_⟩
  have h2 := h.2
  split at h2
  · next x e => rw [e, beq_iff_eq.mp h2]
  · exact absurd h2 (by decide)

/-- Its hold-off of `at_`, in Idle. -/
def heldOff (at_ : Nat) : State := (asking .idle true 0 0).setSrc 244 { up.src 244 with holdoff := some at_ }

/-- Watch slot 63 watches source 223, compare channel 63, whose MATCH is high. -/
def watching (m : Mode) (l2 : Bool := false) : State :=
  { ((up.setB (kCmp 63 0x10) 31 true).setB (kCmp 63 8) 27 true).wrN (kIc (0x2400 + 4 * 63)) (2 ^ 31 + 223) with
    mode := m, links := [(0, { Link.reset with l2 := l2 })] }

theorem witness_InterruptSources :
    (((asking .idle true 0 0).src 244).st = .idle ∧ (asking .idle true 0 0).srcLevel 244 = true
      ∧ ((asking .idle true 0 0).src 244).holdoff = none)
    ∧ (((asking .pending false 0 0).src 244).st = .pending ∧ (asking .pending false 0 0).srcLevel 244 = false)
    ∧ (((asking (.offered 0) false 0 0).src 244).st = .offered 0 ∧ (asking (.offered 0) false 0 0).srcLevel 244 = false)
    ∧ ((asking .active true 0 0).src 244).st = .active
    ∧ (((asking .pending true 1 2).icWithdraw.src 244).st = .pending ∧ (asking .pending true 1 2).icWithdraw.srcEn 244 = true
      ∧ (asking .pending true 1 2).icWithdraw.eligible 244 ((((asking .pending true 1 2).icWithdraw.src 244).ptr + 0) % 37) = true
      ∧ (asking .pending true 1 2).icWithdraw.outbid 244 0 = false)
    ∧ (((asking .pending true 0 2).icWithdraw.src 244).st = .pending ∧ (asking .pending true 0 2).icWithdraw.srcEn 244 = true
      ∧ (asking .pending true 0 2).icWithdraw.eligible 244 ((((asking .pending true 0 2).icWithdraw.src 244).ptr + 33) % 37) = true
      ∧ ∀ i, i < 33 → (asking .pending true 0 2).icWithdraw.eligible 244 ((((asking .pending true 0 2).icWithdraw.src 244).ptr + i) % 37) = false)
    ∧ (targetOf (.scene 0) = some 0 ∧ Served (asking (.offered 0) true 1 0) (.core (.scene 0)) (kIc 0x2300)
      ∧ (asking (.offered 0) true 1 0).icWithdraw.offerFor 0 = some 244)
    ∧ Meets up (kIc 0x2300) True
    ∧ Meets (asking .active false 0 0) (kIc 0x2304) ((arr (asking .active false 0 0)).srcBench 244 = (arr (asking .active false 0 0)).benchOf host
      ∧ ((arr (asking .active false 0 0)).src 244).st = .active ∧ (arr (asking .active false 0 0)).srcLevel 244 = false)
    ∧ Meets (asking .active true 0 0) (kIc 0x2304) (((arr (asking .active true 0 0)).src 244).st = .active
      ∧ (arr (asking .active true 0 0)).srcLevel 244 = true)
    ∧ Meets up (kIc 0x2304) ((arr up).benchOf host ≠ none ∧ (arr up).srcBench 627 ≠ (arr up).benchOf host)
    ∧ Meets up (kIc 0x2304) (((arr up).src 0).st ≠ .active)
    ∧ (((heldOff 0).src 244).holdoff = some 0 ∧ 0 ≤ (heldOff 0).tb.toNat ∧ ((heldOff 0).src 244).st = .idle)
    ∧ Meets (heldOff 9) (kIc (0x2080 + 4 * 7)) ((arr (heldOff 9)).srcSeen ((arr (heldOff 9)).benchOf host) (32 * 7 + 20) = true
      ∧ ((arr (heldOff 9)).src 244).st = .idle ∧ ((arr (heldOff 9)).src 244).holdoff ≠ none ∧ (arr (heldOff 9)).srcLevel 244 = true
      ∧ (arr (heldOff 9)).srcSeen ((arr (heldOff 9)).benchOf host) (32 * 31 + 31) = false)
    ∧ Meets (asking .pending true 0 0) (kIc (0x2080 + 4 * 7)) (((arr (asking .pending true 0 0)).src 244).st = .pending)
    ∧ ((watching .doze).fld (kIc (0x2400 + 4 * 63)) 9 0 = 223 ∧ up.fld (kIc (0x2400 + 4 * 63)) 9 0 = 0)
    ∧ ((watching .doze).bit (kIc (0x2400 + 4 * 63)) 31 = true
      ∧ (watching .doze).srcLevel ((watching .doze).fld (kIc (0x2400 + 4 * 63)) 9 0) = true ∧ (watching .doze).mode = .doze)
    ∧ ((watching .standby true).bit (kIc (0x2400 + 4 * 63)) 31 = true
      ∧ (watching .standby true).srcLevel ((watching .standby true).fld (kIc (0x2400 + 4 * 63)) 9 0) = true
      ∧ (watching .standby true).mode = .standby ∧ (watching .standby true).wakePin = false
      ∧ ((watching .standby true).link 0).l2 = true)
    ∧ ((watching .standby).bit (kIc (0x2400 + 4 * 63)) 31 = true
      ∧ (watching .standby).srcLevel ((watching .standby).fld (kIc (0x2400 + 4 * 63)) 9 0) = true ∧ (watching .standby).mode = .standby
      ∧ ∀ l, l < 4 → ((watching .standby).link l).l2 = false) := by
  and_intros <;> first | decide +kernel | exact core_served (by decide +kernel) | exact meets (by decide +kernel) trivial | exact meets (by decide +kernel) (by decide +kernel)

/-! ### Cabinet I/O -/

/-- Pins 88 to 95, the last group, all have the function `f`, and the pin of IRQ has the edge function `e`. -/
def pinned (f e : Nat) : State :=
  (List.range 8).foldl (fun s i => s.wrN (kPin (88 + i)) (f * 2 ^ 28 + e * 2 ^ 12)) up

/-- Serial unit 11 in a mode, with what its FIFOs hold. -/
def serving (f : Nat) (tx : List Word) (rx : Nat) : State :=
  (pinned f 0).setSer 11 { Ser.reset with tx := tx, rx := List.replicate rx (7, true) }

theorem witness_PinsAndSerialUnits :
    Meets up (kPin 95) (((arr up).plan.cioBench 95).isSome = true ∧ (arr up).plan.cioBench 95 = (arr up).benchOf host)
    ∧ ((up.pin 95).level = false ∧ (up.pin 95).level ≠ true ∧ (pinned 0 5).fld (kPin 95) 14 12 = 5
      ∧ (pinned 0 3).fld (kPin 95) 14 12 = 3 ∧ (true != (pinned 0 3).bit (kPin 95) 17) = true
      ∧ (pinned 0 4).fld (kPin 95) 14 12 = 4 ∧ ((pinned 0 4).pin 95).level = false
      ∧ (((pinned 0 4).setPin 95 { Pin.reset with level := true }).pin 95).level ≠ false
      ∧ (false != ((pinned 0 4).setPin 95 { Pin.reset with level := true }).bit (kPin 95) 17) = false)
    ∧ Meets (serving 5 (List.replicate 15 1) 16) (kCio (0x1004 + 16 * 11)) (((arr (serving 5 (List.replicate 15 1) 16)).ser 11).tx.length < 16
      ∧ ((arr (serving 5 (List.replicate 15 1) 16)).ser 11).rx = (7, true) :: List.replicate 15 (7, true))
    ∧ Meets (serving 5 (List.replicate 16 1) 0) (kCio (0x1004 + 16 * 11)) (16 ≤ ((arr (serving 5 (List.replicate 16 1) 0)).ser 11).tx.length
      ∧ ((arr (serving 5 (List.replicate 16 1) 0)).ser 11).rx = [])
    ∧ ((serving 5 [1] 15).pinWorks (8 * 11) = true ∧ (serving 5 [1] 15).serMode 11 = 5 ∧ ((serving 5 [1] 15).ser 11).rx.length < 16
      ∧ ((serving 5 [1] 15).ser 11).tx = 1 :: [] ∧ (serving 5 [1] 15).serBusy 11 = true
      ∧ ((serving 5 [1] 15).setPin 91 { Pin.reset with level := true }).serBusy 11 = false)
    ∧ ((serving 5 [1] 15).pinRole (8 * 11 + 1) = 5 ∧ (serving 5 [1] 15).pinWorks (8 * 11 + 1) = true
      ∧ ((serving 5 [1] 15).setF (kPin 89) 31 28 0).pinRole (8 * 11 + 1) ≠ 5
      ∧ ((serving 5 [1] 15).setF (kPin 89) 31 28 0).serMode 11 = 5 ∧ (serving 7 [1] 15).pinRole (8 * 11 + 2) = 7
      ∧ (serving 7 [1] 15).pinWorks (8 * 11 + 2) = true)
    ∧ (up.pinWorks 95 = true ∧ (up.setF (kPin 95) 25 21 0).fld (kPin 95) 25 24 = 0 ∧ wfld 0x10000000 25 21 = (up.setF (kPin 95) 25 21 0).fld (kPin 95) 25 21)
    ∧ ((serving 6 [0x400] 15).pinWorks (8 * 11) = true ∧ ((serving 6 [0x400] 15).ser 11).tx ≠ [])
    ∧ (wfld 0x30000000 31 28 ≠ up.fld (kPin 95) 31 28 ∧ up.pinDrive 95 = .released
      ∧ (up.wrN (kPin 95) 0x10000000).pinDrive 95 = .level false)
    ∧ ((serving 5 [] 16).pinWorks (8 * 11) = true ∧ (serving 5 [] 16).serMode 11 = 5 ∧ 16 ≤ ((serving 5 [] 16).ser 11).rx.length)
    ∧ ((serving 7 [1] 15).pinWorks (8 * 11) = true ∧ (serving 7 [1] 15).serMode 11 = 7 ∧ ((serving 7 [1] 15).ser 11).rx.length < 16
      ∧ ((serving 7 [1] 15).ser 11).tx = 1 :: [])
    ∧ ((serving 6 [0x400] 15).pinWorks (8 * 11) = true ∧ (serving 6 [0x400] 15).serMode 11 = 6
      ∧ ((serving 6 [0x400] 15).ser 11).rx.length < 16 ∧ ((serving 6 [0x400] 15).ser 11).tx = 0x400 :: []
      ∧ (0x400 : Word).getLsbD 10 = true)
    ∧ ((serving 6 [0xA0] 15).serMode 11 = 6 ∧ ((serving 6 [0xA0] 15).ser 11).tx = 0xA0 :: [] ∧ (0xA0 : Word).getLsbD 10 = false) := by
  and_intros <;> first | decide +kernel | exact meets (by decide +kernel) (by decide +kernel)

/-- Meter 23 is in a phase with pulses left. -/
def metering (left phase : Nat) : State := up.setMtr 23 { left := left, phase := phase, through := none }

theorem witness_CountersMatricesAndMeters :
    ((pinned 8 0).pinRole (8 * 11 + 4) = 8 ∧ (pinned 8 0).pinWorks (8 * 11 + 4) = true ∧ ((pinned 8 0).qd 11).a = false
      ∧ ((pinned 8 0).qd 11).b = false ∧ (pinned 8 0).funcLevel 8 (8 * 11 + 4) = false ∧ (pinned 8 0).funcLevel 8 (8 * 11 + 5) = false
      ∧ ((pinned 8 0).setPin 92 { Pin.reset with level := true }).funcLevel 8 (8 * 11 + 4) = true
      ∧ ((pinned 8 0).setPin 93 { Pin.reset with level := true }).funcLevel 8 (8 * 11 + 5) = true)
    ∧ Meets up (kCio (0x2000 + 4 * 11)) True ∧ Meets up (kCio (0x2100 + 4 * 11)) True
    ∧ ((pinned 9 0).pinRole (8 * 11) = 9 ∧ (pinned 9 0).pinWorks (8 * 11) = true
      ∧ (((pinned 9 0).setMx 11 { a := false, b := false, cond := false, row := 3 }).mx 11).row < 4)
    ∧ Meets up (kCio (0x2200 + 4 * 23)) (((arr up).mtr 23).phase = 0 ∧ min 65535 (((arr up).mtr 23).left + (3 : Word).toNat % 65536) ≠ 0)
    ∧ Meets (metering 65535 2) (kCio (0x2200 + 4 * 23)) (((arr (metering 65535 2)).mtr 23).phase ≠ 0)
    ∧ ((metering 1 1).mtr 23).phase = 1 ∧ ((metering 1 2).mtr 23).phase = 2 := by
  and_intros <;> first | decide +kernel | exact meets (by decide +kernel) trivial | exact meets (by decide +kernel) (by decide +kernel)

/-! ### Block engines, Carter and memory -/

/-- Engine 1 with an owner, the benches that want it, and its STAT register. -/
def lent (owner : Option Nat) (want stat : Nat) : State :=
  (up.setBlk 1 { Blk.reset with owner := owner, want := want }).wrN (kBlk 1 0x40) stat

/-- Engine 1 of bench 0 is busy with an operation of one row: 4 bytes from 0x10000 to `dst`, a COPY (1) or a FILL (0) of bytes. -/
def working (op dst : Nat) : State :=
  (((lent (some 0) 0 0x80000000).wrN (kBlk 1 8) (op * 2 ^ 30 + 2 * 2 ^ 26)).wr64 (kBlk 1 0x10) 0x10000 |>.wr64 (kBlk 1 0x18) dst).wrN
    (kBlk 1 0x2C) 3

/-- A write to an address that is no bench's: past the 120 granules. -/
def past : Nat := 0x1E00000000

/-- Engine 1 aborts, or is in its dead time. -/
def blkLate (dead : Bool) (ending : Nat) : State :=
  (lent (some 0) 0 0x80000000).setBlk 1 { Blk.reset with owner := some 0, dead := dead, ending := ending }

/-- Block engine 1 and Carter channel 63 have been retired. -/
def retiredUnits (s : State) : State := { s with badUnits := [(6, 63), (7, 1)] }

theorem witness_BlockEngineOperations :
    Meets (lent none 0 0) (kBlk 1 0) ((arr (lent none 0 0)).benchOf host = some 0 ∧ ((arr (lent none 0 0)).blk 1).owner = none)
    ∧ Meets (lent (some 0) 0 0) (kBlk 1 0) (((arr (lent (some 0) 0 0)).blk 1).owner = some 0
      ∧ (arr (lent (some 0) 0 0)).blkBusy 1 = false ∧ ((arr (lent (some 0) 0 0)).blk 1).want % 16 = 0)
    ∧ Meets (lent (some 3) 0 0) (kBlk 1 0) (((arr (lent (some 3) 0 0)).blk 1).owner = some 3 ∧ 3 ≠ 0)
    ∧ Meets (lent (some 0) 0 0x80000000) (kBlk 1 0) (((arr (lent (some 0) 0 0x80000000)).blk 1).owner = some 0
      ∧ (arr (lent (some 0) 0 0x80000000)).blkBusy 1 = true)
    ∧ Meets (lent (some 0) 9 0) (kBlk 1 0) (((arr (lent (some 0) 9 0)).blk 1).want.testBit ((0 + 3) % 4) = true
      ∧ ∀ j, j < 3 → 1 ≤ j → ((arr (lent (some 0) 9 0)).blk 1).want.testBit ((0 + j) % 4) = false)
    ∧ Meets (lent (some 0) 0 0x80000000) (kBlk 1 4) ((arr (lent (some 0) 0 0x80000000)).blkBusy 1 = true
      ∧ ((arr (lent (some 0) 0 0x80000000)).blk 1).dead = false ∧ ((arr (lent (some 0) 0 0x80000000)).blk 1).ending = 0)
    ∧ Meets (lent (some 0) 0 0x10000000) (kBlk 1 4) ((arr (lent (some 0) 0 0x10000000)).benchOf host = some 0
      ∧ (arr (lent (some 0) 0 0x10000000)).blkBusy 1 = false ∧ (arr (lent (some 0) 0 0x10000000)).bit (kBlk 1 0x40) 28 = true)
    ∧ Meets (lent (some 0) 0 0) (kBlk 1 4) ((arr (lent (some 0) 0 0)).blkBusy 1 = false ∧ (arr (lent (some 0) 0 0)).bit (kBlk 1 0x40) 28 = false
      ∧ ((arr (lent (some 0) 0 0)).blkOp 1).badCfg = false)
    ∧ (7, 1) ∉ (arr (lent (some 0) 0 0)).badUnits ∧ (7, 1) ∉ (arr ((lent (some 0) 0 0).wrN (kBlk 1 8) 0xC0000000)).badUnits
    ∧ Meets (retiredUnits (lent (some 0) 0 0)) (kBlk 1 4) ((arr (retiredUnits (lent (some 0) 0 0))).bit (kBlk 1 0x40) 28 = false
      ∧ (7, 1) ∈ (arr (retiredUnits (lent (some 0) 0 0))).badUnits)
    ∧ Meets ((lent (some 0) 0 0).wrN (kBlk 1 8) 0xC0000000) (kBlk 1 4)
      (((arr ((lent (some 0) 0 0).wrN (kBlk 1 8) 0xC0000000)).blkOp 1).badCfg = true)
    ∧ Meets (blkLate true 0) (kBlk 1 4) ((arr (blkLate true 0)).blkBusy 1 = true ∧ ((arr (blkLate true 0)).blk 1).dead = true
      ∧ ((arr (blkLate true 0)).blk 1).ending = 0) := by
  and_intros <;> first | decide +kernel | exact meets (by decide +kernel) (by decide +kernel)

/-- The bytes that the piece in flight writes, and what it reads. -/
def piece (s : State) : Nat × Nat × Nat × List (Nat × Nat) :=
  let q := s.blk 1
  let o := s.blkOp 1
  let y := o.rowAt q.row
  ((o.dstRow y + (o.span y q.piece).1) % 2 ^ 40, (o.span y q.piece).1, (o.span y q.piece).2, o.sources y (o.span y q.piece).1 (o.span y q.piece).2)

theorem witness_BlockPieces :
    (((working 1 0x100FE).blk 1).owner = some 0 ∧ (working 1 0x100FE).blkBusy 1 = true ∧ ((working 1 0x100FE).blk 1).dead = false
      ∧ piece (working 1 0x100FE) = (0x100FC, 0, 4, [(0x10000, 4)]) ∧ (working 1 0x100FE).blkReach 0 0x100FC 4 = true
      ∧ (working 1 0x100FE).blkReach 0 0x10000 4 = true ∧ (working 1 0x100FE).marked 0x10000 4 = false
      ∧ ((working 1 0x100FE).blkOp 1).op = 1 ∧ ((working 1 0x100FE).blkOp 1).copyExact = true
      ∧ ((working 1 0x100FE).blk 1).piece + 1 = ((working 1 0x100FE).blkOp 1).pieces 0
      ∧ ((working 1 0x100FE).blk 1).row + 1 = ((working 1 0x100FE).blkOp 1).dh ∧ ((working 1 0x100FE).blk 1).ending = 0)
    ∧ (piece (working 0 past) = (past, 0, 4, []) ∧ (working 0 past).blkReach 0 past 4 = false)
    ∧ (((working 1 0x20000).mark 0x10000).blkReach 0 0x20000 4 = true
      ∧ piece ((working 1 0x20000).mark 0x10000) = (0x20000, 0, 4, [(0x10000, 4)])
      ∧ ((working 1 0x20000).mark 0x10000).blkReach 0 0x10000 4 = true ∧ ((working 1 0x20000).mark 0x10000).marked 0x10000 4 = true)
    ∧ up.mode ≠ .hold := by
  and_intros <;> decide +kernel

/-- Carter channel 63 in a state of its STATE field, with more of its own state. -/
def carter (st : Nat) (q : Chan) : State := (up.setF (kCar 63 0x18) 31 29 st).setChan 63 q

/-- A descriptor of 0x200 bytes at 0x20000 is awaited. -/
def awaiting (retries : Nat) (host_ : Nat) : State :=
  ((carter 1 { Chan.reset with await := 1, retries := retries }).wr64 (kCar 63 0x20) (0x20000 + host_)).memStore 0x20014 [0, 2]

/-- Source bytes are awaited, or have been written, from 0x30000 to 0x40000. -/
def moving (len issued done : Nat) (opts : Nat) : State :=
  (((carter 1 { Chan.reset with await := 2, len := len, issued := issued, done := done, src0 := 0x30000, dst0 := 0x40000 }).wr64
    (kCar 63 0x48) opts).wrN (kCar 63 0x40) 0x08000000)

/-- Carter channel 63 runs in Hold, with nothing outstanding. -/
def carHeld : State := { carter 1 Chan.reset with mode := .hold }

theorem witness_CarterChannels :
    Meets (carter 1 Chan.reset) (kCar 63 0) ((arr (carter 1 Chan.reset)).carState 63 = 1
      ∧ ((arr (carter 1 Chan.reset)).chan 63).latched = false ∧ ((arr (carter 1 Chan.reset)).chan 63).ending = 0)
    ∧ Meets (carter 2 Chan.reset) (kCar 63 0) ((arr (carter 2 Chan.reset)).carState 63 = 2)
    ∧ Meets up (kCar 63 0) ((arr up).carState 63 = 0 ∧ ((arr up).chan 63).latched = false ∧ (6, 63) ∉ (arr up).badUnits)
    ∧ Meets (retiredUnits up) (kCar 63 0) (((arr (retiredUnits up)).chan 63).latched = false ∧ (6, 63) ∈ (arr (retiredUnits up)).badUnits)
    ∧ Meets (carter 7 { Chan.reset with latched := true }) (kCar 63 0) ((arr (carter 7 { Chan.reset with latched := true })).carState 63 = 7
      ∧ ((arr (carter 7 { Chan.reset with latched := true })).chan 63).latched = true
      ∧ (arr (carter 7 { Chan.reset with latched := true })).plan.carterBench 63 = some 0)
    ∧ Meets (carter 1 { Chan.reset with issued := 1 }) (kCar 63 0) ((arr (carter 1 { Chan.reset with issued := 1 })).carState 63 = 1
      ∧ ((arr (carter 1 { Chan.reset with issued := 1 })).chan 63).done < ((arr (carter 1 { Chan.reset with issued := 1 })).chan 63).issued)
    ∧ Meets carHeld (kCar 63 0) ((arr carHeld).mode = .hold ∧ (arr carHeld).carState 63 = 1 ∧ ((arr carHeld).chan 63).reads = 0
      ∧ ((arr carHeld).chan 63).held = [] ∧ ((arr carHeld).chan 63).issued ≤ ((arr carHeld).chan 63).done)
    ∧ Meets (carter 3 { Chan.reset with await := 2 }) (kCar 63 0) ((arr (carter 3 { Chan.reset with await := 2 })).carState 63 = 3
      ∧ ((arr (carter 3 { Chan.reset with await := 2 })).chan 63).latched = false
      ∧ ((arr (carter 3 { Chan.reset with await := 2 })).chan 63).past = false
      ∧ ((arr (carter 3 { Chan.reset with await := 2 })).chan 63).await = 2
      ∧ (6, 63) ∉ (arr (carter 3 { Chan.reset with await := 2 })).badUnits)
    ∧ Meets (carter 3 { Chan.reset with past := true }) (kCar 63 0) (((arr (carter 3 { Chan.reset with past := true })).chan 63).past = true
      ∧ ((arr (carter 3 { Chan.reset with past := true })).chan 63).await ≠ 1)
    ∧ Meets (carter 4 Chan.reset) (kCar 63 0) ((arr (carter 4 Chan.reset)).carState 63 = 4) := by
  and_intros <;> first | decide +kernel | exact meets (by decide +kernel) (by decide +kernel)

/-- A transfer that is complete but for its last write, in a mode. -/
def written (m : Mode) : State := { moving 0x100 0x100 0 2 with mode := m }

theorem witness_CarterTransfers :
    ((awaiting 0 0).plan.carterBench 63 = some 0 ∧ (awaiting 0 0).carState 63 = 1 ∧ ((awaiting 0 0).chan 63).await = 1
      ∧ ((awaiting 0 0).chan 63).ending = 0 ∧ (awaiting 0 0).mode ≠ .hold ∧ (awaiting 0 0).rd64 (kCar 63 0x20) % 2 = 0
      ∧ (awaiting 0 0).rd64 (kCar 63 0x20) % 2 ^ 40 / 32 * 32 = 0x20000 ∧ (awaiting 0 0).plainHeld 0 0x20000 = true
      ∧ (awaiting 0 0).marked 0x20000 32 = false ∧ leNat ((((awaiting 0 0).bytes 0x20000 32).drop 20).take 4) = 0x200)
    ∧ (((awaiting 0 0).wr64 (kCar 63 0x20) past).rd64 (kCar 63 0x20) % 2 = 0 ∧ ((awaiting 0 0).wr64 (kCar 63 0x20) past).plainHeld 0 past = false)
    ∧ ((moving 0x100 0x80 0x80 0).plan.carterBench 63 = some 0 ∧ (moving 0x100 0x80 0x80 0).carState 63 = 1
      ∧ ((moving 0x100 0x80 0x80 0).chan 63).await = 2 ∧ (moving 0x100 0x80 0x80 0).rdN (kCar 63 0x40) / 2 ^ 30 = 0
      ∧ ((moving 0x100 0x80 0x80 0).chan 63).ending = 0 ∧ ((moving 0x100 0x80 0x80 0).chan 63).held = []
      ∧ ((moving 0x100 0x80 0x80 0).chan 63).issued < ((moving 0x100 0x80 0x80 0).chan 63).len
      ∧ (moving 0x100 0x80 0x80 0).plainHeld 0 0x30080 = true ∧ (moving 0x100 0x80 0x80 0).carChunk 63 = 0x80
      ∧ (moving 0x100 0x80 0x80 0).marked 0x30080 0x80 = false
      ∧ (∀ i, i < 0x80 → (moving 0x100 0x80 0x80 0).plainHeld 0 ((0x40080 + i) % 2 ^ 40) = true)
      ∧ ∀ i, i < 0x80 → ((moving 0x100 0x80 0x80 0).chan 63).byteOpen 0x08000000 (0x80 + i) = false)
    ∧ ((moving 0x100 0x80 0 0).carState 63 = 1 ∧ ((moving 0x100 0x80 0 0).chan 63).done < ((moving 0x100 0x80 0 0).chan 63).issued
      ∧ ((moving 0x100 0x80 0 0).chan 63).held = []
      ∧ ((moving 0x100 0x80 0 0).chan 63).issued < ((moving 0x100 0x80 0 0).chan 63).len ∧ ((moving 0x100 0x80 0 0).chan 63).ending = 0)
    ∧ ((written .run).carState 63 = 1 ∧ ((written .run).chan 63).issued = ((written .run).chan 63).len
      ∧ ((written .run).chan 63).done < ((written .run).chan 63).issued ∧ ((written .run).chan 63).held = []
      ∧ ((written .run).rd64 (kCar 63 0x48)).testBit 1 = true ∧ (written .run).mode ≠ .hold ∧ (written .hold).mode = .hold
      ∧ ((written .hold).chan 63).ending = 0)
    ∧ ((BusErr.poison, 6) ∈ [(BusErr.timeout, 3), (.refused, 4), (.poison, 6)] ∧ ((awaiting 0 1).fn 0).busMaster = true
      ∧ (awaiting 0 1).rd64 (kCar 63 0x20) % 2 = 1 ∧ ((awaiting 0 1).chan 63).retries < ((awaiting 0 1).setF (kCar 63 4) 15 13 7).fld (kCar 63 4) 15 13)
    ∧ ((awaiting 7 1).fld (kCar 63 4) 15 13 ≤ ((awaiting 7 1).chan 63).retries ∧ ((awaiting 7 1).chan 63).reads ≤ 1
      ∧ ((awaiting 7 1).chan 63).held = [] ∧ ((awaiting 7 1).chan 63).issued ≤ ((awaiting 7 1).chan 63).done) := by
  and_intros <;> decide +kernel

/-- Bench 0's march is in a phase, in its last granule; `ctl` and `stat` are MARCH_CTL and MARCH_STAT. -/
def marching (phase ctl stat : Nat) : State :=
  { (up.wrN (kMem 0 0x40) ctl).wrN (kMem 0 0x44) stat with marches := [(0, { phase := phase, gran := 119, ending := 0 })] }

/-- A rotation of bank 14, whose physical bank is 14, is in a phase. -/
def rotating (phase : Nat) : State := { up with rot := { phase := phase, bank := 14, old := 14, byWho := 0 } }

theorem witness_MemoryUpkeep :
    (up.mode = .run ∧ (∀ x, x < 4 → (up.march x).phase = 0) ∧ { up with scrubPos := 2 ^ 37 - 64 }.scrubPos % 64 = 0
      ∧ { up with scrubPos := 2 ^ 37 - 64 }.scrubPos < 2 ^ 37)
    ∧ State.reset.mode ≠ .run
    ∧ { up with retiring := [0x10000] }.retiring = 0x10000 :: []
    ∧ Meets up (kMemAll 0x40) ((arr up).benchOf host = some 0 ∧ (arr up).bit (kMem 0 0x44) 31 = false ∧ ((arr up).plan.bench 0).present = true
      ∧ (119 : Word).toNat % 128 < ((arr up).plan.bench 0).granules ∧ wfld (119 : Word) 29 28 < 2
      ∧ ((arr up).plan.bench 0).granules ≤ (120 : Word).toNat % 128 ∧ ((arr up).march 0).phase = 0)
    ∧ Meets (marching 1 0 0x80000000) (kMemAll 0x40) ((marching 1 0 0x80000000).benchOf host = some 0 ∧ (marching 1 0 0x80000000).bit (kMem 0 0x40) 31 = false
      ∧ ((arr (marching 1 0 0x80000000)).march 0).phase = 1 ∧ ((arr (marching 1 0 0x80000000)).march 0).ending = 0)
    ∧ (((marching 1 0 0).march 0).phase = 1 ∧ ((marching 1 0 0).march 0).ending = 0 ∧ ((marching 2 0 0).march 0).phase = 2)
    ∧ ((rotating 1).rot.phase = 1 ∧ (rotating 1).rot.bank < 15 ∧ (rotating 1).rot.old < 16 ∧ (rotating 2).rot.phase = 2) := by
  and_intros <;> first | decide +kernel | exact meets (by decide +kernel) (by decide +kernel)

/-! ### The Counting-House and modes -/

/-- A ring entry: OP, ARG, and its next three arguments. -/
def entry (op arg a n m : Nat) : List Byte :=
  leBytes 4 op ++ leBytes 4 arg ++ leBytes 8 a ++ leBytes 4 n ++ leBytes 4 m ++ List.replicate 40 0

/-- The entry waits at the Counting-House's port, in ring 4095 of bench 0. -/
def portWith (op arg a n m : Nat) : State :=
  { up.wrN (kRing 4095 8) 0x80200000 with
    ringNow := [(4095, (0x80200000, 0))], ringCache := [(4095, [entry op arg a n m])] }

/-- The same once the port has taken it. -/
def taken (s : State) : State := s.portTake 2 0 4095

/-- Only a bench that is not PLANNER, in the shipped plan. -/
def meek (s : State) : State :=
  { s with plan := { shippedPlan with
      benches := [{ shippedPlan.bench 0 with planner := false, heads := 0x7F }, absentBench, absentBench, absentBench] } }

/-- A bench record of a plan image (R560), field by field. -/
def imageBench (p : BenchPlan) : List Byte :=
  leBytes 1 ((if p.present then 1 else 0) + (if p.planner then 2 else 0) + (if p.scrub then 4 else 0)) ++ leBytes 1 (p.link + 4 * p.func)
    ++ leBytes 1 p.heads ++ [0] ++ leBytes 4 p.sceneCores ++ leBytes 4 p.scratchPages ++ leBytes 2 p.rings ++ leBytes 1 p.blockLend
    ++ leBytes 1 p.granules ++ leBytes 8 p.carter ++ leBytes 2 p.voiceFirst ++ leBytes 2 p.voiceCount ++ leBytes 1 p.toneFirst
    ++ leBytes 1 p.toneCount ++ [0, 0] ++ leBytes 8 p.mixBuses ++ leBytes 1 p.tdmPorts ++ List.replicate 7 0 ++ leBytes 8 p.cmp
    ++ leBytes 2 p.cap ++ List.replicate 6 0 ++ leBytes 16 p.bell ++ leBytes 12 p.cio ++ List.replicate 4 0
    ++ ((List.range 8).flatMap fun h => leBytes 2 (p.headBw.getD h 0)) ++ List.replicate 16 0

/-- The header of a plan image with a CRC, and its four records. -/
def image (p : Plan) (crc : Nat) : List Byte :=
  leBytes 4 0x504C414E ++ leBytes 2 p.version ++ leBytes 1 p.linkCfg ++ leBytes 1 p.linkClock ++ leBytes 1 p.smbusAddr
    ++ leBytes 1 p.houseGranules ++ leBytes 1 p.portASrc ++ leBytes 1 p.portBSrc ++ List.replicate 16 0 ++ leBytes 4 crc
    ++ (List.range 4).flatMap fun b => imageBench (p.bench b)

/-- A plan of one bench that holds 8 granules and nothing else; PLANNER or not. -/
def bare (planner : Bool) : Plan :=
  { shippedPlan with benches := [{ absentBench with present := true, planner := planner, granules := 8 }, absentBench, absentBench, absentBench] }

/-- A number evaluated before it is used. -/
def forced (c : Nat) (f : Nat → Nat) : Nat :=
  match c with
  | 0 => f 0
  | k + 1 => f (k + 1)

theorem forced_eq (c : Nat) (f : Nat → Nat) : forced c f = f c := by cases c <;> rfl

/-- The running register of CRC-32C, evaluated bit by bit. -/
def crcGo : List Byte → Nat → Nat
  | [], c => c
  | b :: t, c =>
    forced (crcBit (c ^^^ b.toNat)) fun c => forced (crcBit c) fun c => forced (crcBit c) fun c => forced (crcBit c) fun c =>
      forced (crcBit c) fun c => forced (crcBit c) fun c => forced (crcBit c) fun c => forced (crcBit c) fun c => crcGo t c

theorem crcGo_eq (bs : List Byte) (c : Nat) : bs.foldl crcByte c = crcGo bs c := by
  induction bs generalizing c with
  | nil => rfl
  | cons b t ih => simp only [List.foldl_cons, ih, crcGo, forced_eq, crcByte]

/-- Their images; the CRCs were computed by hand from R560's layout. -/
def goodImage : List Byte := image (bare true) 0x84093F92
def badImage : List Byte := image (bare false) 0xFB3A4A93

/-- The fields that an image gives, where its checks pass. -/
theorem image_holds {bs : List Byte} (h : bs.length = 544 ∧ atN bs 0 4 = 0x504C414E ∧ atN bs 4 2 = 1)
    (crc : crcGo (bs.take 28 ++ List.replicate 4 0 ++ bs.drop 32) 0xFFFFFFFF ^^^ 0xFFFFFFFF = atN bs 28 4)
    (port : atN bs 10 1 % 4 ≠ 3 ∧ atN bs 11 1 % 4 ≠ 3) :
    planOfImage bs = some
      { version := 1, linkCfg := atN bs 6 1 % 8, linkClock := atN bs 7 1, smbusAddr := atN bs 8 1, houseGranules := atN bs 9 1
        portASrc := atN bs 10 1, portBSrc := atN bs 11 1
        benches := (List.range 4).map fun b => benchOfImage ((bs.drop (32 + 128 * b)).take 128) } := by
  simp only [planOfImage, crc32c, crcGo_eq]
  exact if_pos ⟨h.1, h.2.1, h.2.2, crc.symm, port⟩

/-- R56, R57, R560: the image's plan has its granules and the house region's, and passes the checks. -/
theorem test_good_image : ∃ p, planOfImage goodImage = some p ∧ p.refusal = none ∧ p.houseGranules = 8 ∧ (p.bench 0).granules = 8 :=
  ⟨_, image_holds (by decide +kernel) (by decide +kernel) (by decide +kernel), by decide +kernel⟩

/-- R57, R560: a plan with no PLANNER fails the fifth check. -/
theorem test_bad_image : ∃ p, planOfImage badImage = some p ∧ p.refusal = some 5 :=
  ⟨_, image_holds (by decide +kernel) (by decide +kernel) (by decide +kernel), by decide +kernel⟩

/-- The bytes of an image that are not 0 stand in memory at 0x10000. -/
def imaged (bytes : List Byte) : State :=
  { portWith 2 0 0x10000 544 0 with mem := (bytes.zipIdx.filter fun e => e.1 != 0).map fun e => (0x10000 + e.2, e.1) }

/-- Log block 4 has been sealed. -/
def logged : State := { portWith 5 0 0x10000 4 1 with tally := { up.tally with logNo := 5 } }

theorem witness_ManagementCommands :
    ((portWith 1 7 0 0 0).clerkUp = true ∧ (portWith 1 7 0 0 0).portNext 2 = some (0, 4095, entry 1 7 0 0 0)
      ∧ (taken (portWith 1 7 0 0 0)).mode = .run ∧ entryOp (entry 1 7 0 0 0) = 1 ∧ entryArg (entry 1 7 0 0 0) = 7)
    ∧ (entryOp (entry 2 0 0x10000 544 0) = 2 ∧ (meek (portWith 2 0 0x10000 544 0)).portNext 2 = some (0, 4095, entry 2 0 0x10000 544 0)
      ∧ (taken (meek (portWith 2 0 0x10000 544 0))).planner 0 = false
      ∧ (taken { portWith 2 0 0x10000 544 0 with rot := { phase := 1, bank := 0, old := 0, byWho := 4 } }).testRuns = true
      ∧ (taken (portWith 2 0 (past - 543) 544 0)).planner 0 = true ∧ (taken (portWith 2 0 (past - 543) 544 0)).testRuns = false
      ∧ (taken (portWith 2 0 (past - 543) 544 0)).inGranules 0 (past - 543) (min 544 544) = false)
    ∧ (taken (imaged goodImage)).inGranules 0 0x10000 544 = true ∧ (taken (imaged goodImage)).marked 0x10000 544 = false
    ∧ (taken (imaged goodImage)).bytes 0x10000 544 = goodImage ∧ (taken (imaged badImage)).bytes 0x10000 544 = badImage
    ∧ (entryOp (entry 3 8 0 0 0) = 3 ∧ 8 ≤ entryArg (entry 3 8 0 0 0) ∧ (taken (meek (portWith 3 7 0 0 0))).plan.headBench 7 ≠ some 0
      ∧ (taken (portWith 3 7 0 0 0)).plan.headBench 7 = some 0 ∧ (taken (portWith 3 7 0 0 0)).engineBusy = false
      ∧ (taken { portWith 3 7 0 0 0 with rot := { phase := 1, bank := 0, old := 0, byWho := 4 } }).engineBusy = true)
    ∧ (entryOp (entry 4 14 0 0 0) = 4 ∧ 15 ≤ entryArg (entry 4 15 0 0 0) ∧ entryArg (entry 4 14 0 0 0) < 15
      ∧ (taken (portWith 4 14 0 0 0)).planner 0 = true ∧ (taken (portWith 4 14 0 0 0)).testRuns = false
      ∧ (taken (portWith 4 14 0 0 0)).noSpare = false)
    ∧ (logged.portNext 2 = some (0, 4095, entry 5 0 0x10000 4 1) ∧ (taken logged).inGranules 0 0x10000 4096 = true
      ∧ (taken logged).logHas 4 = true ∧ (taken (portWith 5 0 0x10000 5 1)).logHas 5 = false)
    ∧ (entryOp (entry 6 999 0 0 0) = 6 ∧ entryArg (entry 6 999 0 0 0) < 1000 ∧ 100000000 < entryArg (entry 6 100000001 0 0 0)
      ∧ 1000 ≤ entryArg (entry 6 1000 0 0 0) ∧ entryArg (entry 6 100000000 0 0 0) ≤ 100000000)
    ∧ (entryOp (entry 7 16 0 0 0) = 7 ∧ entryArg (entry 7 16 0 0 0) % 16 = 0 ∧ entryArg (entry 7 1 0 0 0) % 16 = 1
      ∧ entryArg (entry 7 2 0 0 0) % 16 = 2 ∧ 3 ≤ entryArg (entry 7 3 0 0 0) % 16)
    ∧ ((taken (portWith 7 2 0 0 0)).planner 0 = true ∧ (taken (portWith 7 2 0 0 0)).testRuns = false
      ∧ (taken (portWith 7 2 0 0 0)).after = none ∧ (taken (portWith 7 2 0 0 0)).dozeAsk = false
      ∧ (taken { portWith 7 2 0 0 0 with dozeAsk := true }).dozeAsk = true
      ∧ (taken { portWith 7 2 0 0 0 with after := some (.closeEntry 4095 []) }).after ≠ none)
    ∧ entryOp (entry 8 0 0 0 0) = 8 ∧ entryOp (entry 0 0 0 0 0) = 0 ∧ 8 < entryOp (entry 9 0 0 0 0)
    ∧ ({ (up.setHead 7 { up.head 7 with engine := 8 }) with jm := { up.jm with testing := some 7, handOver := none } }.jm.testing = some 7
      ∧ ({ (up.setHead 7 { up.head 7 with engine := 8 }) with jm := { up.jm with testing := some 7, handOver := none } }.head 7).engine = 8) := by
  and_intros <;> decide +kernel

/-- A tally with a waiting report at the head of so many, and whether it was lost. -/
def reporting (n : Nat) (lost : Bool) (lostSyn : Nat) : State :=
  { up with tally := { up.tally with
      lostSyn := lostSyn
      reports := List.replicate n { tb := 3, cls := 9, source := 0x0900, scope := 7, syn := 9, lost := lost } } }

/-- A report of a class from a source waits, in a mode. -/
def told (cls source scope : Nat) (m : Mode := .run) (step : Nat := 0) : State :=
  { up with mode := m, closeStep := step, tally := { up.tally with
      reports := [{ tb := 3, cls := cls, source := source, scope := scope, syn := 0, lost := false }] } }

/-- UNIT_STATE of a block engine has an open record, so that a repeat steps up. -/
def again : State :=
  { told 0x14 0x0701 0 with tally := { (told 0x14 0x0701 0).tally with
      records := [{ tb := 1, seq := 7, cls := 0x14, source := 0x0701, scope := 0, syn := 0, level := 2, esc := false, acked := false, tracked := true }] } }

theorem witness_SensorsAndTally :
    (up.mode ≠ .noPower ∧ sensorKind 0 ≠ 0 ∧ up.sampleBad 0 (0x1900 : BitVec 16).toNat = false ∧ (up.sense.samples.find? fun e => e.1 == 0) = none)
    ∧ ({ up with sense := { up.sense with throttle := 1, words := [(7, 100 * 128)] } }.sense.throttle ≠ 0
      ∧ { up with sense := { up.sense with throttle := 1, words := [(7, 100 * 128)] } }.wordAtLeast 7 (100 * 128) = true)
    ∧ up.sense.throttle = 0
    ∧ ((0x13 ≤ (0x1F : Fin 64).val ∧ (0x1F : Fin 64).val ≤ 0x1F) ∧ up.railOn 0x1F = true ∧ State.reset.railOn 0x1F = true
      ∧ (0x11 : Fin 64).val ∈ [0x10, 0x11] ∧ up.perst = false ∧ up.railOn 0x11 = true)
    ∧ (up.mode.mainOn = true ∧ up.mode ≠ .doze) ∧ up.sense.xtalMain = false ∧ up.slot ≠ none
    ∧ ((reporting 1 false 0).tally.reports = { tb := 3, cls := 9, source := 0x0900, scope := 7, syn := 9, lost := false } :: []
      ∧ (reporting 1 false 0).tally.levelOf 9 0x0900 ≤ 1 ∧ (reporting 1 false 0).after = none)
    ∧ ((told 0x14 0x0701 0).tally.levelOf 0x14 0x0701 = 2 ∧ ((told 0x14 0x0701 0).fn 0).resetting = false
      ∧ (told 0x14 0x0701 0).mode ≠ .limp ∧ (told 0x14 0x0701 0 .limp).mode = .limp)
    ∧ (again.tally.levelOf 0x14 0x0701 = 3 ∧ (again.fn 0).resetting = false ∧ again.mode ≠ .limp
      ∧ nbit (again.plan.bench 0).blockLend 1 = true ∧ 0 ∈ again.benches)
    ∧ (told 0x10 0x011F 7).tally.levelOf 0x10 0x011F = 3 ∧ (told 0x10 0x0307 7).tally.levelOf 0x10 0x0307 = 3
    ∧ (((told 0x10 0x0307 7).head 7).engine ≠ 8 ∧ (told 0x10 0x0307 7).jm.handOver ≠ some 7)
    ∧ ((told 0x17 0x0C00 7).tally.levelOf 0x17 0x0C00 = 4 ∧ (told 0x17 0x0C00 7).mode ∈ [Mode.opening, .run, .doze, .hold]
      ∧ (told 0x17 0x0C00 7).mode = .run ∧ (told 0x17 0x0C00 7).dozeAsk = false
      ∧ (((told 0x17 0x0C00 7).setHead 7 { Head.reset 7 with run := 2 }).head 7).run = 2)
    ∧ ((told 0x17 0x0C00 7 .closing 1).mode = .closing ∧ (told 0x17 0x0C00 7 .closing 1).closeStep = 1
      ∧ (told 0x17 0x0C00 7 .closing 2).closeStep = 2)
    ∧ up.tally.reports = [] ∧ up.tally.lostSyn = 0
    ∧ (256 ≤ ((reporting 256 false 5).tally.reports.filter fun r => !r.lost).length ∧ (reporting 256 false 5).tally.lostSyn ≠ 0)
    ∧ ((reporting 255 false 5).tally.lostSyn ≠ 0 ∧ ¬256 ≤ ((reporting 255 false 5).tally.reports.filter fun r => !r.lost).length)
    ∧ up.tally.logOpen = [] ∧ { up with tally := { up.tally with logOpen := [List.replicate 32 0] } }.tally.logOpen ≠ [] := by
  and_intros <;> decide +kernel

/-- Standby, with the main rails in their windows and the Clerk's firmware running. -/
def ready : State := { State.reset with perst := false, railsIn := true, clerkUp := true, slot := some 0, armed := true }

/-- An opening at a step; warm or not. -/
def openingAt (warm : Bool) (step : Nat) : State := { up with mode := .opening, warm := warm, closeStep := step }

theorem witness_PowerUpAndOpening :
    State.reset.perst = true ∧ (up.perst = false ∧ up.mode = .run)
    ∧ (ready.perst = false ∧ ready.mode = .standby ∧ { ready with staged := some (bare true) }.staged = some (bare true))
    ∧ { up with mode := .closing }.mode = .closing ∧ { up with mode := .noPower }.mode = .noPower
    ∧ ({ State.reset with slot := some 1 }.slot = some 1 ∧ { State.reset with slot := some 1 }.clerkUp = false ∧ State.reset.mode ≠ .noPower)
    ∧ State.reset.railsIn = false
    ∧ (ready.armed = true ∧ ready.railsIn = true ∧ ready.clerkUp = true ∧ ready.serviceAsk = false
      ∧ { ready with serviceAsk := true }.serviceAsk = true)
    ∧ ((openingAt false 0).mode = .opening ∧ (openingAt false 0).warm = false ∧ (openingAt false 0).closeStep = 0)
    ∧ ({ resetting with openFills := [0] }.openFills = (0 : Fin 128).val :: [] ∧ { resetting with openFills := [0] }.mode.mainOn = true
      ∧ { resetting with openFills := [0] }.checking = false ∧ resetting.plan.granBench (0 : Fin 128).val = some 0
      ∧ (0 : Nat) ≠ (1 : Fin 128).val ∧ up.openFills = [])
    ∧ ((openingAt false 1).mode = .opening ∧ (openingAt false 1).warm = false ∧ (openingAt false 1).closeStep = 1)
    ∧ ((openingAt true 0).mode = .opening ∧ (openingAt true 0).warm = true) := by
  and_intros <;> decide +kernel

theorem witness_DozeClosingAndPowerLoss :
    ({ up with dozeAsk := true }.dozeAsk = true ∧ up.mode = .run ∧ (∀ h, h < 8 → (up.head h).run = 0) ∧ up.wakeAsk = none
      ∧ (∀ c, c < 64 → up.carState c ≠ 2) ∧ (∀ e, e < 2 → up.blkBusy e = false) ∧ up.after = none
      ∧ ((up.setHead 7 { Head.reset 7 with run := 2 }).head 7).run ≠ 0 ∧ (carter 2 Chan.reset).carState 63 = 2
      ∧ (lent (some 0) 0 0x80000000).blkBusy 1 = true
      ∧ { up with dozeAsk := true, wakeAsk := some (5, 63) }.wakeAsk = some (5, 63))
    ∧ ((watching .doze).mode = .doze ∧ { watching .doze with wakeAsk := some (5, 63) }.wakeAsk = some (5, 63)
      ∧ { watching .doze with perst := true }.perst = true ∧ (watching .doze).wakeAsk = none)
    ∧ up.mode ≠ .doze ∧ ({ up with perst := true }.mode.mainOn = true ∧ { up with perst := true }.perst = true)
    ∧ State.reset.mode.mainOn = false
    ∧ ({ up with mode := .closing, closeStep := 1 }.closeStep = 1 ∧ { up with mode := .closing, closeStep := 2 }.closeStep = 2)
    ∧ ({ up with mode := .limp }.mode = .limp ∧ { up with mode := .closing }.mode = .closing ∧ { up with mode := .opening }.mode = .opening)
    ∧ ({ up with mode := .closing, closeStep := 3 }.mode = .closing ∧ { up with mode := .closing, closeStep := 3 }.closeStep = 3) := by
  and_intros <;> decide +kernel

/-! ### The service port -/

/-- A frame of session 65,535. -/
def frame : Frame := { session := 65535, tag := 9 }

/-- The port with a session and a command in progress or none, in a mode. -/
def plugged (m : Mode) (session : Option Nat) (waiting : Option Frame) : State :=
  { up with mode := m, port := { up.port with attached := true, session := session, waiting := waiting } }

/-- The frame's session is open. -/
abbrev open_ (m : Mode) : State := plugged m (some 65535) none

theorem serves {s : State} {modes : PortModes} (h1 : s.mode ≠ .noPower ∧ s.port.attached = true ∧ modes.has s.mode = true)
    (h2 : s.portWake.portBusy = false ∧ s.portWake.port.session = some 65535) : PortServes s frame modes :=
  ⟨h1.1, h1.2.1, h1.2.2, h2.1, h2.2⟩

/-- A transfer of 20 bytes in session 65,535 with a CMD that R550 does not list, and a CRC. -/
def transfer (cmd crc : Nat) : List Byte :=
  leBytes 2 0x5054 ++ [1, 1] ++ leBytes 2 cmd ++ leBytes 2 9 ++ leBytes 2 65535 ++ leBytes 2 0 ++ leBytes 4 0 ++ leBytes 4 crc

/-- A field of it. -/
def fieldOf (t : List Byte) (i n : Nat) : Nat := leNat ((t.drop i).take n)

/-- Its CRC is the one of R546. -/
theorem transfer_crc (cmd crc : Nat) (h : crcGo ((transfer cmd crc).take 16) 0xFFFFFFFF ^^^ 0xFFFFFFFF = crc)
    (field : fieldOf (transfer cmd crc) 16 4 = crc) : fieldOf (transfer cmd crc) 16 4 = crc32c ((transfer cmd crc).take 16) := by
  rw [field]
  simp only [crc32c, crcGo_eq]
  exact h.symm

theorem witness_ServiceSessions :
    up.mode ≠ .noPower ∧ up.portBusy = false ∧ (plugged .run none (some frame)).portBusy = true
    ∧ { up with after := some (.hold frame) }.portBusy = true
    ∧ ((open_ .run).mode ≠ .noPower ∧ (open_ .run).port.attached = true ∧ (open_ .run).port.session = some 65535)
    ∧ PortServes (open_ .doze) frame .every ∧ PortServes (open_ .run) frame .every
    ∧ ((plugged .doze none none).port.attached = true ∧ (plugged .doze none none).portWake.port.session = none
      ∧ (plugged .doze none none).portWake.portBusy = false)
    ∧ (open_ .run).portWake.port.session ≠ none
    ∧ ((plugged .run none (some frame)).port.attached = true ∧ (plugged .run none (some frame)).portWake.portBusy = true)
    ∧ (plugged .run (some 1) none).portWake.port.session ≠ some frame.session.toNat
    ∧ ((open_ .run).portWake.portBusy = false ∧ (open_ .run).portWake.port.session = some frame.session.toNat ∧ (open_ .run).mode ≠ .hold)
    ∧ ((transfer 0xFFFF 0x185f0ce3).length = 20 ∧ fieldOf (transfer 0xFFFF 0x185f0ce3) 0 2 = 0x5054 ∧ fieldOf (transfer 0xFFFF 0x185f0ce3) 2 1 = 1
      ∧ fieldOf (transfer 0xFFFF 0x185f0ce3) 3 1 = 1 ∧ 20 + fieldOf (transfer 0xFFFF 0x185f0ce3) 12 4 = 20 ∧ fieldOf (transfer 0xFFFF 0x185f0ce3) 6 2 = 9
      ∧ fieldOf (transfer 0xFFFF 0x185f0ce3) 8 2 = frame.session.toNat ∧ cmdListed (fieldOf (transfer 0xFFFF 0x185f0ce3) 4 2) = false
      ∧ cmdListed (fieldOf (transfer 3 0xe174386f) 4 2) = true)
    ∧ ¬20 ≤ ((transfer 0xFFFF 0x185f0ce3).take 19).length
    ∧ fieldOf (transfer 0xFFFF 0x185f0ce3) 16 4 = crc32c ((transfer 0xFFFF 0x185f0ce3).take 16)
    ∧ fieldOf (transfer 3 0xe174386f) 16 4 = crc32c ((transfer 3 0xe174386f).take 16) := by
  and_intros <;> first | decide +kernel | exact serves (by decide +kernel) (by decide +kernel) | exact transfer_crc _ _ (by decide +kernel) (by decide +kernel)

/-- A session with an acknowledged or open record 7 in the tally, and log blocks 1 to 15. -/
def recorded : State :=
  { open_ .run with tally := { up.tally with
      logNo := 16
      records := [{ tb := 3, seq := 7, cls := 9, source := 0x0900, scope := 7, syn := 0, level := 1, esc := false, acked := false, tracked := true }] } }

/-- A bank test is in progress, or no spare is left. -/
def banking (s : State) : State := { s with rot := { phase := 1, bank := 0, old := 0, byWho := 4 } }

theorem witness_ServiceCommands :
    PortServes recorded frame .every
    ∧ ((15 : Word).toNat ≤ 15 ∧ recorded.portWake.logHas (1 : Word).toNat = true
      ∧ recorded.portWake.logHas ((1 : Word).toNat + (15 : Word).toNat - 1) = true ∧ 15 < (16 : Word).toNat)
    ∧ PortServes recorded frame .notService
    ∧ ((recorded.portWake.tally.records.find? fun x => x.seq == (7 : Word).toNat).isSome = true
      ∧ (recorded.portWake.tally.records.find? fun x => x.seq == (8 : Word).toNat) = none)
    ∧ PortServes (open_ .limp) frame (.only [.opening, .run, .hold, .limp])
    ∧ ((7 : Fin 256).val < 8 ∧ 8 ≤ (8 : Fin 256).val)
    ∧ (PortServes (open_ .doze) frame (.only [.run, .doze]) ∧ (open_ .doze).portWake.mode = .run ∧ running.portWake.halted (32 + 0) = false)
    ∧ ((open_ .run).portWake.after = none ∧ (open_ .run).portWake.dozeAsk = false
      ∧ { open_ .run with dozeAsk := true }.portWake.mode = .run ∧ { open_ .run with dozeAsk := true }.portWake.after = none
      ∧ PortServes { open_ .run with dozeAsk := true } frame (.only [.run, .doze])
      ∧ { open_ .run with dozeAsk := true }.portWake.dozeAsk = true
      ∧ PortServes { open_ .run with after := some (.closeEntry 4095 []) } frame (.only [.run, .doze])
      ∧ { open_ .run with after := some (.closeEntry 4095 []) }.portWake.after ≠ none
      ∧ (open_ .hold).portWake.after = none ∧ (open_ .hold).portWake.dozeAsk = false)
    ∧ PortServes (open_ .hold) frame (.only [.hold])
    ∧ (PortServes (open_ .hold) frame (.only [.run, .doze, .hold, .limp]) ∧ (open_ .hold).portWake.testRuns = false
      ∧ PortServes (banking (open_ .run)) frame (.only [.run, .doze, .hold, .limp]) ∧ (banking (open_ .run)).portWake.testRuns = true)
    ∧ PortServes (open_ .service) frame (.only [.standby, .service]) ∧ PortServes (open_ .standby) frame (.only [.standby, .service])
    ∧ (PortServes (banking (open_ .run)) frame (.only [.run]) ∧ (7 : Byte).toNat < 8 ∧ (banking (open_ .run)).portWake.engineBusy = true)
    ∧ (PortServes (open_ .run) frame (.only [.run]) ∧ (open_ .run).portWake.engineBusy = false
      ∧ (14 : Byte).toNat < 15 ∧ (open_ .run).portWake.testRuns = false ∧ (open_ .run).portWake.noSpare = false)
    ∧ PortServes (open_ .opening) frame (.only [.opening, .run, .doze, .hold, .limp]) := by
  and_intros <;> first | decide +kernel | exact serves (by decide +kernel) (by decide +kernel)

/-- A patch of slot 1 on base 0 is open at a write position, with so much of a record. -/
def patching (w : Nat) (stream : List Byte) : State :=
  { open_ .run with port := { (open_ .run).port with patch := some (1, w), base := 0, stream := stream } }

/-- The card area of head 7 is open. -/
def carding : State := { open_ .run with port := { (open_ .run).port with card := some 7 } }

theorem witness_PatchesPlansAndCards :
    (PortServes (open_ .run) frame .every ∧ (open_ .run).mode ≠ .service ∧ (open_ .run).portWake.mode = (open_ .run).mode
      ∧ (open_ .run).portWake.slot = some 0 ∧ (open_ .run).portWake.port.patch = none)
    ∧ (PortServes (patching 0x7FFEFFF []) frame .every ∧ (patching 0x7FFEFFF []).portWake.port.patch = some (1, 0x7FFEFFF)
      ∧ (patching 0x7FFEFFF []).portWake.port.base = 0 ∧ (patching 0x7FFEFFF []).portWake.port.stream = []
      ∧ 0x7FFEFFF + 0 < 0x7FFF000 ∧ ¬0x7FFEFFF + 1 < 0x7FFF000 ∧ ([1, 2] : List Byte).length < 2 ^ 32)
    ∧ PortServes (open_ .run) frame .notService
    ∧ ((banking (open_ .run)).portWake.testRuns = true ∧ PortServes (banking (open_ .run)) frame .notService)
    ∧ ((open_ .run).portWake.testRuns = false ∧ (∃ p, planOfImage goodImage = some p ∧ p.refusal = none)
      ∧ ∃ p, planOfImage badImage = some p ∧ p.refusal = some 5)
    ∧ ((7 : Byte).toNat < 8 ∧ 8 ≤ (8 : Byte).toNat)
    ∧ (PortServes carding frame .notService ∧ carding.portWake.port.card = some 7
      ∧ (0x1FFFFFE : Word).toNat + ([1, 2] : List Byte).length ≤ 0x2000000)
    ∧ (open_ .run).portWake.port.card = none := by
  refine ⟨?_, ?_, ?_, ?_, ⟨?_, test_good_image.imp fun _ h => ⟨h.1, h.2.1⟩, test_bad_image⟩, ?_, ?_, ?_⟩ <;> and_intros
    <;> first | decide +kernel | exact serves (by decide +kernel) (by decide +kernel)

/-! ### Heads -/

/-- The timing of 640 by 480 at 800 by 525 in HEAD7's registers, with RLEAD 1 and BPREF 1. -/
def vga : List Word := [0x03200280, 0x00600010, 0x020D01E0, 0x00230002, 0x20000000, 0x11, 0]

/-- HEAD7's timing registers hold it. -/
def timing (s : State) : State :=
  (vga.zipIdx).foldl (fun s e => s.wr (kHead 7 (0x1010 + 4 * e.2)) e.1) s

/-- HEAD7 as a change makes it. -/
def withHead (f : Head → Head) : State := (timing up).setHead 7 (f (up.head 7))

/-- HEAD7's beams stand on a line, with the lines that are ahead of the scan beam. -/
def beams (line : Nat) (scan : Nat) (ahead : List (Nat × Nat)) (stop : Nat) : State :=
  withHead fun q => { q with run := 2, copy := vga ++ [0], line := line, scan := scan, ahead := ahead, stopAsk := stop }

/-- Nothing waits at a port of HEAD7. -/
abbrev clear (s : State) : Prop := ((arr s).head 7).waitFab = [] ∧ ((arr s).head 7).waitCore = []

/-- A latched head, stopped or running; a head in Panel Self Refresh; one that runs with PRESENT as its reference. -/
def latchedHead (run : Nat) : State := withHead fun q => { q with latched := true, run := run }
def refreshing : State := (timing up).setB (kHead 7 0x1004) 29 true
def presented : State := withHead fun q => { q with run := 2, copy := vga ++ [0xA0000000] }

theorem witness_HeadStartsAndStops :
    Meets up (kHead 7 0x1000) (clear up ∧ ((arr up).head 7).run = 0 ∧ ((arr up).head 7).latched = false
      ∧ (arr up).inPsr 7 = false ∧ timingCheck ((arr up).timingRegs 7) ((arr up).headReady 7) ≠ 0)
    ∧ Meets (timing up) (kHead 7 0x1000) (((arr (timing up)).head 7).run = 0
      ∧ timingCheck ((arr (timing up)).timingRegs 7) ((arr (timing up)).headReady 7) = 0)
    ∧ Meets (latchedHead 0) (kHead 7 0x1000) (clear (latchedHead 0) ∧ ((arr (latchedHead 0)).head 7).latched = true
      ∧ (arr (latchedHead 0)).plan.headBench 7 = some 0)
    ∧ Meets (latchedHead 2) (kHead 7 0x1000) (((arr (latchedHead 2)).head 7).latched = true ∧ ((arr (latchedHead 2)).head 7).run = 2)
    ∧ Meets (withHead fun q => { q with run := 1 }) (kHead 7 0x1000) (((arr (withHead fun q => { q with run := 1 })).head 7).run = 1
      ∧ clear (withHead fun q => { q with run := 1 }))
    ∧ Meets refreshing (kHead 7 0x1000) (((arr refreshing).head 7).run = 0 ∧ (arr refreshing).inPsr 7 = true)
    ∧ Meets (beams 0 0 [] 1) (kHead 7 0x1000) (((arr (beams 0 0 [] 1)).head 7).run = 2 ∧ clear (beams 0 0 [] 1)
      ∧ ((arr (beams 0 0 [] 1)).head 7).latched = false)
    ∧ Meets presented (kHead 7 0x1048) ((arr presented).syncSrc 7 = 5 ∧ ((arr presented).head 7).moving = true
      ∧ (arr presented).bit (kSync 7) 30 = false ∧ (presented.setB (kSync 7) 30 true).bit (kSync 7) 30 = true)
    ∧ Meets up (kHead 7 0x1048) ((arr up).syncSrc 7 ≠ 5) := by
  and_intros <;> first | decide +kernel | exact meets (by decide +kernel) (by decide +kernel)

/-- A stop of HEAD7's beams is due in that state. -/
def due (s : State) : Prop := (s.head 7).ahead.length = (s.head 7).rlead ∧ (s.head 7).stopDue = true

/-- HEAD7's render beam wraps at its next boundary. -/
def wrapsNext (s : State) : Bool :=
  ((s.oneClock (if (s.head 7).ahead.length = (s.head 7).rlead then [] else (s.head 7).fired)
    fun s => (((s.collisionReport 7).syncApply 7).refHold 7).2).1).wraps 7 ((s.head 7).line + 1)

/-- HEAD7's beams stand on a line, with SYNC_CTL in force and written, and SYNC_STAT. -/
def synced (line ctl stat : Nat) : State :=
  ((beams line (line - 1) [(line, 0)] 0).wrN (kHead 7 0x1040) ctl).wrN (kSync 7) stat

/-- The last line of a frame; a head whose reference is FLK_IN stays on after line 524, unless an edge has latched, it runs free, or the
line is VTOTAL_MAX. -/
theorem witness_BeamsCrossTheirLines :
    ((withHead fun q => { q with run := 1, copy := vga ++ [0] }).head 7).waitFab = []
    ∧ ((withHead fun q => { q with run := 1, copy := vga ++ [0] }).head 7).waitCore = []
    ∧ ((withHead fun q => { q with run := 1, copy := vga ++ [0] }).head 7).copy.length = 8
    ∧ ((withHead fun q => { q with run := 1, copy := vga ++ [0] }).head 7).run = 1
    ∧ ((beams 523 522 [(523, 0)] 1).head 7).moving = true
    ∧ ((beams 523 522 [(523, 0)] 1).head 7).ahead.length ≤ ((beams 523 522 [(523, 0)] 1).head 7).rlead
    ∧ ¬due (beams 523 522 [(523, 0)] 1) ∧ wrapsNext (beams 523 522 [(523, 0)] 1) = false
    ∧ ((beams 524 523 [(524, 0)] 1).head 7).moving = true ∧ ¬due (beams 524 523 [(524, 0)] 1)
    ∧ wrapsNext (beams 524 523 [(524, 0)] 1) = true
    ∧ wrapsNext (synced 524 0x40000300 0) = false ∧ wrapsNext (synced 524 0x40000300 0x40000000) = true
    ∧ wrapsNext (synced 524 0x40000300 0x80000000) = true ∧ wrapsNext (synced 767 0x40000300 0) = true
    ∧ ((beams 524 523 [(524, 0)] 1).head 7).span + 1 < ((beams 524 523 [(524, 0)] 1).head 7).nspan
    ∧ ((withHead fun q => { q with run := 2, copy := vga ++ [0], span := 9 }).head 7).span + 1
      = ((withHead fun q => { q with run := 2, copy := vga ++ [0], span := 9 }).head 7).nspan
    ∧ ((beams 0 524 [(0, 1)] 0).head 7).rlead ≤ ((beams 0 524 [(0, 1)] 0).head 7).ahead.length ∧ ¬due (beams 0 524 [(0, 1)] 0)
    ∧ ((beams 0 524 [(0, 1)] 0).head 7).ahead = (0, 1) :: []
    ∧ due (beams 0 524 [(0, 1)] 1) ∧ ((beams 0 524 [(0, 1)] 1).head 7).waitFab = [] ∧ ((beams 0 524 [(0, 1)] 1).head 7).copy.length = 8
    ∧ ((beams 36 35 [(36, 1)] 0).head 7).activeLine ((beams 36 35 [(36, 1)] 0).head 7).scan = true
    ∧ (beams 36 35 [(36, 1)] 0).capturing 7 = false
    ∧ ((beams 515 514 [(515, 1)] 0).head 7).activeLine ((beams 515 514 [(515, 1)] 0).head 7).scan = true
    ∧ ((beams 515 514 [(515, 1)] 0).head 7).scan + 1 = ((beams 515 514 [(515, 1)] 0).head 7).vactStart + ((beams 515 514 [(515, 1)] 0).head 7).vact
    ∧ ((beams 516 515 [(516, 1)] 0).head 7).activeLine ((beams 516 515 [(516, 1)] 0).head 7).scan = false
    ∧ (up.head 7).moving = false ∧ (up.head 7).nspan ≤ (up.head 7).span := by
  unfold due
  and_intros <;> decide +kernel

/-- HEAD7 is at its sort pass, at the last descriptor of the table at 0x10000, whose first word is given; or its beams stand. -/
def sorting (word0 : List Byte) (run : Nat) : State :=
  (withHead fun q => { q with
    run := run, sort := { outcome := 1, next := 0, base := 0x10000, count := 1, quota := 1 } }).memStore 0x10000 word0

/-- Line 40 of HEAD7 has been served from a valid surface; a word of what was read is marked or none. -/
def surfaced (mark : Bool) : State :=
  let s := (withHead fun q => { q with
      run := 2, line := 40, fnum := 3, copy := vga ++ [0]
      bufs := [{ line := 40, fnum := 3, active := true, linear := false, served := true, cols := [], writes := 0 }] }).setB (kFlat 7) 31 true
  if mark then s.mark (s.surfAddr 7 5 0) else s

/-- A sprite of S0's store at its last index. -/
def stored : State :=
  withHead fun q => { q with run := 2, copy := vga ++ [0], front := [{ idx := 65535, words := [], bad := false }] }

theorem witness_HeadFetchesReturn :
    (up.plan.headBench 7 = some 0 ∧ ((beams 0 0 [] 0).head 7).moving = true ∧ (65535 : Fin 65536).val ≠ 0
      ∧ (beams 0 0 [] 0).mends 0x10000 4096 = beams 0 0 [] 0
      ∧ (((beams 0 0 [] 0).upset (some (0x10FFF, .corrected))).mends 0x10000 4096).marked 0x10000 4096 = false
      ∧ (((beams 0 0 [] 0).upset (some (0x10FFF, .uncorrectable))).mends 0x10000 4096).marked 0x10000 4096 = true
      ∧ (beams 0 0 [] 0).eccHolder 0x10FF8 = some 0)
    ∧ ((beams 0 0 [] 0).rangeHeld 0 0x10000 4096 = true ∧ (beams 0 0 [] 0).marked 0x10000 4096 = false
      ∧ 0x10000 ≤ 0x10FFF ∧ 0x10FFF < 0x10000 + 4096 ∧ 0x10FFF < 0x20003C0000)
    ∧ (((beams 0 0 [] 0).mark 0x10FF8).rangeHeld 0 0x10000 4096 = true ∧ ((beams 0 0 [] 0).mark 0x10FF8).marked 0x10000 4096 = true)
    ∧ (beams 0 0 [] 0).rangeHeld 0 (past - 1) 2 = false
    ∧ ((up.head 7).moving = false ∧ (0 : Fin 65536).val = 0)
    ∧ (up.marked (kPe 7 (0x10000 + 4 * 16383)) 4 = false ∧ (up.mark (kPe 7 (0x10000 + 4 * 16383))).marked (kPe 7 (0x10000 + 4 * 16383)) 4 = true)
    ∧ (stored.head 7).front.any (fun x => x.idx == 65535 && !x.bad) = true
    ∧ (up.surfValid 7 = false ∧ (surfaced false).surfValid 7 = true
      ∧ (surfaced false).marked ((surfaced false).surfAddr 7 5 0) 4 = false
      ∧ (surfaced true).marked ((surfaced true).surfAddr 7 (((surfaced true).head 7).line - ((surfaced true).head 7).vactStart) 0)
        ((0 + 1 - 0) * surfPx ((surfaced true).head 7).surfLinear) = true
      ∧ (((surfaced true).head 7).bufs.find? fun x =>
          x.line == ((surfaced true).head 7).line && x.fnum == ((surfaced true).head 7).fnum && x.served).isSome = true)
    ∧ (((sorting [0, 0x10, 0, 0x80] 2).head 7).moving = true ∧ ((sorting [0, 0x10, 0, 0x80] 2).head 7).stopAsk ≠ 2
      ∧ ((sorting [0, 0x10, 0, 0x80] 2).head 7).sort.outcome = 1 ∧ ((sorting [0, 0x10, 0, 0x80] 2).head 7).sort.quota ≠ 0
      ∧ (sorting [0, 0x10, 0, 0x80] 2).rangeHeld 0 0x10000 32 = true ∧ (sorting [0, 0x10, 0, 0x80] 2).marked 0x10000 32 = false
      ∧ ((sorting [0, 0x10, 0, 0x80] 2).head 7).sort.next + 1 = ((sorting [0, 0x10, 0, 0x80] 2).head 7).sort.count
      ∧ nbit (({ idx := 0, words := descWords ((sorting [0, 0x10, 0, 0x80] 2).bytes 0x10000 32), bad := false } : Sprite).w 0).toNat 31 = true
      ∧ ({ idx := 0, words := descWords ((sorting [0, 0x10, 0, 0x80] 2).bytes 0x10000 32), bad := false } : Sprite).fmt < 8
      ∧ ¬({ idx := 0, words := descWords ((sorting [0, 0x80, 0, 0x80] 2).bytes 0x10000 32), bad := false } : Sprite).fmt < 8)
    ∧ ((sorting [0, 0x10, 0, 0x80] 0).head 7).moving = false ∧ (up.head 7).sort.outcome ≠ 1
    ∧ ((sorting [] 2).mark 0x10018).marked 0x10000 32 = true ∧ up.rangeHeld 0 (past - 31) 32 = false := by
  and_intros <;> first | decide +kernel | rfl

/-- HEAD7 runs with so many staged writes in its line set, its line core running too; or with a write that waits at the fabric port. -/
def filled (n : Nat) : State :=
  (withHead fun q => { q with
    run := 2
    lineSet := (List.range n).map fun i =>
      { key := kHead 7 0x4000 + 4 * i, val := 0, be := 15, span := false, fabric := true, order := i, who := host, stalled := false } }).wrN
    (kCore 39 4) 0
def portWaits : State :=
  withHead fun q => { q with
    run := 2
    waitFab := [{ key := kPe 7 0, val := 0, be := 15, span := false, fabric := true, order := 0, who := host, stalled := true }] }

/-- A write of key `k` by the host, as a port takes it. -/
def pend (k : Nat) (span : Bool) : Pend :=
  { key := k, val := 1, be := 15, span := span, fabric := true, order := 0, who := host, stalled := false }

/-- A staged write of T0's MAP_BASE through either view, and of SPR_CTL, by the host and by the head's own line core. -/
theorem witness_StagedPaletteAndShadowWrites :
    Meets up (kTile 7 0 8) (headAt (kTile 7 0 8) = (7, kTile 7 0 8, false) ∧ ((arr up).head 7).waitFab = []
      ∧ (regRow (kTile 7 0 8)).map RegRow.eff = some .staged ∧ ((arr up).head 7).moving = false)
    ∧ Meets (beams 0 0 [] 0) (kTile 7 0 8 + 0x80000) (headAt (kTile 7 0 8 + 0x80000) = (7, kTile 7 0 8, true)
      ∧ ((arr (beams 0 0 [] 0)).head 7).moving = true ∧ spanAttr (kTile 7 0 8) true = true
      ∧ (enterSet ((arr (beams 0 0 [] 0)).head 7).spanSet (pend (kTile 7 0 8) true)).isSome = true)
    ∧ Meets (filled 511) (kPe 7 0) ((regRow (kPe 7 0)).map RegRow.eff = some .stagedLine ∧ ((arr (filled 511)).head 7).waitFab = []
      ∧ (enterSet ((arr (filled 511)).head 7).lineSet (pend (kPe 7 0) false)).isSome = true)
    ∧ Meets (filled 512) (kPe 7 0) (((arr (filled 512)).head 7).moving = true ∧ (ownHead host != some 7) = true
      ∧ enterSet ((arr (filled 512)).head 7).lineSet (pend (kPe 7 0) false) = none)
    ∧ ((filled 512).halted 39 = false ∧ (filled 512).reach (.line 7) (kPe 7 0) 4 = .dev (kPe 7 0)
      ∧ (ownHead (.core (.line 7)) != some 7) = false ∧ ((filled 512).head 7).waitCore = [] ∧ ((filled 512).core 39).wait = .none
      ∧ enterSet ((filled 512).head 7).lineSet { pend (kPe 7 0) false with fabric := false, who := .core (.line 7) } = none)
    ∧ Meets portWaits (kPe 7 0) (((arr portWaits).head 7).waitFab ≠ [])
    ∧ Meets up (kPe 7 0x1FFFC) (isPal 7 (kPe 7 0x1FFFC) = true ∧ (regRow (kPe 7 0x1FFFC)).isSome = true
      ∧ headAt (kPe 7 0x1FFFC) = (7, kPe 7 0x1FFFC, false))
    ∧ Meets up (kMb 7 3 0) ((regRow (kMb 7 3 0)).map RegRow.eff = some .shadow ∧ headAt (kMb 7 3 0) = (7, kMb 7 3 0, false)) := by
  and_intros <;> first | decide +kernel | exact meets (by decide +kernel) (by decide +kernel)

/-- Plane 3 waits for its fence, and plane 2 pends. -/
def fenced (s : State) : State := (s.wrN (kMb 7 3 4) 0x40000000).setB (kHead 7 0x14) 2 true

/-- HEAD7 with VACT_START 1, whose commit line for the next frame is the last line of this one, of 525 lines. -/
def early : State :=
  withHead fun q => { q with
    run := 2, copy := vga.set 3 0x00010002 ++ [0], line := 0, fnum := 1, scan := 524, scanFnum := 0, ahead := [(0, 1)], frameLen := 525 }

theorem witness_CommitFencesAndInvalidation :
    Meets (beams 33 34 [(34, 0)] 0) (kHead 7 0x10) (clear (beams 33 34 [(34, 0)] 0)
      ∧ ((arr (beams 33 34 [(34, 0)] 0)).head 7).moving = true
      ∧ (8 : BitVec 4).getLsbD 3 = true ∧ (arr (beams 33 34 [(34, 0)] 0)).bit (kHead 7 0x14) 3 = false
      ∧ ((arr (beams 33 34 [(34, 0)] 0)).head 7).rlead + ((arr (beams 33 34 [(34, 0)] 0)).head 7).bpref
        ≤ ((arr (beams 33 34 [(34, 0)] 0)).head 7).vactStart
      ∧ ((arr (beams 33 34 [(34, 0)] 0)).head 7).vactStart < ((arr (beams 33 34 [(34, 0)] 0)).head 7).vtotal
      ∧ ((arr (beams 33 34 [(34, 0)] 0)).head 7).pastCommit = true)
    ∧ Meets (beams 36 35 [(36, 0)] 0) (kHead 7 0x10) (((arr (beams 36 35 [(36, 0)] 0)).head 7).pastCommit = false)
    ∧ Meets early (kHead 7 0x10) (((arr early).head 7).vactStart < ((arr early).head 7).rlead + ((arr early).head 7).bpref
      ∧ ((arr early).head 7).rlead + ((arr early).head 7).bpref < ((arr early).head 7).vactStart + ((arr early).head 7).frameLen
      ∧ ((arr early).head 7).scanAt.2 ≠ ((arr early).head 7).fnum ∧ ((arr early).head 7).pastCommit = true)
    ∧ Meets (fenced up) (kHead 7 0x10) (((arr (fenced up)).head 7).moving = false ∧ (arr (fenced up)).bit (kHead 7 0x14) 2 = true
      ∧ (!(arr (fenced up)).bit (kMb 7 2 4) 30) = true
      ∧ (!(arr (fenced up)).bit (kMb 7 3 4) 30 || (arr (fenced up)).bit (kMb 7 3 0x38) 31) = false)
    ∧ Meets up (kMb 7 3 4) (clear up) ∧ Meets up (kHead 7 0x20) (clear up) := by
  and_intros <;> first | decide +kernel | exact meets (by decide +kernel) (by decide +kernel)

/-! ### Display links, AUX and Panel Self Refresh -/

/-- HEAD7's link in a state of LINK_STAT, with a sink plugged in or not. -/
def linked (st : Nat) (plug : Bool) : State :=
  ((timing up).setF (kHead 7 0x1034) 31 29 st).setHead 7 { up.head 7 with plugged := plug }

/-- HEAD7 runs with a sync source. -/
def syncing (src : Nat) : State :=
  withHead fun q => { q with run := 2, copy := vga ++ [BitVec.ofNat 32 (src * 2 ^ 29)], flkLevel := false }

/-- Its reference, HEAD0, stands on the last line of its frame. -/
def referred : State :=
  (syncing 3).setHead 0 { up.head 0 with run := 2, copy := vga ++ [0], line := 524, scan := 523, ahead := [(524, 0)] }

/-- HEAD7's link is training, with a loss told by IRQ_HPD or none. -/
def losing (lost : Bool) : State := (linked 1 true).setHead 7 { up.head 7 with plugged := true, irqLost := lost }

/-- The same in the clock of HEAD0's boundary, before it wraps. -/
def atClock : State :=
  (referred.oneClock (if (referred.head 0).ahead.length = (referred.head 0).rlead then [] else (referred.head 0).fired)
    fun s => (((s.collisionReport 0).syncApply 0).refHold 0).2).1

/-- HEAD7 goes to Panel Self Refresh at the end of this frame. -/
def entering (st : Nat) : State := (linked st true).setHead 7 { up.head 7 with plugged := true, run := 2, stopAsk := 3 }

theorem witness_LinkAndSyncEvents :
    ((linked 0 false).head 7).plugged = false ∧ (linked 0 false).mode.mainOn = true ∧ ((linked 3 true).head 7).plugged = true
    ∧ State.reset.mode.mainOn = false
    ∧ (linked 2 true).linkSt 7 = 2 ∧ (linked 3 true).linkSt 7 = 3 ∧ ((linked 2 true).head 7).plugged = true
    ∧ ((linked 1 true).linkSt 7 = 1 ∧ ((linked 1 true).head 7).plugged = true ∧ (linked 0 true).linkSt 7 = 0 ∧ 3 < (linked 4 true).linkSt 7)
    ∧ ((losing false).linkSt 7 = 1 ∧ ((losing false).head 7).irqLost = false ∧ ((losing true).head 7).irqLost = true
      ∧ ((losing true).head 7).plugged = true ∧ (losing true).linkSt 7 = 1)
    ∧ ((linked 4 true).linkSt 7 = 4 ∧ ((linked 4 true).head 7).plugged = true)
    ∧ Meets (linked 4 true) (kHead 7 0x1030) (clear (linked 4 true) ∧ (arr (linked 4 true)).linkSt 7 = 4
      ∧ ((arr (linked 4 true)).head 7).plugged = true)
    ∧ Meets (linked 5 true) (kHead 7 0x1030) (clear (linked 5 true) ∧ (arr (linked 5 true)).linkSt 7 = 5)
    ∧ ((syncing 1).syncSrc 7 = 1 ∧ ((syncing 1).head 7).moving = true ∧ ((syncing 1).head 7).teLevel ≠ true
      ∧ true ≠ nbit ((syncing 1).head 7).syncCtl.toNat 28 ∧ (syncing 1).bit (kSync 7) 30 = false
      ∧ ((syncing 1).setB (kSync 7) 30 true).bit (kSync 7) 30 = true)
    ∧ ((syncing 2).syncSrc 7 = 2 ∧ ((syncing 2).head 7).moving = true ∧ ((syncing 2).head 7).flkLevel ≠ true
      ∧ true ≠ nbit ((syncing 2).head 7).syncCtl.toNat 28 ∧ (syncing 2).bit (kSync 7) 30 = false)
    ∧ ((referred.head 7).moving = true ∧ (referred.head 0).moving = true ∧ (referred.head 0).ahead.length ≤ (referred.head 0).rlead
      ∧ ¬((referred.head 0).ahead.length = (referred.head 0).rlead ∧ (referred.head 0).stopDue = true)
      ∧ atClock.wraps 0 ((referred.head 0).line + 1) = true ∧ atClock.syncSrc 7 = 3 ∧ atClock.refHead 7 = some 0)
    ∧ (((entering 3).linkSt 7 = 3) ∧ ((entering 3).head 7).stopAsk = 3 ∧ ((entering 3).head 7).plugged = true ∧ (entering 3).dozeAsk = false)
    ∧ up.syncSrc 7 ≠ 1 ∧ up.syncSrc 7 ≠ 2 := by
  and_intros <;> first | decide +kernel | exact meets (by decide +kernel) (by decide +kernel)

/-- The AUX channel of HEAD7 is busy with a request of a command, the link in a state. -/
def auxBusy (cmd st : Nat) : State :=
  ((linked st true).setB (kAux 7) 31 true).wrN (kHead 7 0x1080) (cmd * 2 ^ 28 + 3 * 2 ^ 24)

/-- The same, with so many tries made. -/
def tried (n : Nat) : State := (auxBusy 0 3).setHead 7 { (auxBusy 0 3).head 7 with auxTries := n }

/-- HEAD7 is an eDP head whose panel can refresh itself, in a state of its own, of its link, of SENDING and of PSR. -/
def panel (run st : Nat) (sending psr : Bool) : State :=
  ((((timing up).setF (kHead 7 0x1034) 31 29 st).setHead 7 { up.head 7 with run := run, psrSink := true, linkNow := 1 }).setB
    (kHead 7 0x1004) 30 sending).setB (kHead 7 0x1004) 29 psr

/-- The same with SU_VALID and the rows 0 to 9. -/
def updating : State := ((panel 0 0 false true).wrN (kHead 7 0x1050) (2 ^ 28)).wrN (kHead 7 0x1054) (9 * 2 ^ 16)

theorem witness_AuxAndSelfRefresh :
    Meets (auxBusy 0 3) (kHead 7 0x1080) (clear (auxBusy 0 3) ∧ (arr (auxBusy 0 3)).bit (kAux 7) 31 = true)
    ∧ Meets (linked 3 true) (kHead 7 0x1080) ((arr (linked 3 true)).bit (kAux 7) 31 = false
      ∧ ((arr (linked 3 true)).store (kHead 7 0x1080) (setBit 0x20000000 31 true) 15).fld (kHead 7 0x1080) 30 28 = 2
      ∧ ((arr (linked 3 true)).store (kHead 7 0x1080) (setBit 0x10000000 31 true) 15).fld (kHead 7 0x1080) 30 28 = 1
      ∧ (arr (linked 3 true)).linkSt 7 ≠ 1)
    ∧ Meets (linked 1 true) (kHead 7 0x1080) ((arr (linked 1 true)).bit (kAux 7) 31 = false ∧ (arr (linked 1 true)).linkSt 7 = 1)
    ∧ ((auxBusy 0 3).bit (kAux 7) 31 = true ∧ (auxBusy 0 3).linkSt 7 ≠ 1)
    ∧ ((tried 6).bit (kAux 7) 31 = true ∧ (tried 6).linkSt 7 ≠ 1 ∧ ((tried 6).head 7).auxTries < 7 ∧ clear (tried 6))
    ∧ ((tried 7).bit (kAux 7) 31 = true ∧ (tried 7).linkSt 7 ≠ 1 ∧ 7 ≤ ((tried 7).head 7).auxTries)
    ∧ (auxBusy 1 3).fld (kHead 7 0x1080) 30 28 % 2 = 1 ∧ ((linked 3 true).bit (kAux 7) 31 = false ∧ (auxBusy 1 1).linkSt 7 = 1)
    ∧ ((panel 2 3 true false).bit (kHead 7 0x1050) 31 = false ∧ (panel 2 3 true false).bit (kHead 7 0x1050) 30 = false
      ∧ (panel 2 3 true false).bit (kHead 7 0x1050) 29 = false)
    ∧ Meets (panel 2 3 true false) (kHead 7 0x1050) (clear (panel 2 3 true false) ∧ (arr (panel 2 3 true false)).psrOk 7 = true ∧ ((arr (panel 2 3 true false)).head 7).run = 2
      ∧ (arr (panel 2 3 true false)).inPsr 7 = false ∧ (arr (panel 2 3 true false)).sending 7 = true ∧ (arr (panel 2 3 true false)).linkSt 7 = 3)
    ∧ Meets (panel 2 0 false false) (kHead 7 0x1050) ((arr (panel 2 0 false false)).psrOk 7 = true
      ∧ ¬((arr (panel 2 0 false false)).sending 7 = true ∧ (arr (panel 2 0 false false)).linkSt 7 = 3))
    ∧ Meets (linked 3 true) (kHead 7 0x1050) ((arr (linked 3 true)).psrOk 7 = false ∧ (arr (linked 3 true)).inPsr 7 = false)
    ∧ Meets updating (kHead 7 0x1050) (updating.bit (kHead 7 0x1050) 31 = false ∧ updating.bit (kHead 7 0x1050) 29 = false
      ∧ (arr updating).psrOk 7 = true ∧ (arr updating).inPsr 7 = true
      ∧ ((arr updating).store (kHead 7 0x1050) (setBit (updating.rd (kHead 7 0x1050)) 29 true) 15).bit (kHead 7 0x1050) 28 = true
      ∧ (arr updating).fld (kHead 7 0x1054) 11 0 ≤ (arr updating).fld (kHead 7 0x1054) 27 16) := by
  and_intros <;> first | decide +kernel | exact meets (by decide +kernel) (by decide +kernel)

/-! ### Engines, the journeyman and the daybook -/

/-- The journeyman as a change makes it. -/
def withJm (f : Journeyman → Journeyman) (s : State) : State := { s with jm := f up.jm }

/-- It mirrors HEAD7, whose beams run, since their frame's top or not yet. -/
def mirroring (started : Bool) : State :=
  withJm (fun j => { j with mirror := some 7, copied := false, started := started }) (beams 0 0 [] 0)

/-- It serves HEAD7. -/
def standIn : State := withJm (fun j => { j with duty := .stand 7, handOver := none }) (withHead fun q => { q with engine := 8 })

/-- A plan of no bench. -/
def noBench : Plan := { shippedPlan with benches := [absentBench, absentBench, absentBench, absentBench] }

theorem witness_EnginesFailAndHandOver :
    ((mirroring true).jm.mirror = some 7 ∧ (mirroring true).jm.copied = false ∧ ((mirroring true).head 7).moving = true
      ∧ (mirroring true).jm.started = true)
    ∧ (((mirroring false).head 7).moving = true ∧ (mirroring false).jm.started = false)
    ∧ (((withJm (fun j => { j with mirror := some 7, handOver := some 7 }) up).head 7).moving = false
      ∧ (withJm (fun j => { j with mirror := some 7, handOver := some 7 }) up).jm.handOver = some 7)
    ∧ ((withJm (fun j => { j with mirror := some 7, handBack := some 7 }) up).jm.handOver ≠ some 7
      ∧ (withJm (fun j => { j with mirror := some 7, handBack := some 7 }) up).jm.handBack = some 7)
    ∧ (withJm (fun j => { j with mirror := some 7 }) up).jm.handBack ≠ some 7
    ∧ (withJm (fun j => { j with mirror := some 7, copied := true }) up).jm.copied = true
    ∧ ((List.range 8).find? (fun i => (up.head i).engine == 7) = some 7 ∧ up.badEngines.contains 7 = false)
    ∧ ((withJm (fun j => { j with duty := .idle, handOver := none }) up).jm.duty = .idle
      ∧ (withJm (fun j => { j with duty := .idle, handOver := none }) up).jm.handOver = none)
    ∧ ((withJm (fun j => { j with duty := .stand 0, testing := none }) up).jm.duty = .stand 0
      ∧ (withJm (fun j => { j with duty := .stand 0, testing := none }) up).jm.testing = none
      ∧ (withJm (fun j => { j with duty := .stand 0, testing := none }) up).jm.handOver ≠ some 7)
    ∧ (List.range 8).find? (fun i => (standIn.head i).engine == 7) = none
    ∧ ({ up with badEngines := [7] } : State).badEngines.contains 7 = true
    ∧ ((withJm (fun j => { j with handOver := some 7, testing := none }) up).jm.handOver = some 7
      ∧ (withJm (fun j => { j with handOver := some 7, testing := none }) up).jm.testing = none)
    ∧ ((List.range 8).find? (fun i => (standIn.head i).engine == 8) = some 7 ∧ standIn.jm.duty = .stand 7
      ∧ standIn.jm.handOver = none ∧ standIn.badEngines.contains 8 = false)
    ∧ ((List.range 8).find? (fun i => (up.head i).engine == 8) = none ∧ up.jm.duty ≠ .retired)
    ∧ (withJm (fun j => { j with duty := .retired }) up).jm.duty = .retired
    ∧ (up.plan.carterBench 63 = some 0 ∧ ((lent (some 0) 0 0).blk 1).owner = some 0 ∧ (up.blk 1).owner = none ∧ up.plan.coreBench 31 = some 0
      ∧ (fewRings.plan.bench 0).present = true ∧ (fewRings.plan.bench 3).present = false)
    ∧ (noBench.carterBench 63 = none ∧ noBench.coreBench 31 = none ∧ noBench.headBench 7 = none) := by
  and_intros <;> decide +kernel

/-- HEAD7's journal as a change makes it. -/
def withJournal (f : Journal → Journal) : State := up.setJournal 7 (f (up.journal 7))

theorem withJournal_journal (f : Journal → Journal) : (withJournal f).journal 7 = f (up.journal 7) := by
  unfold withJournal State.journal State.setJournal
  simp only [Sparse.get_set, if_pos]

/-- The drain of HEAD7 is enabled to a buffer of 16 blocks, with so many blocks in it, and waits for block `next`; the journal holds block 1
alone. -/
def draining (base prod next : Nat) : State :=
  (((withJournal fun j => { j with seq := 2, count := 1, place := 1, drainNext := next }).wrN (kHead 7 0x10030) 0x80000004).wr64
    (kHead 7 0x10028) base).wrN (kHead 7 0x10034) prod

/-- What its drain looks at. -/
abbrev drained (s : State) : Nat × Bool :=
  (seqGap (s.journal 7).drainNext (s.journal 7).oldest,
    (s.drainIdx 7 0x10034 + 2 * 2 ^ s.drainLog 7 - s.drainIdx 7 0x10038) % (2 * 2 ^ s.drainLog 7) == 2 ^ s.drainLog 7)

/-- Block 0 has been written over, block 1 is there, and block 2 is not yet made. -/
theorem witness_JournalCheckpointsAndDrain :
    (up.journal 7).open_ = [] ∧ ((withJournal fun j => { j with open_ := [1] }).journal 7).open_ ≠ [] ∧ 0 < up.journalCap
    ∧ (up.journal 7).lost = 0
    ∧ (((withJournal fun j => { j with lost := 1, open_ := List.replicate 8190 1 }).journal 7).lost ≠ 0
      ∧ ((withJournal fun j => { j with lost := 1, open_ := List.replicate 8190 1 }).journal 7).open_ = List.replicate 8190 1
      ∧ (List.replicate 8190 (1 : Double)).length = 8190 ∧ (List.replicate 8191 (1 : Double)).length = 8191)
    ∧ Meets up (kHead 7 0x10010) (clear up) ∧ Meets up (kHead 7 0x10030) (clear up)
    ∧ ((up.journal 7).ckptRun = false ∧ ((withJournal fun j => { j with ckptRun := true }).journal 7).ckptRun = true)
    ∧ (up.bit (kHead 7 0x10030) 31 = false ∧ ((withJournal fun j => { j with drainStop := true }).journal 7).drainStop = true)
    ∧ ((draining 0x10000 16 1).bit (kHead 7 0x10030) 31 = true ∧ ((draining 0x10000 16 1).journal 7).drainStop = false
      ∧ drained (draining 0x10000 16 1) = (0, true))
    ∧ ((draining 0x10000 0 1).plan.headBench 7 = some 0 ∧ drained (draining 0x10000 0 1) = (0, false)
      ∧ (draining 0x10000 0 1).blockOf 7 1 = some ((draining 0x10000 0 1).blockAddr 7 0)
      ∧ (draining 0x10000 0 1).rangeHeld 0 0x10000 4096 = true)
    ∧ (drained (draining 0x10000 0 0) = (1, false) ∧ ((draining 0x10000 0 0).journal 7).oldest = 1)
    ∧ (drained (draining 0x10000 0 2) = (2 ^ 32 - 1, false) ∧ (draining 0x10000 0 2).blockOf 7 2 = none)
    ∧ (drained (draining (past - 4095) 0 1) = (0, false) ∧ (draining (past - 4095) 0 1).rangeHeld 0 (past - 4095) 4096 = false) := by
  and_intros <;> first | (simp only [List.length_replicate]; done) | (simp only [withJournal_journal]; done) | decide +kernel | exact meets (by decide +kernel) (by decide +kernel)

/-! ### Audio -/

/-- A sample voice, a bus gain and a route as a change makes them. -/
def withVoice (f : Voice → Voice) : State := up.setVoice 1023 (f (up.voice 1023))
def waiting_ (f : ZcVal → ZcVal) : State := (up.setBusGain 127 (f (up.busGain 127))).setRoute 95 (f (up.route 95))

/-- An entry waits at the audio command port, in ring 4095. -/
def audioPort (op arg : Nat) : State :=
  { up.wrN (kRing 4095 8) 0x80100000 with ringNow := [(4095, (0x80100000, 0))], ringCache := [(4095, [entry op arg 0 0 0])] }

/-- PORT domain B runs from its word clock. -/
def clocked (f : Domain → Domain) : State :=
  ({ up with plan := { shippedPlan with portBSrc := 0x81 } }).setDom 1 (f (up.dom 1))

theorem witness_AudioRequestsAndClocks :
    Meets up (kVoice (voiceNum (.tone 63)) 0x40) True ∧ Meets up (kVoice (voiceNum (.sample 1023)) 0x40) True
    ∧ Meets up 0x3003071000 ((arr up).benchOf host = some 0)
    ∧ (up.audPlan.voiceBench 1023 = some 0 ∧ ((withVoice fun q => { q with st := 1 }).voice 1023).st ≠ 0
      ∧ ((withVoice fun q => { q with st := 1 }).voice 1023).st ≠ 5 ∧ (64 : Fin 65536).val ≠ 0
      ∧ up.rangeHeld 0 0x10000 64 = true ∧ up.marked 0x10000 64 = false ∧ (up.mark 0x10038).marked 0x10000 64 = true
      ∧ up.rangeHeld 0 (past - 1) 64 = false)
    ∧ (up.voice 1023).st = 0
    ∧ (((waiting_ fun z => { z with wait := some (0, 96), fade := none }).busGain 127).wait = some (0, 96)
      ∧ ((waiting_ fun z => { z with wait := some (0, 96), fade := none }).busGain 127).fade = none ∧ waitLimit 0 96000 ≤ 96
      ∧ 2 * (63 : Fin 64).val + true.toNat = 127)
    ∧ ((95 : Fin 128).val < 96 ∧ ((waiting_ fun z => { z with wait := some (0, 96), fade := none }).route 95).wait = some (0, 96)
      ∧ ((waiting_ fun z => { z with wait := some (0, 96), fade := none }).route 95).fade = none)
    ∧ ((waiting_ fun z => { z with fade := some (63, 0) }).route 95).fade = some (63, 0)
    ∧ ((audioPort 2 0).portNext 1 = some (0, 4095, entry 2 0 0 0 0) ∧ (audioPort 2 0).mode.ringsRun = true ∧ (audioPort 2 0).mode ≠ .hold
      ∧ (audioPort 2 0).mode ≠ .limp ∧ entryOp (entry 2 0 0 0 0) = 2 ∧ entryOp (entry 3 0 0 0 0) ≠ 1 ∧ entryOp (entry 3 0 0 0 0) ≠ 2
      ∧ entryOp (entry 1 0 0 0 0) = 1 ∧ (audioPort 1 0).portNext 1 = some (0, 4095, entry 1 0 0 0 0))
    ∧ up.portNext 1 = none
    ∧ ((clocked id).domWclk 1 = true ∧ ((clocked fun q => { q with fallback := false }).dom 1).fallback = false
      ∧ ((clocked fun q => { q with fallback := true, good := true }).dom 1).fallback = true
      ∧ ((clocked fun q => { q with fallback := true, good := true }).dom 1).good = true
      ∧ ((clocked fun q => { q with fallback := true, back := false }).dom 1).back = false
      ∧ ((clocked fun q => { q with good := false }).dom 1).good = false ∧ ((clocked fun q => { q with locked := false }).dom 1).locked = false
      ∧ ((clocked fun q => { q with locked := true }).dom 1).locked = true)
    ∧ up.domWclk 1 = false := by
  and_intros <;> first | decide +kernel | exact meets (by decide +kernel) trivial | exact meets (by decide +kernel) (by decide +kernel)

/-- TDM port 3 is enabled in domain B; or it runs there and is enabled no more. -/
def ported : State := up.wrN (kTdm 3) 0xC0000000
def stopping : State := up.setTdmPort 3 { TdmPort.reset with running := true, ctl := 0xC0000000 }

/-- Sample voice 1023 or tone voice 63 alone sounds, in a state of its envelope, on the left and right of bus 0; END is given. -/
def sounding (v st last : Nat) : State :=
  let s := up.setVoice v { Voice.reset with st := st, lv := 0x7FFFFFFF }
  { s with audio := { s.audio with active := [(kVoice v 0x10, BitVec.ofNat 32 last), (kVoice v 0x14, 0x10000), (kVoice v 0x2C, 0x80)] } }

/-- The left channel of bus 2 goes to both channels of pair 47. -/
def routed : State :=
  let z : ZcVal := { now := 0x04008000, wait := none, last := 0, lastO := 0, fade := none }
  (((up.wr (kOut 94) 0x04008000).wr (kOut 95) 0x04008000).setRoute 94 z).setRoute 95 z

/-- Pair 47 waits for its swap. -/
def swapping : State := { up with audio := { up.audio with swaps := [(3, 47)] } }

/-- What the sample and tone voices need to sound. -/
def sounds (s : State) (v : Nat) : Bool :=
  let y := s.voice v
  s.mode.voiceOn && s.mode != .hold && Sparse.sorted s.audio.voices && s.audio.swaps.isEmpty && decide (1 ≤ y.st) && decide (y.st ≤ 4)
    && !(y.reqOn || y.reqOff || y.reqKill || y.inOn || y.inOff || y.memOn || y.memOff) && !y.late

theorem witness_SampleAndFrameBoundaries :
    State.reset.mode.voiceOn = false ∧ (up.mode.voiceOn = true ∧ up.mode ≠ .hold)
    ∧ ({ up with mode := .hold }.mode.voiceOn = true ∧ { up with mode := .hold }.mode = .hold)
    ∧ ((up.voice 1023).st = 0 ∧ (up.voice 1023).reqOn = false ∧ (up.voice 1023).reqOff = false ∧ (up.voice 1023).reqKill = false
      ∧ (up.voice 1023).inOn = false ∧ (up.voice 1023).inOff = false ∧ (up.voice 1023).memOn = false ∧ (up.voice 1023).memOff = false)
    ∧ (ported.mode.voiceOn = true ∧ ported.tdmDom 3 = true.toNat ∧ ported.audPlan.tdmBench 3 ≠ none
      ∧ (ported.bit (kTdm 3) 31 && ported.fld (kTdm 3) 30 30 == true.toNat && (ported.audPlan.tdmBench 3).isSome && !ported.dozeAsk) = true)
    ∧ ((stopping.tdmPort 3).running = true ∧ stopping.tdmDom 3 = true.toNat ∧ stopping.bit (kTdm 3) 31 = false)
    ∧ ((clocked fun q => { q with back := true }).dom 1).back = true
    ∧ (swapping.audio.swaps = [(3, 47)] ∧ swapping.itemBench 3 47 = some 0 ∧ kPair 47 0xC ∈ pagedKeys 3 47 ∧ up.audPlan.busBench 63 = some 0)
    ∧ (routed.audPlan.outBench 94 = some 0 ∧ (routed.route 95).wait = none ∧ (routed.route 95).fade = none
      ∧ (routed.route 95).now = routed.rd (kOut 95) ∧ wfld (routed.route 95).now 31 24 = 4 ∧ (routed.route 94).now = routed.rd (kOut 94)
      ∧ routed.audPlan.busBench (4 / 2) = some 0)
    ∧ (sounds (sounding 1023 1 4) 1023 = true ∧ up.audPlan.voiceBench 1023 = some 0 ∧ ((sounding 1023 1 4).playParams 0 1023).fmt = 0
      ∧ (sounding 1023 1 4).pcmAt ((sounding 1023 1 4).playParams 0 1023) 0 = some 0
      ∧ (sounding 1023 1 4).pcmAt ((sounding 1023 1 4).playParams 0 1023) (((sounding 1023 1 4).playParams 0 1023).next 0) = some 0
      ∧ ((sounding 1023 1 4).voice 1023).pos ≠ ((sounding 1023 1 4).playParams 0 1023).stop
      ∧ ((sounding 1023 1 4).audio.voices.map (·.1)) = [1023] ∧ nbit ((sounding 1023 1 4).act (kVoice 1023 0x2C)).toNat 7 = true
      ∧ up.audPlan.busBench 0 = some 0)
    ∧ (sounds (sounding 1023 4 0) 1023 = true ∧ ((sounding 1023 4 0).voice 1023).pos = ((sounding 1023 4 0).playParams 0 1023).stop
      ∧ ((sounding 1023 4 0).playParams 0 1023).loopOn = false ∧ ((sounding 1023 4 0).playParams 0 1023).stop < 0 + (0 + 0x10000) / 65536)
    ∧ (sounds (sounding 1087 2 0) 1087 = true ∧ up.audPlan.toneBench (1087 - 1024) = some 0) := by
  and_intros <;> decide +kernel

/-! ### What is not well formed -/

/-- A specifier with no extension that carries one. -/
def overlong : Operand := { spec := 24, ext := 1 }

theorem test_wf_accesses :
    wellFormed (.registerWrite (.device host 0x3000000000) 3 0) = false
    ∧ wellFormed (.registerWrite (.device host 0x3000000002) 4 0) = false
    ∧ wellFormed (.registerWrite (.host 0 .bar0 0x1FFFFFE) 4 0) = false
    ∧ wellFormed (.registerWrite (.host 0 .config 0x3) 2 0) = false
    ∧ wellFormed (.registerWrite (.hostPoisoned 0 .config 0x4) 4 0) = false
    ∧ wellFormed (.readClear (.hostPoisoned 0 .bar0 0) 4) = false
    ∧ wellFormed (.readClear (.device host 0x3000000001) 2) = false
    ∧ wellFormed (.stagedWrite host 0x3001000002 4 0) = false ∧ wellFormed (.paletteWrite host 0x3001010000 3 0) = false
    ∧ wellFormed (.shadowWrite host 0x3002000201 4 0) = false ∧ wellFormed (.coreWinWrite host (.scene 0) 2 4 0) = false := by decide

theorem test_wf_host_spaces :
    wellFormed (.bar0AccessBad 0 0x10 4 false 0) = false ∧ wellFormed (.bar0AccessBad 0 0x2000000 2 false 0) = false
    ∧ wellFormed (.bar0AccessBad 0 0x10 0 false 0) = false
    ∧ wellFormed (.bar2Read 0 0 ⟨0, none⟩) = false ∧ wellFormed (.bar2Read 0 0 ⟨4097, none⟩) = false ∧ wellFormed (.bar2Write 0 0 [] false) = false
    ∧ wellFormed (.doorbellWrite 0 0x8000 4 0) = false ∧ wellFormed (.doorbellWrite 0 0 2 0) = false
    ∧ wellFormed (.bar4BadAccess 0 0x10 4 false 0) = false := by decide

theorem test_wf_data_from_outside :
    wellFormed (.ringEntryFetched 0 (.data [1])) = false ∧ wellFormed (.carterDescriptorFetched 0 (.data [1])) = false
    ∧ wellFormed (.auxReply 0 (.ack (List.replicate 17 0))) = false ∧ wellFormed (.surfaceReadReturn 0 5 4 false) = false
    ∧ wellFormed (.tdmFrame false [(0, 0, 0), (0, 0, 1)]) = false
    ∧ wellFormed (.scrubStep [(1, .corrected), (1, .uncorrectable)]) = false ∧ wellFormed (.sensorSample [(3, 0), (3, 1)]) = false := by decide

theorem test_wf_instructions :
    wellFormed (.undefinedOpcode (.scene 0) 0x200) = false ∧ wellFormed (.rep word 1 (.str .smov)) = false ∧ wellFormed (.repm word 0 (.str .smov)) = false
    ∧ wellFormed (.repd word 1 (.str .smov)) = false ∧ wellFormed (.rep word 0 (.str (.sset overlong))) = false
    ∧ wellFormed (.add word overlong (xr 1) (xr 2)) = false ∧ wellFormed (.trap word overlong) = false := by decide

theorem test_wf_payload (payload : List Byte) (h : 65520 < payload.length) (f : Frame) :
    wellFormed (.patchData f payload) = false ∧ wellFormed (.reboot f payload) = false := by
  simp only [wellFormed, payloadOk, decide_eq_false_iff_not]
  omega

/-! ### Values that the specification's text gives -/

/-- "Rings": with SIZE 8, PROD 5 and CONS 300, 217 entries wait. -/
theorem test_ring_waiting :
    ((({ up with ringNow := [(0, (BitVec.ofNat 32 (8 * 2 ^ 23), 0))] } : State).wrN (kRing 0 0xC) 5).wrN (kRing 0 0x10) 300).ringWaiting 0
      = 217 := by
  decide +kernel

/-- R228's example: SW 24 at SCALE_X 0x0155 is 32 columns, the first and last of which read columns 0 and 23. -/
theorem test_sprite_scale : outSize 24 0x0155 = 32 ∧ srcIndex 24 0x0155 0 false = 0 ∧ srcIndex 24 0x0155 31 false = 23 := by decide

/-- The worked example of "Scope": 3840 by 2160 at 120 Hz; a line lasts 5,760 CORE clocks, and the commit line is 52. -/
def example4k : Head :=
  { up.head 0 with copy := [0x0F500F00, 0, 0x08AE0870, 0x00380000, BitVec.ofNat 32 (3072000000 * 2 ^ 24 / 1045228800), 0x22, 0, 0] }

theorem test_example_head : example4k.clockBase = 5760 ∧ example4k.commitLine 0 = some 52 ∧ example4k.rlead = 2 := by decide +kernel

/-- R144: C of an addition is the carry out, of a subtraction its opposite of a borrow; V the signed overflow. -/
theorem test_add_sub :
    opAdd 32 0xFFFFFFFF 1 false = (0, { z := true, n := false, c := true, v := false })
    ∧ opAdd 8 0x7F 1 false = (0x80, { z := false, n := true, c := false, v := true })
    ∧ opSub 16 3 5 false = (0xFFFE, { z := false, n := true, c := false, v := false })
    ∧ opSub 16 5 5 false = (0, { z := true, n := false, c := true, v := false }) := by decide

/-- R149: the saturating sums. -/
theorem test_saturation : (opQadd 8 0x7F 1).1 = 0x7F ∧ (opQsub 8 0x80 1).1 = 0x80 ∧ (opQaddu 8 0xFF 1).1 = 0xFF ∧ (opQsubu 8 1 2).1 = 0 := by
  decide

/-- R435: while TB runs, a write of the low half alone changes no C, and one of the high half joins both. -/
theorem test_cmp_halves :
    (match exec (.cmpValLoWrite host 63 0x11111111) up with
      | .next t => (match exec (.cmpValWrite host 63 false 0x22222222) t with
        | .next u => (t.cmp 63).flight == [] && (u.cmp 63).flight == [(.val 0x2222222211111111, false)]
        | _ => false)
      | _ => false) = true := by decide +kernel

/-- R13, R71: a 2-byte host write of BAR0 ends, and its bench goes on. -/
theorem test_bad_width : (match exec (.bar0AccessBad 0 0x10 2 true 0) up with
    | .next t => t.mode == .run && t.rd (kBench 0 0x10) == 0xFFFFFFFF
    | _ => false) = true := by decide +kernel

/-- R587: 500 ms after the island's start the indicators show the mode. -/
theorem test_lamps :
    up.lampRun = .on ∧ ({ up with tb := 48000000, mode := .doze } : State).lampRun = .blink 2000
    ∧ ({ up with tb := 48000000, mode := .limp } : State).lampFault = .blink 500
    ∧ ({ up with tb := 48000000 } : State).lampFault = .off := by decide

end Sys2Proof.Tests
end

section
/-!
PROOFS. The results of the Pyriva instructions that add and subtract, saturate, shift and rotate, and handle bit fields (R143, R144,
R147 to R149). Each instruction is the shared driver over one pure function of the operand values, which gives a value and its
flags; a statement then comes down to what that function gives.
-/
namespace Sys2Proof.Machine

/-! ### The driver over a third operand -/

/-- The result of an operation whose value goes to its third operand. -/
def Result.third (base : Nat) (p : Nat × Flags) : Result :=
  { writes := [none, none, some p.1], flags := some p.2, base := base }

/-- A result chosen by a condition is the result of the choice: a table of amounts is one of values. -/
theorem Result.third_ite (base : Nat) (c : Prop) [Decidable c] (p q : Nat × Flags) :
    Result.third base (if c then p else q) = if c then Result.third base p else Result.third base q :=
  apply_ite (Result.third base) c p q

/-- An instruction of VAR kind S whose driver writes the value of `p` to its third operand and sets the flags of `p` computes `p`. -/
theorem computes_third {i : Instr} {g : Guard} {slots : List Slot} {base : Nat} {f : (Nat → Nat) → Flags → Result}
    (p : (Nat → Nat) → Flags → Nat × Flags)
    (hi : ∀ s, exec i s = .next (s.compute g (varBadS g.var) slots fun x => .ok {
      writes := [none, none, some (p x.val (flagsRead x.flags.toNat)).1]
      flags := some (p x.val (flagsRead x.flags.toNat)).2
      jump := none
      base := base }))
    (hf : ∀ x c, Result.third base (p x c) = f x c) : Computes i g (partsS g slots) slots f :=
  computes_of hi fun x => by rw [← hf]; rfl

/-- An instruction of two sources and a destination computes the function of the two values that its driver takes. -/
theorem computes_two {i : Instr} {g : Guard} {a b d : Operand} {base : Nat} {f : (Nat → Nat) → Flags → Result}
    (p : Nat → Nat → Nat → Nat × Flags) (hi : ∀ s, exec i s = .next (s.compute2 g a b d base p))
    (hf : ∀ x c, Result.third base (p (8 * sizeS g) (x 0) (x 1)) = f x c) :
    Computes i g (partsS g [srcSlot (sizeS g) a, srcSlot (sizeS g) b, dstSlot (sizeS g) d])
      [srcSlot (sizeS g) a, srcSlot (sizeS g) b, dstSlot (sizeS g) d] f :=
  computes_third (fun x _ => p (8 * sizeS g) (x 0) (x 1)) hi hf

/-! ### Sums and differences (R144) -/

/-- A sum with no carry in. -/
theorem opAdd_noCarry (n a b : Nat) :
    opAdd n a b false
      = ((a + b) % 2 ^ n, flagsOf n ((a + b) % 2 ^ n) (decide (2 ^ n ≤ a + b)) (!fits n (sgn n a + sgn n b))) := by
  simp [opAdd]

/-- A difference without the carry flag borrows 1 less C. -/
theorem opSub_not_carry (n a b : Nat) (c : Bool) :
    opSub n a b (!c) =
      (narrow n (Int.ofNat a - Int.ofNat b - Int.ofNat (1 - c.toNat)),
       flagsOf n (narrow n (Int.ofNat a - Int.ofNat b - Int.ofNat (1 - c.toNat))) (decide (b + (1 - c.toNat) ≤ a))
         (!fits n (sgn n a - sgn n b - Int.ofNat (1 - c.toNat)))) := by
  cases c <;> rfl

/-- Settles O22: the driver over `opAdd` and `opSub`, with the carry in that each instruction takes. -/
theorem addSubtractAndAccumulate : Obligations.AddSubtractAndAccumulate := by
  intro g a b d k n two minus gap
  refine ⟨?add, ?adc, ?sub, ?sbc, ?neg, ?cmp, ?mac⟩
  case add =>
    refine computes_two (opAdd · · · false) (fun _ => rfl) fun x _ => ?_
    rw [opAdd_noCarry]; rfl
  case adc => exact computes_third (fun x f => opAdd n (x 0) (x 1) f.c) (fun _ => rfl) fun _ _ => rfl
  case sub => exact computes_two (opSub · · · false) (fun _ => rfl) fun _ _ => rfl
  case sbc =>
    refine computes_third (fun x f => opSub n (x 0) (x 1) !f.c) (fun _ => rfl) fun x f => ?_
    rw [opSub_not_carry]; rfl
  case neg => exact computes_of (fun _ => rfl) fun _ => rfl
  case cmp => exact computes_of (fun _ => rfl) fun _ => rfl
  case mac =>
    refine computes_third (fun x _ => opAdd n (x 2) (opMul n (x 0) (x 1)).1 false) (fun _ => rfl) fun x _ => ?_
    rw [opAdd_noCarry]; rfl

/-! ### Saturation and limits (R149) -/

/-- Settles O24: the driver over the function of each row. -/
theorem saturatingAndLimitResults : Obligations.SaturatingAndLimitResults := by
  intro g a b d k n two row held
  refine ⟨?qadd, ?qaddu, ?qsub, ?qsubu, ?mins, ?maxs, ?minu, ?maxu⟩
  case qadd => exact computes_two opQadd (fun _ => rfl) fun _ _ => rfl
  case qaddu => exact computes_two opQaddu (fun _ => rfl) fun _ _ => rfl
  case qsub => exact computes_two opQsub (fun _ => rfl) fun _ _ => rfl
  case qsubu => exact computes_two opQsubu (fun _ => rfl) fun _ _ => rfl
  case mins => exact computes_two opMins (fun _ => rfl) fun _ _ => rfl
  case maxs => exact computes_two opMaxs (fun _ => rfl) fun _ _ => rfl
  case minu => exact computes_two opMinu (fun _ => rfl) fun _ _ => rfl
  case maxu => exact computes_two opMaxu (fun _ => rfl) fun _ _ => rfl

/-! ### Shifts and rotates (R147) -/

/-- Settles O26: each function's branches are the rows of the table of amounts. -/
theorem shiftAndRotateTable : Obligations.ShiftAndRotateTable := by
  intro g a m d k n two row rol ror
  refine ⟨?shl, ?shr, ?sar, ?rol, ?ror⟩
  case shl =>
    refine computes_two opShl (fun _ => rfl) fun x _ => ?_
    simp only [opShl, Result.third_ite]; rfl
  case shr =>
    refine computes_two opShr (fun _ => rfl) fun x _ => ?_
    simp only [opShr, Result.third_ite]; rfl
  case sar =>
    refine computes_two opSar (fun _ => rfl) fun x _ => ?_
    simp only [opSar, Result.third_ite]; rfl
  case rol =>
    refine computes_two opRol (fun _ => rfl) fun x _ => ?_
    simp only [opRol, Result.third_ite]; rfl
  case ror =>
    refine computes_two opRor (fun _ => rfl) fun x _ => ?_
    simp only [opRor, Result.third_ite]; rfl

/-! ### Bit fields (R148) -/

/-- The field starts at the bit that f[5:0] names. -/
theorem fieldPos_eq (f : Nat) : fieldPos f = f % 64 := by
  simp [fieldPos, nfld]

/-- The field's width is f[13:8], 0 meaning 64. -/
theorem fieldMask_eq (f : Nat) : fieldMask f = 2 ^ (if f / 256 % 64 = 0 then 64 else f / 256 % 64) - 1 := by
  simp [fieldMask, nfld, Nat.shiftRight_eq_div_pow]

/-- Settles O27: the driver over `opBfx` and `opBfi`, whose position and mask are the fields of `f`. -/
theorem bitFieldResults : Obligations.BitFieldResults := by
  intro g a f d k n pos width mask
  constructor
  · refine computes_third (fun x _ => opBfx n (x 0) (x 1)) (fun _ => rfl) fun x _ => ?_
    rw [opBfx, fieldPos_eq, fieldMask_eq]; rfl
  · refine computes_third (fun x _ => opBfi n (x 0) (x 1) (x 2)) (fun _ => rfl) fun x _ => ?_
    rw [opBfi, fieldPos_eq, fieldMask_eq]; rfl

end Sys2Proof.Machine
end
